-- ==== Sys2Proof/Word.lean ====
section
/-! DEFINITION. The words of the part: bytes at the host link, the radio line and in page memory, and the
two CRC registers (R141, R159). Numbers that the manual only counts or compares are `Nat` or `Int`. -/

namespace Sys2Proof

/-- A byte of a packet, of the radio line or of page memory. -/
abbrev Byte := BitVec 8

/-- The register of the frame CRC-16 (R141). -/
abbrev Word16 := BitVec 16

/-- The register of the segment CRC-32 (R159), and an expected CRC-32 (R151). -/
abbrev Word32 := BitVec 32

end Sys2Proof
end

