-- ==== Sys2Proof/Names.lean ====
section
/-! DEFINITION. The manual's named values: states, causes, kinds, selections and settings that are one of a
fixed list of names, and the rectangle of R1. -/

namespace Sys2Proof

/-- A rectangle in pixels, x and y its upper left corner (R1). -/
structure Rect where
  x : Nat := 0
  y : Nat := 0
  w : Nat := 0
  h : Nat := 0
  deriving DecidableEq, Repr

/-- The power states of the part (R168). -/
inductive PowerMode | active | doze | settling | standby | waking
  deriving DecidableEq, Repr

/-- What woke the part (R168, R177). -/
inductive WakeCause | key (k : Nat) | cover (k : Nat) | radio | link
  deriving DecidableEq, Repr

/-- Where page memory stands in its self-refresh sequence (R15, R178): in use; being placed in self-refresh;
being placed while a wake already waits; in self-refresh; being brought out. -/
inductive Refresh | awake | entering | enteringWakeAsked | inRefresh | leaving
  deriving DecidableEq, Repr

/-- State of a waveform slot (R17). -/
inductive SlotState | empty | loading | valid
  deriving DecidableEq, Repr

/-- Kind of a waveform table (R17). -/
inductive SlotKind | partialOk | fullOnly
  deriving DecidableEq, Repr

/-- The edge of a table a temperature lies beyond (R32). -/
inductive TempEdge | low | high
  deriving DecidableEq, Repr

/-- The temperature sample timer (R28, R30): stopped, running with the period it was loaded with, or its first
expiry immediate after a filter restart. -/
inductive SampleTimer | stopped | running (period : Nat) | due
  deriving DecidableEq, Repr

/-- Which pixels of its rectangle an update drives (R36). -/
inductive Selection | all | changed
  deriving DecidableEq, Repr

/-- The source of an update (R36). -/
inductive Source | target | leaf (n : Nat)
  deriving DecidableEq, Repr

/-- Who asked for an update (R36). -/
inductive Origin | host | turn
  deriving DecidableEq, Repr

/-- State of a lane (R36). -/
inductive LaneState | free | preparing | armed | driving
  deriving DecidableEq, Repr

/-- What one pixel receives at one frame event (R26, R48). -/
inductive DriveCode | none | darken | lighten
  deriving DecidableEq, Repr

/-- Outcome of a host update (R38). -/
inductive UpdateOutcome | done | cancelled | railFault | uncertain | reset
  deriving DecidableEq, Repr

/-- State of the panel rails (R63). -/
inductive RailMode | off | rising | on | hold | falling | fault
  deriving DecidableEq, Repr

/-- Why the rails entered FAULT (R63). -/
inductive FaultCause | riseTimeout | powerLost
  deriving DecidableEq, Repr

/-- State of a leaf record (R82). -/
inductive LeafMode | filling | ready | shown
  deriving DecidableEq, Repr

/-- Edge mark of a leaf (R81). -/
inductive EdgeMark | first | last
  deriving DecidableEq, Repr

/-- Direction of a turn, +1 or -1 (R81). -/
inductive TurnDir | next | prev
  deriving DecidableEq, Repr

/-- Kind of a turn (R92). -/
inductive TurnKind | full | partialTurn
  deriving DecidableEq, Repr

/-- Cause of TURN_MISS, in the order of R189. -/
inductive MissCause | sleep | noCurrent | absent | filling | slot | rail | queue | uncertain
  deriving DecidableEq, Repr

/-- Level of a key input (R104). -/
inductive Level | low | high
  deriving DecidableEq, Repr

/-- Debounced level of a key (R105). -/
inductive Debounced | active | inactive | unknown
  deriving DecidableEq, Repr

/-- Mode of a key (R104). -/
inductive KeyMode | edge | level
  deriving DecidableEq, Repr

/-- Action of a key (R104). -/
inductive KeyAction | none | report | turnNext | turnPrev | lightUp | lightDown | sleep | cover
  deriving DecidableEq, Repr

/-- Kind of a key event: PRESS, RELEASE, REPEAT (R108, R109). -/
inductive KeyEvent | press | release | again
  deriving DecidableEq, Repr

/-- An input's part in wake sensing (R105, R113). -/
inductive SleepSense | none | watch | wait
  deriving DecidableEq, Repr

/-- Rate of the radio line, in the order of R134. -/
inductive Rate | b115200 | b460800 | b921600 | b1843200 | b3000000
  deriving DecidableEq, Repr

/-- State of the frame assembler (R134). -/
inductive AsmState | hunt | header | payload | check
  deriving DecidableEq, Repr

/-- Type of a radio frame (R139). -/
inductive FrameType | data | keep
  deriving DecidableEq, Repr

/-- Cause of a line note (R137). -/
inductive NoteCause | framing | overrun | brk
  deriving DecidableEq, Repr

/-- The radio receiver (R135, R146, R147): stopped, looking for the line high before a start bit, or ready for one. -/
inductive Receiver | stopped | seekHigh | ready
  deriving DecidableEq, Repr

/-- The thirteen counts of the radio port (R144). -/
inductive CountKind
  | framing | noise | overrun | brk | truncated | gap | header | crc | broken | frames | orphan | holdOn | wake
  deriving DecidableEq, Repr

/-- The kinds of RADIO_ERROR, in the order of the table of R144. -/
inductive RadioErrorKind | framing | noise | overrun | truncated | gap | header | crc
  deriving DecidableEq, Repr

/-- State of a stream record (R149). -/
inductive StreamMode | closed | opened | running | paused | ended | failed
  deriving DecidableEq, Repr

/-- Why a stream is paused (R149). -/
inductive PauseCause | gap | full | starved | stall | host | sleep
  deriving DecidableEq, Repr

/-- Why a stream failed (R149). -/
inductive FailCause | crc | overrun
  deriving DecidableEq, Repr

/-- Why a stream was closed (R149). -/
inductive ClosingCause | host | closedByReset
  deriving DecidableEq, Repr

/-- What a full stream ran into (R157). -/
inductive FullCause | limit | pool
  deriving DecidableEq, Repr

/-- State of a segment descriptor (R151). -/
inductive SegState | waiting | active | done | failed
  deriving DecidableEq, Repr

/-- End action of a segment (R151). -/
inductive EndAction | notify | chain | halt
  deriving DecidableEq, Repr

/-- Cause of LINK_ERROR, in the order of R189. -/
inductive LinkErrorCause | selector | overflow | long | short | stall
  deriving DecidableEq, Repr

/-- Which reset RESET_DONE tells of (R188). -/
inductive ResetKind | powerOn | pin
  deriving DecidableEq, Repr

/-- The statuses of a reply, in the order of section 11.3. -/
inductive Status
  | ok | accepted | badParam | badLength | unknown | locked | busy | notIdle | queueFull | noSpace | slotInvalid
  | slotBusy | regionBusy | noSuch | railFault | state
  deriving DecidableEq, Repr

/-- The report kinds, in the order of R193. -/
inductive ReportKind
  | resetDone | updateDone | turnDone | turnMiss | turnEdge | cacheLow | leafEvicted | tableDone | tableBad
  | tempOutside | railFault | lowBattery | key | lightLevel | radioError | streamGap | streamFull | streamStarved
  | streamStall | segmentDone | segmentBad | streamFailed | streamEnded | streamStaged | wake | radioWake
  | packetRefused | linkError
  deriving DecidableEq, Repr

end Sys2Proof
end

