-- ==== Sys2Proof/Syntax.lean ====
section
/-! DEFINITION. The commands of the part: one constructor of `Instr` for each of the 81 rows of
spec/opcode_table.json, with the contents the rows' rules give them. Numbers are held as `Nat` (`Int` for a
temperature), with their widths at the port in WellFormed. -/

namespace Sys2Proof

/-- What the parsing of R191 makes of a COMMAND body whose code is known: its fields, or one of the two faults
found before the owner acts. -/
inductive Body (α : Type)
  | fields (a : α)
  | badLength
  | badParam
  deriving DecidableEq, Repr

/-- A COMMAND body that names no command (R183, R191): too short to hold a code and a tag, or an unknown code. -/
inductive UnknownBody
  | short
  | code (code tag : Nat)
  deriving DecidableEq, Repr

/-- PANEL_SETUP(W, H) (R7). -/
structure PanelArgs where
  width : Nat
  height : Nat
  deriving DecidableEq, Repr

/-- WAVE_LOAD (R20). -/
structure WaveLoadArgs where
  slot : Nat
  kind : SlotKind
  partner : Option Nat
  bandCount : Nat
  lower : Int
  uppers : List Int
  frames : List Nat
  deriving DecidableEq, Repr

/-- TEMP_SETUP(period, H) (R34). -/
structure TempArgs where
  period : Nat
  hyst : Nat
  deriving DecidableEq, Repr

/-- UPDATE, less its tag (R37). -/
structure UpdateArgs where
  rect : Rect
  slot : Nat
  selection : Selection
  source : Source
  keepLeaf : Bool
  shows : Option Nat
  deriving DecidableEq, Repr

/-- RAIL_SETUP(rise timeout, fall time, hold time) (R73). -/
structure RailArgs where
  rise : Nat
  fall : Nat
  hold : Nat
  deriving DecidableEq, Repr

/-- BUDGET_SETUP(B, B_low, I_base, q) (R79). -/
structure BudgetArgs where
  normal : Nat
  low : Nat
  base : Nat
  coeff : Nat
  deriving DecidableEq, Repr

/-- LEAF_FILL (R83). -/
structure LeafFillArgs where
  leaf : Nat
  background : Nat
  turnSlot : Option Nat
  edge : Option EdgeMark
  deriving DecidableEq, Repr

/-- SHOW_LEAF, less its tag and its declare mark (R89). -/
structure ShowLeafArgs where
  leaf : Nat
  slot : Option Nat
  selection : Option Selection
  deriving DecidableEq, Repr

/-- The five settings of the page cache (R100); a slot given as unset is `none`. -/
structure CacheArgs where
  lowWater : Nat
  cadence : Nat
  guardDist : Nat
  partialSlot : Option Nat
  fullSlot : Option Nat
  deriving DecidableEq, Repr

/-- One input's configuration (R104). -/
structure KeyConfig where
  enabled : Bool := false
  active : Level := .low
  mode : KeyMode := .edge
  debounce : Nat := 10
  hold : Nat := 0
  period : Nat := 25
  action : KeyAction := .none
  lightStep : Nat := 5
  wakeEnable : Bool := false
  deriving DecidableEq, Repr

/-- KEY_SETUP (R116). -/
structure KeyArgs where
  key : Nat
  config : KeyConfig
  deriving DecidableEq, Repr

/-- LIGHT_SET (R130). -/
structure LightSetArgs where
  level : Option Nat
  warmth : Option Nat
  deriving DecidableEq, Repr

/-- LIGHT_SETUP (R132). -/
structure LightSetupArgs where
  ramp : Nat
  dim : Nat
  dwell : Nat
  warmCeiling : Option Nat
  coolCeiling : Option Nat
  floor : Option Nat
  deriving DecidableEq, Repr

/-- RADIO_SETUP (R146). -/
structure RadioArgs where
  enabled : Bool
  rate : Rate
  gap : Nat
  wake : Bool
  deriving DecidableEq, Repr

/-- The pattern field of a segment descriptor as given: pattern bytes and mask bytes; no pattern bytes is the explicit
pattern NONE (R151, R189). -/
structure PatternField where
  bytes : List Byte
  mask : List Byte
  deriving DecidableEq, Repr

/-- A segment descriptor as a command gives it (R151); an optional field left out is `none`. -/
structure DescriptorArgs where
  count : Option Nat
  crc : Option Word32
  pattern : Option PatternField
  action : EndAction
  deriving DecidableEq, Repr

/-- STREAM_OPEN (R152). -/
structure StreamOpenArgs where
  id : Nat
  sequence : Nat
  limit : Nat
  threshold : Nat
  stall : Nat
  segments : List DescriptorArgs
  deriving DecidableEq, Repr

/-- SEGMENT_ADD (R153). -/
structure SegmentAddArgs where
  id : Nat
  segments : List DescriptorArgs
  deriving DecidableEq, Repr

/-- STREAM_RESUME (R162). -/
structure ResumeArgs where
  id : Nat
  sequence : Option Nat
  deriving DecidableEq, Repr

/-- A TILE body whose destination is not LEAF (R55, R192): shorter than its header, or a destination byte (0 is TARGET),
a rectangle and the pixel part. -/
inductive TileBody
  | short
  | tile (dest : Nat) (rect : Rect) (pixels : List Byte)
  deriving DecidableEq, Repr

/-- The three samples that the receiver takes of one bit near its middle (R135); true is high. -/
structure BitSamples where
  first : Bool
  second : Bool
  third : Bool
  deriving DecidableEq, Repr

/-- The input levels a power-on or pin reset samples (R74, R80, R105). -/
structure InputLevels where
  powerGood : Bool
  lowbat : Bool
  keys : Vector Level 6
  deriving DecidableEq, Repr

/-- The commands and events of the part, one constructor for each row of spec/opcode_table.json, in its order. -/
inductive Instr
  /-- PANEL_SETUP (R7). -/
  | panelSetup (tag : Nat) (b : Body PanelArgs)
  /-- POOL_SETUP (R9). -/
  | poolSetup (tag : Nat) (b : Body Nat)
  /-- WAVE_LOAD (R20). -/
  | waveLoad (tag : Nat) (b : Body WaveLoadArgs)
  /-- WAVE_ABORT (R24). -/
  | waveAbort (tag : Nat) (b : Body Unit)
  /-- WAVE_DROP (R25). -/
  | waveDrop (tag : Nat) (b : Body Nat)
  /-- TEMP_SETUP (R34). -/
  | tempSetup (tag : Nat) (b : Body TempArgs)
  /-- UPDATE (R37). -/
  | update (tag : Nat) (b : Body UpdateArgs)
  /-- UPDATE_CANCEL (R53); the tag is the tag it searches for. -/
  | updateCancel (tag : Nat) (b : Body Unit)
  /-- SCAN_SETUP (R61). -/
  | scanSetup (tag : Nat) (b : Body Nat)
  /-- RAIL_SETUP (R73). -/
  | railSetup (tag : Nat) (b : Body RailArgs)
  /-- RAIL_CLEAR (R72). -/
  | railClear (tag : Nat) (b : Body Unit)
  /-- BUDGET_SETUP (R79). -/
  | budgetSetup (tag : Nat) (b : Body BudgetArgs)
  /-- LEAF_FILL (R83). -/
  | leafFill (tag : Nat) (b : Body LeafFillArgs)
  /-- LEAF_CLOSE (R86). -/
  | leafClose (tag : Nat) (b : Body Nat)
  /-- LEAF_DROP (R87). -/
  | leafDrop (tag : Nat) (b : Body Nat)
  /-- SHOW_LEAF with the declare mark clear (R89). -/
  | showLeaf (tag : Nat) (b : Body ShowLeafArgs)
  /-- SHOW_LEAF with the declare mark set (R90). -/
  | showLeafDeclare (tag : Nat) (a : ShowLeafArgs)
  /-- CACHE_SETUP (R100). -/
  | cacheSetup (tag : Nat) (b : Body CacheArgs)
  /-- CACHE_QUERY (R101). -/
  | cacheQuery (tag : Nat) (b : Body Unit)
  /-- KEY_SETUP (R116). -/
  | keySetup (tag : Nat) (b : Body KeyArgs)
  /-- KEY_QUERY (R117). -/
  | keyQuery (tag : Nat) (b : Body Unit)
  /-- LIGHT_CURVE (R131). -/
  | lightCurve (tag : Nat) (b : Body (List Nat))
  /-- LIGHT_SET (R130). -/
  | lightSet (tag : Nat) (b : Body LightSetArgs)
  /-- LIGHT_SETUP (R132). -/
  | lightSetup (tag : Nat) (b : Body LightSetupArgs)
  /-- RADIO_SETUP (R146). -/
  | radioSetup (tag : Nat) (b : Body RadioArgs)
  /-- STREAM_OPEN (R152). -/
  | streamOpen (tag : Nat) (b : Body StreamOpenArgs)
  /-- SEGMENT_ADD (R153). -/
  | segmentAdd (tag : Nat) (b : Body SegmentAddArgs)
  /-- STREAM_PAUSE (R162). -/
  | streamPause (tag : Nat) (b : Body Nat)
  /-- STREAM_RESUME (R162). -/
  | streamResume (tag : Nat) (b : Body ResumeArgs)
  /-- STREAM_CLOSE (R165). -/
  | streamClose (tag : Nat) (b : Body Nat)
  /-- STREAM_QUERY (R165). -/
  | streamQuery (tag : Nat) (b : Body Nat)
  /-- DRAIN_SELECT (R164). -/
  | drainSelect (tag : Nat) (b : Body Nat)
  /-- DOZE (R171). -/
  | doze (tag : Nat) (b : Body (Option Nat))
  /-- SLEEP (R171). -/
  | sleep (tag : Nat) (b : Body Unit)
  /-- WAKE_MASK (R169); the list holds kind numbers. -/
  | wakeMask (tag : Nat) (b : Body (List Nat))
  /-- STATUS (R185). -/
  | status (tag : Nat) (b : Body Unit)
  /-- IDENTIFY (R185). -/
  | identify (tag : Nat) (b : Body Unit)
  /-- LINK_SETUP (R185). -/
  | linkSetup (tag : Nat) (b : Body Nat)
  /-- SETUP_END (R186). -/
  | setupEnd (tag : Nat) (b : Body Unit)
  /-- ENGINE_RESET (R187). -/
  | engineReset (tag : Nat) (b : Body Unit)
  /-- A COMMAND packet whose body names no command (R183, R191). -/
  | unknownCommand (b : UnknownBody)
  /-- A TILE packet for the update engine (R55). -/
  | tileTarget (b : TileBody)
  /-- A TILE packet with destination LEAF (R85). -/
  | tileLeaf (leaf : Nat) (rect : Rect) (pixels : List Byte)
  /-- A TABLE packet (R22). -/
  | table (body : List Byte)
  /-- A packet whose kind byte names no kind (R192). -/
  | unknownPacketKind (kind : Nat)
  /-- The host asserts chip select (R171). -/
  | chipSelectAssert
  /-- Bytes of a WRITE transaction after its selector (R182); more bytes of one transaction may follow in another row. -/
  | write (bytes : List Byte)
  /-- The selector READ-MESSAGE (R181). -/
  | readMessage
  /-- The selector READ-DRAIN (R164, R181). -/
  | readDrain
  /-- A selector that names no transaction (R181). -/
  | voidTransaction
  /-- The host releases chip select (R181, R182); `whole`: a read's last byte has been clocked out. -/
  | chipSelectRelease (whole : Bool)
  /-- The link stall timer expires (R182). -/
  | linkStallExpire
  /-- A complete character is received, its stop bit high (R135): the samples of its ten bits in line order, the start bit, the mark
  bit, and the eight data bits from the least significant on. -/
  | radioCharacter (start mark : BitSamples) (data : Vector BitSamples 8)
  /-- The line returns high within two character times after a low stop bit (R136). -/
  | radioLineReturn
  /-- The line stays low for two character times (R136). -/
  | radioBreak
  /-- The assembler takes the entry at the head of the FIFO (R139). -/
  | fifoTake
  /-- The frame gap timer expires (R142). -/
  | gapTimerExpire
  /-- A break is sensed on the watched line in STANDBY (R147). -/
  | radioBreakWake
  /-- The payload write in flight completes (R158). -/
  | payloadWriteDone
  /-- The stall timer of a stream record expires (R161). -/
  | stallTimerExpire (record : Nat)
  /-- The sample timer expires and the thermistor gives a reading (R28). -/
  | tempSample (reading : Int)
  /-- A lane's preparation time runs out (R45). -/
  | preparingEnd (lane : Nat)
  /-- A frame event (R47). -/
  | frameEvent
  /-- Power-good becomes present (R65). -/
  | powerGoodArrive
  /-- Power-good becomes absent (R70). -/
  | powerGoodLost
  /-- The rise timer expires (R66). -/
  | riseTimerExpire
  /-- The hold timer expires (R68). -/
  | holdTimerExpire
  /-- The fall timer expires (R69). -/
  | fallTimerExpire
  /-- The LOWBAT level changes to the given level (R76). -/
  | lowbatChange (asserted : Bool)
  /-- The raw level of a key input changes to the given level (R106). -/
  | keyInputChange (key : Nat) (level : Level)
  /-- A key's debounce timer expires (R106). -/
  | debounceExpire (key : Nat)
  /-- A key's hold timer expires (R109). -/
  | keyHoldExpire (key : Nat)
  /-- A key's repeat timer expires (R109). -/
  | keyRepeatExpire (key : Nat)
  /-- The light ramp timer expires (R124). -/
  | rampStep
  /-- The dwell timer expires (R126). -/
  | dwellExpire
  /-- The standby delay timer expires (R175). -/
  | standbyDelayExpire
  /-- The pool answers that page memory is in self-refresh (R15). -/
  | selfRefreshEntered
  /-- The pool answers that page memory is ready (R178). -/
  | wakingComplete
  /-- Power-on reset, with the input levels it samples (R188). -/
  | powerOnReset (inputs : InputLevels)
  /-- Pin reset, with the input levels it samples (R188). -/
  | pinReset (inputs : InputLevels)
  /-- After a break the line returns high (R136). -/
  | breakEnd
  deriving DecidableEq, Repr

end Sys2Proof
end

