-- ==== Sys2Proof/Messages.lean ====
section
/-! DEFINITION. What the part says to the host: the reports, the replies with the state they carry, the entries of the
message queue, packets and drain chunks (R180, R185, R101, R117, R165, R164). -/

namespace Sys2Proof

/-- A packet of the downstream buffer: its kind byte and its body (R180, R190). -/
structure Packet where
  kind : Nat
  body : List Byte
  deriving DecidableEq, Repr

/-- The reports, with their contents (R193 lists the kinds; the rules that raise them give the contents). -/
inductive Report
  | resetDone (k : ResetKind)
  | updateDone (tag : Nat) (outcome : UpdateOutcome) (promoted : Bool)
  | turnDone (leaf : Nat) (dir : TurnDir) (kind : TurnKind) (promoted : Bool)
  | turnMiss (dir : TurnDir) (wanted : Option Nat) (cause : MissCause)
  | turnEdge (leaf : Nat) (dir : TurnDir)
  | cacheLow (leaf : Nat) (dir : TurnDir) (count : Nat)
  | leafEvicted (leaf : Nat)
  | tableDone (slot : Nat)
  | tableBad (slot : Nat)
  | tempOutside (slot : Nat) (edge : TempEdge) (t : Int)
  | railFault (cause : FaultCause) (left : RailMode)
  | lowBattery
  | key (k : Nat) (kind : KeyEvent) (time : Nat)
  | lightLevel (level warmth : Nat)
  | radioError (kind : RadioErrorKind)
  | streamGap (id expected received : Nat)
  | streamFull (id : Nat) (cause : FullCause)
  | streamStarved (id length room : Nat)
  | streamStall (id expected : Nat)
  | segmentDone (id ordinal count : Nat) (crc : Word32)
  | segmentBad (id ordinal : Nat) (expected computed : Word32)
  | streamFailed (id : Nat) (cause : FailCause)
  | streamEnded (id ordinal : Nat)
  | streamStaged (id blocks bytes : Nat)
  | wake (cause : WakeCause)
  | radioWake
  | packetRefused (kind : Nat) (status : Status)
  | linkError (cause : LinkErrorCause)
  deriving DecidableEq, Repr

/-- The kind of a report (R193). -/
def Report.kind (r : Report) : ReportKind :=
  match r with
  | .resetDone _ => .resetDone
  | .updateDone _ _ _ => .updateDone
  | .turnDone _ _ _ _ => .turnDone
  | .turnMiss _ _ _ => .turnMiss
  | .turnEdge _ _ => .turnEdge
  | .cacheLow _ _ _ => .cacheLow
  | .leafEvicted _ => .leafEvicted
  | .tableDone _ => .tableDone
  | .tableBad _ => .tableBad
  | .tempOutside _ _ _ => .tempOutside
  | .railFault _ _ => .railFault
  | .lowBattery => .lowBattery
  | .key _ _ _ => .key
  | .lightLevel _ _ => .lightLevel
  | .radioError _ => .radioError
  | .streamGap _ _ _ => .streamGap
  | .streamFull _ _ => .streamFull
  | .streamStarved _ _ _ => .streamStarved
  | .streamStall _ _ => .streamStall
  | .segmentDone _ _ _ _ => .segmentDone
  | .segmentBad _ _ _ _ => .segmentBad
  | .streamFailed _ _ => .streamFailed
  | .streamEnded _ _ => .streamEnded
  | .streamStaged _ _ _ => .streamStaged
  | .wake _ => .wake
  | .radioWake => .radioWake
  | .packetRefused _ _ => .packetRefused
  | .linkError _ => .linkError

/-- The thirteen counts of the radio port (R144). -/
structure RadioCounts where
  framing : Nat := 0
  noise : Nat := 0
  overrun : Nat := 0
  brk : Nat := 0
  truncated : Nat := 0
  gap : Nat := 0
  header : Nat := 0
  crc : Nat := 0
  broken : Nat := 0
  frames : Nat := 0
  orphan : Nat := 0
  holdOn : Nat := 0
  wake : Nat := 0
  deriving DecidableEq, Repr

/-- The pool's contribution to STATUS (R2). -/
structure PoolStatus where
  free : Nat
  reserve : Nat
  planeSize : Nat
  planeBlocks : Nat
  waveBlocks : Nat
  leafBlocks : Nat
  stageBlocks : Nat
  deriving DecidableEq, Repr

/-- The waveform unit's contribution (R17). -/
structure WaveStatus where
  slots : List (SlotState × Option Nat)
  openSlot : Option Nat
  loadCounts : Option (Nat × Nat)
  lastRaw : Int
  filtered : Option Int
  samples : Nat
  saturated : Bool
  deriving DecidableEq, Repr

/-- The update engine's contribution (R36). -/
structure EngineStatus where
  lanes : List (LaneState × Option (Nat × Origin))
  pending : Nat
  uncertain : List Rect
  whole : Bool
  framePeriod : Nat
  scanning : Bool
  load : Nat
  deriving DecidableEq, Repr

/-- The rail controller's contribution (R63). -/
structure RailStatus where
  mode : RailMode
  cause : Option FaultCause
  powerGood : Bool
  armed : Nat
  rise : Nat
  fall : Nat
  hold : Nat
  deriving DecidableEq, Repr

/-- The budget unit's contribution (R75). -/
structure BudgetStatus where
  normal : Nat
  low : Nat
  base : Nat
  coeff : Nat
  lowbat : Bool
  effective : Nat
  load : Nat
  panel : Nat
  allowance : Nat
  budgetOver : Bool
  deriving DecidableEq, Repr

/-- The page cache's contribution (R81). -/
structure CacheStatus where
  leaves : Nat
  current : Option Nat
  anchor : Option Nat
  turning : Bool
  counter : Nat
  deriving DecidableEq, Repr

/-- The key unit's contribution (R105). -/
structure KeyStatus where
  inputs : List (Debounced × Bool)
  timestamp : Nat
  deriving DecidableEq, Repr

/-- The light unit's contribution (R119). -/
structure LightStatus where
  setLevel : Nat
  warmth : Nat
  level : Nat
  target : Nat
  dimmed : Bool
  dark : Bool
  hold : Bool
  allowance : Nat
  warmOut : Nat
  coolOut : Nat
  limited : Bool
  deriving DecidableEq, Repr

/-- The radio port's contribution (R134). -/
structure RadioStatus where
  enabled : Bool
  rate : Rate
  gap : Nat
  wake : Bool
  asm : AsmState
  fill : Nat
  hold : Bool
  conditions : List Bool
  counts : RadioCounts
  deriving DecidableEq, Repr

/-- One record's part of the stream engine's contribution (R149). -/
structure StreamRecordStatus where
  id : Option Nat
  mode : StreamMode
  pause : Option PauseCause
  fail : Option FailCause
  blocks : Nat
  staged : Nat
  deriving DecidableEq, Repr

/-- The stream engine's contribution (R149). -/
structure StreamStatus where
  records : List StreamRecordStatus
  headroom : Bool
  running : Bool
  deriving DecidableEq, Repr

/-- The power controller's contribution (R168). -/
structure PowerStatus where
  mode : PowerMode
  lastCause : Option WakeCause
  delay : Nat
  timerRuns : Bool
  engineIdle : Bool
  railsOff : Bool
  lightDark : Bool
  running : Bool
  wakeCount : Nat
  mask : List ReportKind
  deriving DecidableEq, Repr

/-- The host link unit's contribution (R180). -/
structure LinkStatus where
  packets : Nat
  entries : Nat
  reports : Nat
  overflow : Bool
  locked : Bool
  timeout : Nat
  selection : Option Nat
  deriving DecidableEq, Repr

/-- How often each clear-on-read flag had been set when a STATUS reply was made; a flag set again since has a higher
count (R185; log 23). -/
structure FlagMarks where
  overflow : Nat
  budgetOver : Nat
  saturated : Nat
  deriving DecidableEq, Repr

/-- The state a STATUS reply carries (R185), in chapter order (R193). -/
structure StatusReply where
  pool : PoolStatus
  wave : WaveStatus
  engine : EngineStatus
  rail : RailStatus
  budget : BudgetStatus
  cache : CacheStatus
  keys : KeyStatus
  light : LightStatus
  radio : RadioStatus
  stream : StreamStatus
  power : PowerStatus
  link : LinkStatus
  marks : FlagMarks
  deriving DecidableEq, Repr

/-- The state an IDENTIFY reply carries (R185). -/
structure IdentifyReply where
  partCode : Nat
  revision : Nat
  blocks : Nat
  locked : Bool
  deriving DecidableEq, Repr

/-- One leaf record as CACHE_QUERY gives it (R101). -/
structure LeafView where
  number : Nat
  mode : LeafMode
  background : Nat
  useCount : Nat
  turnSlot : Option Nat
  edge : Option EdgeMark
  written : Nat
  deriving DecidableEq, Repr

/-- The turn in flight (R81). -/
structure TurnFlight where
  leaf : Nat
  dir : TurnDir
  kind : TurnKind
  deriving DecidableEq, Repr

/-- The deferred turn (R81). -/
structure DeferredTurn where
  dir : TurnDir
  count : Nat
  deriving DecidableEq, Repr

/-- The state a CACHE_QUERY reply carries (R101). -/
structure CacheReply where
  settings : CacheArgs
  current : Option Nat
  anchor : Option Nat
  counter : Nat
  flight : Option TurnFlight
  deferred : Option DeferredTurn
  leaves : List LeafView
  deriving DecidableEq, Repr

/-- One input as KEY_QUERY gives it (R117). -/
structure KeyView where
  config : KeyConfig
  raw : Level
  debounced : Debounced
  armed : Bool
  held : Bool
  debounceRuns : Bool
  holdRuns : Bool
  repeatRuns : Bool
  deriving DecidableEq, Repr

/-- The state a KEY_QUERY reply carries (R117). -/
structure KeyReply where
  timestamp : Nat
  inputs : List KeyView
  deriving DecidableEq, Repr

/-- One descriptor as STREAM_QUERY gives it (R165). -/
structure SegmentView where
  ordinal : Nat
  count : Nat
  state : SegState
  accepted : Nat
  drained : Nat
  crc : Option Word32
  action : EndAction
  deriving DecidableEq, Repr

/-- The five counters of a stream record (R149). The three frame counters count without bound, as R149 says of the byte
counters (DESIGN CHOICE, log 48). -/
structure StreamCounters where
  frames : Nat := 0
  duplicates : Nat := 0
  gaps : Nat := 0
  accepted : Nat := 0
  drained : Nat := 0
  deriving DecidableEq, Repr

/-- The state a STREAM_QUERY reply carries for a record that is not CLOSED (R165). -/
structure StreamView where
  mode : StreamMode
  pause : Option PauseCause
  fail : Option FailCause
  expected : Nat
  segments : List SegmentView
  blocks : Nat
  tail : Nat
  head : Nat
  limit : Nat
  threshold : Nat
  stall : Nat
  thresholdArmed : Bool
  counters : StreamCounters
  landmarks : List (Nat × Nat)
  landmarkOverflow : Bool
  deriving DecidableEq, Repr

/-- The state a reply carries (R180). -/
inductive ReplyState
  | none
  | status (r : StatusReply)
  | identify (r : IdentifyReply)
  | cache (r : CacheReply)
  | keys (r : KeyReply)
  | stream (r : StreamView)
  | streamClosed (cause : Option ClosingCause)
  deriving DecidableEq, Repr

/-- A reply: command code, tag, status and state (R180). -/
structure Reply where
  code : Nat
  tag : Nat
  status : Status
  state : ReplyState
  deriving DecidableEq, Repr

/-- An entry of the message queue (R180). -/
inductive Entry
  | reply (r : Reply)
  | report (r : Report)
  deriving DecidableEq, Repr

/-- Is the entry a report (R184)? -/
def Entry.isReport (e : Entry) : Bool :=
  match e with
  | .reply _ => false
  | .report _ => true

/-- A drain chunk (R164). `record` is the record the chunk is to be committed to; it is none for a chunk of length 0 and
once that record has been closed. -/
structure Chunk where
  record : Option Nat
  id : Option Nat
  mode : StreamMode
  ordinal : Nat
  offset : Nat
  bytes : List Byte
  segmentEnd : Bool
  landmarks : List (Nat × Nat)
  overflow : Bool
  deriving DecidableEq, Repr

/-- A link transaction (R180 to R182, R177): none; not served, since it began in STANDBY or WAKING; begun, its selector
yet to come; a WRITE with the bytes received after the selector; the rest of it ignored; a READ-MESSAGE with the entry it
sends and whether that entry still stands in the queue; a READ-DRAIN with its chunk. -/
inductive Transaction
  | none
  | unserved
  | begun
  | writing (received : List Byte)
  | ignored
  | readMessage (sent : Option (Entry × Bool))
  | readDrain (chunk : Chunk)
  deriving DecidableEq, Repr

end Sys2Proof
end

