-- ==== Sys2Proof/Config.lean ====
section
/-! DEFINITION. What is fixed for the part (the fixed counts of 00_scope.md) and what the manual leaves open: the two
free values, with no body, so that no proof can see them. -/

namespace Sys2Proof.Config

/-- Page memory: 4096 blocks (R2). -/
def blockCount : Nat := 4096

/-- A block is 4096 bytes (00_scope.md, Units). -/
def blockBytes : Nat := 4096

/-- Blocks from here on are the waveform store (R5). -/
def waveBase : Nat := 3904

/-- Each waveform slot owns 32 blocks (R5). -/
def waveBlocksPerSlot : Nat := 32

/-- The largest leaf number (R81). -/
def maxLeaf : Nat := 16777215

/-- Leaf records (R81). -/
def maxLeaves : Nat := 12

/-- Pending updates (R40). -/
def maxPending : Nat := 16

/-- Uncertain rectangles (R56). -/
def maxUncertain : Nat := 8

/-- Characters of the receive FIFO (R137). -/
def fifoSize : Nat := 64

/-- Entries of the message queue (R184). -/
def queueSize : Nat := 32

/-- Reports among them (R184). -/
def maxReports : Nat := 28

/-- Packets of the downstream buffer (R180). -/
def bufferSize : Nat := 4

/-- Descriptors of a segment queue (R151). -/
def maxSegments : Nat := 8

/-- Entries of a landmark list (R160). -/
def maxLandmarks : Nat := 32

/-- Bytes of a drain chunk (R164). -/
def chunkBytes : Nat := 1024

/-- The presence byte of a body with more than eight optional fields, of which R189 gives only those of at most eight: a free
value of the marks that say which field is there (log 8). -/
opaque widePresence : List Bool → List Byte

/-- The bytes of a number to which no rule gives a width or a range: a free value (log 8). -/
opaque unboundedNumber : Nat → List Byte

end Sys2Proof.Config
end

