-- ==== Sys2Proof/Machine/State.lean ====
section
/-! DEFINITION. The state of the part, block by block, as plain data; the state right after a power-on reset; and the
reasons a step could stop. Fields the manual calls without meaning in some state (an EMPTY slot, a FREE lane, a CLOSED
record) stand at the empty record there (DESIGN CHOICE, log 31). -/

namespace Sys2Proof.Machine

/-- A timer: stopped, or running with the length it was started with (log 3). -/
abbrev Timer := Option Nat

/-- A flag that a STATUS read-out clears; `sets` counts how often it has been set (R185; log 23). -/
structure StickyFlag where
  isSet : Bool := false
  sets : Nat := 0
  deriving DecidableEq, Repr

/-- Owner of a block that is neither FREE nor of the waveform store; a LEAF entry carries the written mark (R2, R13). -/
inductive Owner
  | plane (index : Nat)
  | leaf (number : Nat) (written : Bool)
  | stage (record : Nat)
  deriving DecidableEq, Repr

/-- An entry of the ownership table that is not FREE (R2). -/
structure BlockEntry where
  block : Nat
  owner : Owner
  deriving DecidableEq, Repr

/-- The block pool (R2, R6, R9, R15). Blocks below 3904 that the table does not list are FREE; those from 3904 on are
WAVE at every moment (R5). -/
structure PoolState where
  table : List BlockEntry := []
  freeCount : Nat := 3904
  reserve : Nat := 32
  geometry : Option PanelArgs := none
  refresh : Refresh := .awake
  deriving DecidableEq, Repr

/-- A waveform slot record (R17). The band count m is the length of `uppers` and of `frames`. -/
structure Slot where
  state : SlotState := .empty
  kind : SlotKind := .partialOk
  partner : Option Nat := none
  lower : Int := 0
  uppers : List Int := []
  frames : List Nat := []
  band : Option Nat := none
  outside : Bool := false
  useCount : Nat := 0
  deriving DecidableEq, Repr

/-- The open load (R21, R22). -/
structure Load where
  slot : Nat
  expected : Nat
  received : Nat
  invalid : Bool
  deriving DecidableEq, Repr

/-- The waveform unit (R17, R28, R29, R34). `lastRaw` is 0 until a first reading is taken (DESIGN CHOICE, log 41). -/
structure WaveState where
  slots : Vector Slot 6 := Vector.replicate 6 {}
  load : Option Load := none
  timer : SampleTimer := .due
  lastRaw : Int := 0
  filtered : Option Int := none
  samples : Nat := 0
  saturated : StickyFlag := {}
  period : Nat := 1
  hyst : Nat := 10
  deriving DecidableEq, Repr

/-- A pending entry (R36). -/
structure PendingEntry where
  tag : Nat
  origin : Origin
  rect : Rect
  slot : Nat
  selection : Selection
  source : Source
  keepLeaf : Bool
  shows : Option Nat
  deriving DecidableEq, Repr

/-- A lane record (R36). `blocks` and `background` are what the page cache hands over for a LEAF source (R43, R82);
`bandHeld` says that the lane's band request waits for a reading (R33). -/
structure Lane where
  state : LaneState := .free
  tag : Nat := 0
  origin : Origin := .host
  rect : Rect := {}
  keepLeaf : Bool := false
  shows : Option Nat := none
  slot : Nat := 0
  selection : Selection := .all
  promoted : Bool := false
  source : Source := .target
  blocks : List Nat := []
  background : Nat := 0
  band : Option Nat := none
  frames : Nat := 0
  index : Nat := 0
  hist : List Nat := []
  bandHeld : Bool := false
  deriving DecidableEq, Repr

/-- The update engine (R36). `scan` is the frame timer, running with the length of the interval begun (R61);
`panel` is what the panel received at the latest frame event: the pixels with a code other than NONE (R48; log 33). -/
structure EngineState where
  pending : List PendingEntry := []
  lanes : Vector Lane 8 := Vector.replicate 8 {}
  uncertain : List Rect := []
  whole : Bool := false
  framePeriod : Nat := 1180
  scan : Timer := none
  load : Nat := 0
  panel : List (Nat × DriveCode) := []
  deriving DecidableEq, Repr

/-- The rail controller (R63). -/
structure RailState where
  mode : RailMode := .off
  armed : Nat := 0
  rise : Timer := none
  hold : Timer := none
  fall : Timer := none
  cause : Option FaultCause := none
  powerGood : Bool := false
  riseTime : Nat := 10
  fallTime : Nat := 8
  holdTime : Nat := 50
  deriving DecidableEq, Repr

/-- The budget unit (R75). `reported` is the low battery report mark. -/
structure BudgetState where
  normal : Nat := 300
  low : Nat := 150
  base : Nat := 25
  coeff : Nat := 300
  lowbat : Bool := false
  reported : Bool := true
  effective : Nat := 300
  load : Nat := 0
  rail : RailMode := .off
  power : PowerMode := .active
  floor : Nat := 10
  panel : Nat := 0
  allowance : Nat := 300
  budgetOver : StickyFlag := {}
  deriving DecidableEq, Repr

/-- A leaf record (R81). -/
structure Leaf where
  number : Nat
  mode : LeafMode
  blocks : List Nat
  background : Nat
  useCount : Nat
  turnSlot : Option Nat
  edge : Option EdgeMark
  deriving DecidableEq, Repr

/-- The page cache (R81). -/
structure CacheState where
  leaves : List Leaf := []
  current : Option Nat := none
  anchor : Option Nat := none
  flight : Option TurnFlight := none
  deferred : Option DeferredTurn := none
  counter : Nat := 0
  settings : CacheArgs := ⟨2, 6, 1, none, none⟩
  sleepMark : Bool := false
  deriving DecidableEq, Repr

/-- One key input: its configuration (R104) and its live state (R105). A running debounce timer holds its length and its
candidate level. -/
structure KeyInput where
  config : KeyConfig := {}
  raw : Level := .high
  debounced : Debounced := .unknown
  armed : Bool := false
  held : Bool := false
  debounce : Option (Nat × Level) := none
  holdTimer : Timer := none
  repeatTimer : Timer := none
  sense : SleepSense := .none
  deriving DecidableEq, Repr

/-- The key unit (R104, R105). The latch holds a key number and a time. -/
structure KeyState where
  inputs : Vector KeyInput 6 := Vector.replicate 6 {}
  timestamp : Nat := 0
  latch : Option (Nat × Nat) := none
  deriving DecidableEq, Repr

/-- The default curve: point i is 4095 x i / 20, rounded half up (R131). -/
def defaultCurve : List Nat := (List.range 21).map (fun i => (4095 * i + 10) / 20)

/-- The light unit (R119). -/
structure LightState where
  curve : List Nat := defaultCurve
  setLevel : Nat := 0
  warmth : Nat := 50
  level : Nat := 0
  target : Nat := 0
  rampInterval : Nat := 8
  ramp : Timer := none
  dim : Nat := 20
  dwellTime : Nat := 0
  dwell : Timer := none
  dimmed : Bool := false
  dark : Bool := false
  hold : Bool := false
  warmCeiling : Nat := 20
  coolCeiling : Nat := 20
  floor : Nat := 10
  allowance : Nat := 300
  warmDemand : Nat := 0
  coolDemand : Nat := 0
  warmOut : Nat := 0
  coolOut : Nat := 0
  limited : Bool := false
  deriving DecidableEq, Repr

/-- An entry of the receive FIFO: a character with its mark bit, or a line note (R137). -/
inductive FifoEntry
  | char (mark : Bool) (data : Byte)
  | note (cause : NoteCause)
  deriving DecidableEq, Repr

/-- The frame in assembly (R134): its type, the header characters taken (stream id, sequence high, sequence low,
length), its payload, the running CRC and the received CRC characters taken. -/
structure Assembly where
  kind : FrameType
  header : List Byte
  payload : List Byte
  crc : Word16
  check : List Byte
  deriving DecidableEq, Repr

/-- A frame handed to the stream engine (R143). -/
structure Frame where
  kind : FrameType
  id : Nat
  sequence : Nat
  payload : List Byte
  deriving DecidableEq, Repr

/-- The radio port (R134, R145, R147). `waiting` is handover waiting; `released` says that the stream engine still owes
an answer for a frame released by a flush or reset (R143). -/
structure RadioState where
  enabled : Bool := false
  rate : Rate := .b115200
  gapTime : Nat := 20
  wake : Bool := false
  receiver : Receiver := .stopped
  breakHeld : Bool := false
  watching : Bool := false
  fifo : List FifoEntry := []
  fillHold : Bool := false
  asm : AsmState := .hunt
  frame : Option Assembly := none
  waiting : Bool := false
  released : Bool := false
  gap : Timer := none
  counts : RadioCounts := {}
  marks : List RadioErrorKind := []
  hold : Bool := true
  freeCopy : Nat := 3904
  reserveCopy : Nat := 32
  headroomCopy : Bool := false
  powerCopy : PowerMode := .active
  deriving DecidableEq, Repr

/-- A landmark pattern with its mask filled up to the pattern's length (R151). -/
structure Pattern where
  bytes : List Byte
  mask : List Byte
  deriving DecidableEq, Repr

/-- A segment descriptor (R151). The matcher is `recent` (the last k - 1 bytes) and `resume` (R160). -/
structure Segment where
  ordinal : Nat
  count : Nat
  crc : Option Word32
  pattern : Option Pattern
  action : EndAction
  state : SegState
  accepted : Nat
  drained : Nat
  runCrc : Word32
  recent : List Byte
  resume : Nat
  deriving DecidableEq, Repr

/-- A payload being written: the stream byte position of its first byte, and its bytes (R158; log 25). -/
structure WriteFlight where
  start : Nat
  payload : List Byte
  deriving DecidableEq, Repr

/-- A stream record (R149). -/
structure StreamRecord where
  id : Option Nat := none
  mode : StreamMode := .closed
  pause : Option PauseCause := none
  beforePause : Option StreamMode := none
  fail : Option FailCause := none
  closing : Option ClosingCause := none
  expected : Nat := 0
  segments : List Segment := []
  nextOrdinal : Nat := 1
  inheritedCount : Option Nat := none
  inheritedPattern : Option Pattern := none
  blocks : List Nat := []
  head : Nat := 0
  tail : Nat := 0
  flight : Option WriteFlight := none
  limit : Nat := 1
  threshold : Nat := 0
  thresholdArmed : Bool := false
  stallTime : Nat := 1
  stall : Timer := none
  landmarks : List (Nat × Nat) := []
  landmarkOverflow : Bool := false
  counters : StreamCounters := {}
  deriving DecidableEq, Repr

/-- The stream engine (R149, R150, R166). -/
structure StreamState where
  records : Vector StreamRecord 4 := Vector.replicate 4 {}
  sleepHold : Bool := false
  headroom : Bool := false
  running : Bool := false
  deriving DecidableEq, Repr

/-- The default wake mask (R169), in the order of R193. -/
def defaultMask : List ReportKind :=
  [.turnMiss, .cacheLow, .railFault, .lowBattery, .key, .streamGap, .streamFull, .streamStarved, .streamStall,
   .segmentDone, .segmentBad, .streamFailed, .streamEnded, .streamStaged, .wake, .radioWake]

/-- The power controller (R168). -/
structure PowerState where
  mode : PowerMode := .active
  leftMode : Option PowerMode := none
  hostAsked : Bool := false
  delay : Nat := 20
  timer : Timer := none
  cause : Option WakeCause := none
  wakeEnd : Option PowerMode := none
  linkDuringWake : Bool := false
  mask : List ReportKind := defaultMask
  engineIdle : Bool := true
  railsOff : Bool := true
  lightDark : Bool := true
  running : Bool := false
  wakeCount : Nat := 0
  deriving DecidableEq, Repr

/-- The host link unit (R180). RDY and ATTN are computed from it (log 34). -/
structure LinkState where
  transaction : Transaction := .none
  buffer : List Packet := []
  timeout : Nat := 8
  stall : Timer := none
  queue : List Entry := []
  reserved : Bool := false
  overflow : StickyFlag := {}
  wakeCount : Nat := 0
  locked : Bool := false
  selection : Option Nat := none
  powerCopy : PowerMode := .active
  deriving DecidableEq, Repr

/-- The state of the part, and the queue of commands that wait for it. Page memory is a list of cells, addresses
strictly rising, none equal to what an unlisted address reads as (see Memory.wf). -/
structure State where
  pending : List Instr
  mem : List Host.Cell
  pool : PoolState
  wave : WaveState
  engine : EngineState
  rail : RailState
  budget : BudgetState
  cache : CacheState
  keys : KeyState
  light : LightState
  radio : RadioState
  stream : StreamState
  power : PowerState
  link : LinkState
  deriving DecidableEq, Repr

/-- A machine fault. The part has no trap and no command without effect, so no meaning raises one (safe: nothing
is claimed of a stopped part); the constructor names the one access that could have none, a byte outside page memory. -/
inductive Fault
  /-- An access outside the 16 MiB of page memory; no rule lets one arise and no meaning raises it. Safe. -/
  | outsidePageMemory
  deriving DecidableEq, Repr

/-- A command without a meaning. -/
inductive Refusal
  /-- A row of the table whose meaning is not written yet; raised by `exec` alone. Safe. -/
  | notModelled (mnemonic : String)
  deriving DecidableEq, Repr

/-- The state right after a power-on reset with power-good absent, LOWBAT not asserted and every key input HIGH
(DESIGN CHOICE for the three inputs, log 6): every block as R16, R35, R62, R74, R80, R103, R118, R133, R148, R167, R179
and R188 give it, and RESET_DONE(POWER_ON) in the message queue. -/
def State.reset : State where
  pending := []
  mem := []
  pool := {}
  wave := {}
  engine := {}
  rail := {}
  budget := {}
  cache := {}
  keys := {}
  light := {}
  radio := {}
  stream := {}
  power := {}
  link := { queue := [.report (.resetDone .powerOn)] }

end Sys2Proof.Machine
end

