-- ==== Sys2Proof/Machine/Crc.lean ====
section
/-! DEFINITION. The two cyclic codes: the frame CRC-16 of the radio line (R141) and the segment CRC-32 (R159). -/

namespace Sys2Proof.Machine

/-- The running CRC-16 after one incoming bit: the register's top bit is compared with it (R141). -/
def crc16Bit (r : Word16) (bit : Bool) : Word16 :=
  if r.msb != bit then (r <<< 1) ^^^ 0x1021#16 else r <<< 1

/-- The running CRC-16 after one byte, most significant bit first (R141). -/
def crc16Byte (r : Word16) (b : Byte) : Word16 :=
  [7, 6, 5, 4, 3, 2, 1, 0].foldl (fun r i => crc16Bit r (b.getLsbD i)) r

/-- The start of the running CRC-16: all ones (R141). -/
def crc16Start : Word16 := 0xFFFF

/-- One shift of the CRC-32 register (R159). -/
def crc32Shift (r : Word32) : Word32 :=
  if r.getLsbD 0 then (r >>> 1) ^^^ 0xEDB88320#32 else r >>> 1

/-- The running CRC-32 after one byte (R159). -/
def crc32Byte (r : Word32) (b : Byte) : Word32 :=
  (List.range 8).foldl (fun r _ => crc32Shift r) (r ^^^ b.setWidth 32)

/-- The start of the running CRC-32: all ones (R151, R159). -/
def crc32Start : Word32 := 0xFFFFFFFF

/-- The finished CRC-32 (R159). -/
def crc32Finish (r : Word32) : Word32 := r ^^^ 0xFFFFFFFF#32

end Sys2Proof.Machine
end

