-- ==== Sys2Proof/WellFormed.lean ====
section
/-! DEFINITION. When a command is one that the port can carry: every number fits the bytes R189 gives its field (log 9
for the fields R189 does not list), every list its count byte, and every lane, key, record and level its range. A value the
port can carry but the owner refuses (a reserve of 300, a slot of 9) is well formed: the refusal is its meaning. -/

namespace Sys2Proof

/-- A number that `n` bytes hold (R189). -/
def fits (n v : Nat) : Bool := v < 256 ^ n

/-- A temperature that two bytes of two's complement hold (R189). -/
def fitsTemp (t : Int) : Bool := -32768 ≤ t && t ≤ 32767

/-- An optional field that is absent or fits. -/
def fitsOpt (n : Nat) (v : Option Nat) : Bool :=
  match v with
  | none => true
  | some x => fits n x

/-- A rectangle of 2-byte coordinates (R189). -/
def Rect.fits (r : Rect) : Bool := Sys2Proof.fits 2 r.x && Sys2Proof.fits 2 r.y && Sys2Proof.fits 2 r.w && Sys2Proof.fits 2 r.h

/-- The source's leaf number fits its three bytes. -/
def Source.fits (s : Source) : Bool :=
  match s with
  | .target => true
  | .leaf n => Sys2Proof.fits 3 n

/-- The fields of a well-formed body satisfy `p`; a faulty body carries nothing to check. -/
def Body.all {α : Type} (b : Body α) (p : α → Bool) : Bool :=
  match b with
  | .fields a => p a
  | .badLength => true
  | .badParam => true

def WaveLoadArgs.fits (a : WaveLoadArgs) : Bool :=
  Sys2Proof.fits 1 a.slot && fitsOpt 1 a.partner && Sys2Proof.fits 1 a.bandCount && fitsTemp a.lower
    && a.uppers.all fitsTemp && Sys2Proof.fits 1 a.uppers.length && a.frames.all (Sys2Proof.fits 1)
    && Sys2Proof.fits 1 a.frames.length

def UpdateArgs.fits (a : UpdateArgs) : Bool :=
  a.rect.fits && Sys2Proof.fits 1 a.slot && a.source.fits && fitsOpt 3 a.shows

def BudgetArgs.fits (a : BudgetArgs) : Bool :=
  Sys2Proof.fits 2 a.normal && Sys2Proof.fits 2 a.low && Sys2Proof.fits 2 a.base && Sys2Proof.fits 2 a.coeff

def LeafFillArgs.fits (a : LeafFillArgs) : Bool :=
  Sys2Proof.fits 3 a.leaf && Sys2Proof.fits 1 a.background && fitsOpt 1 a.turnSlot

def ShowLeafArgs.fits (a : ShowLeafArgs) : Bool := Sys2Proof.fits 3 a.leaf && fitsOpt 1 a.slot

def CacheArgs.fits (a : CacheArgs) : Bool :=
  Sys2Proof.fits 1 a.lowWater && Sys2Proof.fits 1 a.cadence && Sys2Proof.fits 1 a.guardDist
    && (a.partialSlot.all (· < 255)) && (a.fullSlot.all (· < 255))

def KeyArgs.fits (a : KeyArgs) : Bool :=
  Sys2Proof.fits 1 a.key && Sys2Proof.fits 2 a.config.debounce && Sys2Proof.fits 1 a.config.hold
    && Sys2Proof.fits 1 a.config.period && Sys2Proof.fits 1 a.config.lightStep

def LightSetupArgs.fits (a : LightSetupArgs) : Bool :=
  Sys2Proof.fits 2 a.ramp && Sys2Proof.fits 1 a.dim && Sys2Proof.fits 2 a.dwell && fitsOpt 2 a.warmCeiling
    && fitsOpt 2 a.coolCeiling && fitsOpt 2 a.floor

/-- A descriptor the port carries: pattern and mask of at most 8 bytes (R191). -/
def DescriptorArgs.fits (d : DescriptorArgs) : Bool :=
  fitsOpt 4 d.count && d.pattern.all (fun p => p.bytes.length ≤ 8 && p.mask.length ≤ 8)

def StreamOpenArgs.fits (a : StreamOpenArgs) : Bool :=
  Sys2Proof.fits 1 a.id && Sys2Proof.fits 2 a.sequence && Sys2Proof.fits 2 a.limit && Sys2Proof.fits 2 a.threshold
    && Sys2Proof.fits 1 a.stall && Sys2Proof.fits 1 a.segments.length && a.segments.all DescriptorArgs.fits

def SegmentAddArgs.fits (a : SegmentAddArgs) : Bool :=
  Sys2Proof.fits 1 a.id && Sys2Proof.fits 1 a.segments.length && a.segments.all DescriptorArgs.fits

def TileBody.fits (b : TileBody) : Bool :=
  match b with
  | .short => true
  | .tile dest rect pixels => Sys2Proof.fits 1 dest && dest != 1 && rect.fits && pixels.length ≤ 4084

/-- The codes of section 12.2 (R190). -/
def commandCodes : List Nat :=
  [0x10, 0x11, 0x20, 0x21, 0x22, 0x23, 0x30, 0x31, 0x32, 0x40, 0x41, 0x42, 0x50, 0x51, 0x52, 0x53, 0x54, 0x55,
   0x60, 0x61, 0x70, 0x71, 0x72, 0x80] ++
  [0x90, 0x91, 0x92, 0x93, 0x94, 0x95, 0x96, 0xA0, 0xA1, 0xA2, 0xB0, 0xB1, 0xB2, 0xB3, 0xB4]

def UnknownBody.fits (b : UnknownBody) : Bool :=
  match b with
  | .short => true
  | .code c t => Sys2Proof.fits 1 c && Sys2Proof.fits 1 t && !commandCodes.contains c

/-- The commands the part can be sent. -/
def Instr.wellFormed (i : Instr) : Bool :=
  match i with
  | .panelSetup t b => fits 1 t && b.all (fun a => fits 2 a.width && fits 2 a.height)
  | .poolSetup t b => fits 1 t && b.all (fits 2)
  | .waveLoad t b => fits 1 t && b.all WaveLoadArgs.fits
  | .waveAbort t _ => fits 1 t
  | .waveDrop t b => fits 1 t && b.all (fits 1)
  | .tempSetup t b => fits 1 t && b.all (fun a => fits 1 a.period && fits 1 a.hyst)
  | .update t b => fits 1 t && b.all UpdateArgs.fits
  | .updateCancel t _ => fits 1 t
  | .scanSetup t b => fits 1 t && b.all (fits 2)
  | .railSetup t b => fits 1 t && b.all (fun a => fits 2 a.rise && fits 2 a.fall && fits 1 a.hold)
  | .railClear t _ => fits 1 t
  | .budgetSetup t b => fits 1 t && b.all BudgetArgs.fits
  | .leafFill t b => fits 1 t && b.all LeafFillArgs.fits
  | .leafClose t b => fits 1 t && b.all (fits 3)
  | .leafDrop t b => fits 1 t && b.all (fits 3)
  | .showLeaf t b => fits 1 t && b.all ShowLeafArgs.fits
  | .showLeafDeclare t a => fits 1 t && a.fits
  | .cacheSetup t b => fits 1 t && b.all CacheArgs.fits
  | .cacheQuery t _ => fits 1 t
  | .keySetup t b => fits 1 t && b.all KeyArgs.fits
  | .keyQuery t _ => fits 1 t
  | .lightCurve t b => fits 1 t && b.all (fun ps => fits 1 ps.length && ps.all (fits 2))
  | .lightSet t b => fits 1 t && b.all (fun a => fitsOpt 1 a.level && fitsOpt 1 a.warmth)
  | .lightSetup t b => fits 1 t && b.all LightSetupArgs.fits
  | .radioSetup t b => fits 1 t && b.all (fun a => fits 2 a.gap)
  | .streamOpen t b => fits 1 t && b.all StreamOpenArgs.fits
  | .segmentAdd t b => fits 1 t && b.all SegmentAddArgs.fits
  | .streamPause t b => fits 1 t && b.all (fits 1)
  | .streamResume t b => fits 1 t && b.all (fun a => fits 1 a.id && fitsOpt 2 a.sequence)
  | .streamClose t b => fits 1 t && b.all (fits 1)
  | .streamQuery t b => fits 1 t && b.all (fits 1)
  | .drainSelect t b => fits 1 t && b.all (fits 1)
  | .doze t b => fits 1 t && b.all (fitsOpt 1)
  | .sleep t _ => fits 1 t
  | .wakeMask t b => fits 1 t && b.all (fun ks => fits 1 ks.length && ks.all (fits 1))
  | .status t _ => fits 1 t
  | .identify t _ => fits 1 t
  | .linkSetup t b => fits 1 t && b.all (fits 2)
  | .setupEnd t _ => fits 1 t
  | .engineReset t _ => fits 1 t
  | .unknownCommand b => b.fits
  | .tileTarget b => b.fits
  | .tileLeaf n rect pixels => fits 3 n && rect.fits && pixels.length ≤ 4084
  | .table body => body.length ≤ 4096
  | .unknownPacketKind k => fits 1 k && !(k == 1 || k == 2 || k == 3)
  | .chipSelectAssert => true
  | .write _ => true
  | .readMessage => true
  | .readDrain => true
  | .voidTransaction => true
  | .chipSelectRelease _ => true
  | .linkStallExpire => true
  | .radioCharacter _ _ _ => true
  | .radioLineReturn => true
  | .radioBreak => true
  | .fifoTake => true
  | .gapTimerExpire => true
  | .radioBreakWake => true
  | .payloadWriteDone => true
  | .stallTimerExpire r => r < 4
  | .tempSample _ => true
  | .preparingEnd l => l < 8
  | .frameEvent => true
  | .powerGoodArrive => true
  | .powerGoodLost => true
  | .riseTimerExpire => true
  | .holdTimerExpire => true
  | .fallTimerExpire => true
  | .lowbatChange _ => true
  | .keyInputChange k _ => k < 6
  | .debounceExpire k => k < 6
  | .keyHoldExpire k => k < 6
  | .keyRepeatExpire k => k < 6
  | .rampStep => true
  | .dwellExpire => true
  | .standbyDelayExpire => true
  | .selfRefreshEntered => true
  | .wakingComplete => true
  | .powerOnReset _ => true
  | .pinReset _ => true
  | .breakEnd => true

end Sys2Proof
end

