-- ==== Sys2Proof/Decode.lean ====
section
/-! DEFINITION. From bytes to commands. No row of spec/opcode_table.json gives bits, so `decodeTableWord` answers none.
Packets do have bytes: `decodePacket` reads the kind and body of a packet as the row it is taken as, by R189 to R192, total
on every body. Widths that R189 does not list are DEDUCED (log 9); the leaf number of UPDATE's source is always
there (DEDUCED, log 10); a descriptor's mask has its length byte even for the pattern NONE (DESIGN CHOICE, log 11). -/

namespace Sys2Proof

/-- The command a table word spells: the table gives no row bits. -/
def decodeTableWord (_nbits _w : Nat) : Option Instr := none

/-- A body while it is read: the bytes not yet taken, and whether every presence bit, enumerated value and pattern
length so far is one R191 admits. -/
structure Reader where
  rest : List Byte
  sound : Bool

/-- Reading a field; no value means the body is too short. -/
abbrev Parse (α : Type) := StateT Reader Option α

/-- The next byte. -/
def Parse.byte : Parse Byte := fun r =>
  match r.rest with
  | [] => none
  | b :: bs => some (b, ⟨bs, r.sound⟩)

/-- Note a value that R191 does not admit. -/
def Parse.check (good : Bool) : Parse Unit := fun r => some ((), ⟨r.rest, r.sound && good⟩)

/-- `n` fields one after another. -/
def Parse.many {α : Type} (p : Parse α) : Nat → Parse (List α)
  | 0 => pure []
  | n + 1 => do
    let a ← p
    let as ← Parse.many p n
    pure (a :: as)

/-- The number that bytes spell, least significant first (R189). -/
def leNat : List Byte → Nat
  | [] => 0
  | b :: bs => b.toNat + 256 * leNat bs

/-- A number of `n` bytes, least significant first (R189). -/
def Parse.num (n : Nat) : Parse Nat := do
  let bs ← Parse.many Parse.byte n
  pure (leNat bs)

/-- A signed number of two bytes in two's complement (R189). -/
def Parse.temp : Parse Int := do
  let v ← Parse.num 2
  pure (if v < 32768 then (v : Int) else (v : Int) - 65536)

/-- An enumerated field: one byte, numbered in the order of the list (R189); beyond it is unsound (R191). -/
def Parse.enum {α : Type} (first : α) (others : List α) : Parse α := do
  let v ← Parse.num 1
  Parse.check (v ≤ others.length)
  pure ((first :: others).getD v first)

/-- Yes and No are 1 and 0 (R189), and beyond them a byte is unsound (R191); a mark is read the same way, so that one of neither 0
nor 1 is unsound too (DESIGN CHOICE, log 57). -/
def Parse.flag : Parse Bool := Parse.enum false [true]

/-- The presence byte of a body with `known` optional fields (R189, R191). -/
def Parse.presence (known : Nat) : Parse Nat := do
  let v ← Parse.num 1
  Parse.check (v < 2 ^ known)
  pure v

/-- The optional field number `i` of a presence byte (R189). -/
def Parse.opt {α : Type} (presence i : Nat) (p : Parse α) : Parse (Option α) :=
  if presence.testBit i then do
    let a ← p
    pure (some a)
  else pure none

/-- A list: one count byte, then the items (R189). -/
def Parse.counted {α : Type} (p : Parse α) : Parse (List α) := do
  let n ← Parse.num 1
  Parse.many p n

/-- A pattern or mask: one length byte, then that many bytes; a length above 8 is unsound (R189, R191). -/
def Parse.patternBytes : Parse (List Byte) := do
  let n ← Parse.num 1
  Parse.check (n ≤ 8)
  Parse.many Parse.byte n

/-- A slot that may be unset: 0xFF is unset (R189). -/
def Parse.slotOrUnset : Parse (Option Nat) := do
  let v ← Parse.num 1
  pure (if v = 255 then none else some v)

/-- The treatment of a COMMAND body by R191: the length first, then presence bits, enumerations and lengths. -/
def Parse.body {α : Type} (p : Parse α) (bytes : List Byte) : Body α :=
  match p ⟨bytes, true⟩ with
  | none => .badLength
  | some (a, r) => if r.rest ≠ [] then .badLength else if r.sound then .fields a else .badParam

def parseUnit : Parse Unit := pure ()

def parseRect : Parse Rect := do
  let x ← Parse.num 2
  let y ← Parse.num 2
  let w ← Parse.num 2
  let h ← Parse.num 2
  pure ⟨x, y, w, h⟩

def parsePanel : Parse PanelArgs := do
  let w ← Parse.num 2
  let h ← Parse.num 2
  pure ⟨w, h⟩

def parseWaveLoad : Parse WaveLoadArgs := do
  let pr ← Parse.presence 1
  let slot ← Parse.num 1
  let kind ← Parse.enum SlotKind.partialOk [.fullOnly]
  let partner ← Parse.opt pr 0 (Parse.num 1)
  let m ← Parse.num 1
  let lower ← Parse.temp
  let uppers ← Parse.counted Parse.temp
  let frames ← Parse.counted (Parse.num 1)
  pure ⟨slot, kind, partner, m, lower, uppers, frames⟩

def parseTemp : Parse TempArgs := do
  let p ← Parse.num 1
  let h ← Parse.num 1
  pure ⟨p, h⟩

/-- The source of an UPDATE: its enumeration byte, then three bytes of leaf number, which TARGET ignores (log 10). -/
def parseSource : Parse Source := do
  let leaf ← Parse.enum false [true]
  let n ← Parse.num 3
  pure (if leaf then .leaf n else .target)

def parseUpdate : Parse UpdateArgs := do
  let pr ← Parse.presence 1
  let rect ← parseRect
  let slot ← Parse.num 1
  let sel ← Parse.enum Selection.all [.changed]
  let src ← parseSource
  let keep ← Parse.flag
  let shows ← Parse.opt pr 0 (Parse.num 3)
  pure ⟨rect, slot, sel, src, keep, shows⟩

def parseRail : Parse RailArgs := do
  let rise ← Parse.num 2
  let fall ← Parse.num 2
  let hold ← Parse.num 1
  pure ⟨rise, fall, hold⟩

def parseBudget : Parse BudgetArgs := do
  let b ← Parse.num 2
  let l ← Parse.num 2
  let i ← Parse.num 2
  let q ← Parse.num 2
  pure ⟨b, l, i, q⟩

def parseLeafFill : Parse LeafFillArgs := do
  let pr ← Parse.presence 2
  let n ← Parse.num 3
  let bg ← Parse.num 1
  let slot ← Parse.opt pr 0 (Parse.num 1)
  let edge ← Parse.opt pr 1 (Parse.enum EdgeMark.first [.last])
  pure ⟨n, bg, slot, edge⟩

/-- SHOW_LEAF's fields and its declare mark (R89). -/
def parseShowLeaf : Parse (ShowLeafArgs × Bool) := do
  let pr ← Parse.presence 2
  let n ← Parse.num 3
  let slot ← Parse.opt pr 0 (Parse.num 1)
  let sel ← Parse.opt pr 1 (Parse.enum Selection.all [.changed])
  let declare ← Parse.flag
  pure (⟨n, slot, sel⟩, declare)

def parseCache : Parse CacheArgs := do
  let low ← Parse.num 1
  let n ← Parse.num 1
  let g ← Parse.num 1
  let p ← Parse.slotOrUnset
  let f ← Parse.slotOrUnset
  pure ⟨low, n, g, p, f⟩

def parseKey : Parse KeyArgs := do
  let key ← Parse.num 1
  let enabled ← Parse.flag
  let active ← Parse.enum Level.low [.high]
  let mode ← Parse.enum KeyMode.edge [.level]
  let debounce ← Parse.num 2
  let hold ← Parse.num 1
  let period ← Parse.num 1
  let action ← Parse.enum KeyAction.none [.report, .turnNext, .turnPrev, .lightUp, .lightDown, .sleep, .cover]
  let step ← Parse.num 1
  let wake ← Parse.flag
  pure ⟨key, ⟨enabled, active, mode, debounce, hold, period, action, step, wake⟩⟩

def parseLightSet : Parse LightSetArgs := do
  let pr ← Parse.presence 2
  let l ← Parse.opt pr 0 (Parse.num 1)
  let w ← Parse.opt pr 1 (Parse.num 1)
  pure ⟨l, w⟩

def parseLightSetup : Parse LightSetupArgs := do
  let pr ← Parse.presence 3
  let ramp ← Parse.num 2
  let dim ← Parse.num 1
  let dwell ← Parse.num 2
  let cw ← Parse.opt pr 0 (Parse.num 2)
  let cc ← Parse.opt pr 1 (Parse.num 2)
  let fl ← Parse.opt pr 2 (Parse.num 2)
  pure ⟨ramp, dim, dwell, cw, cc, fl⟩

def parseRadio : Parse RadioArgs := do
  let enabled ← Parse.flag
  let rate ← Parse.enum Rate.b115200 [.b460800, .b921600, .b1843200, .b3000000]
  let gap ← Parse.num 2
  let wake ← Parse.flag
  pure ⟨enabled, rate, gap, wake⟩

def parsePattern : Parse PatternField := do
  let bs ← Parse.patternBytes
  let ms ← Parse.patternBytes
  pure ⟨bs, ms⟩

def parseDescriptor : Parse DescriptorArgs := do
  let pr ← Parse.presence 3
  let count ← Parse.opt pr 0 (Parse.num 4)
  let crc ← Parse.opt pr 1 (Parse.num 4)
  let pattern ← Parse.opt pr 2 parsePattern
  let action ← Parse.enum EndAction.notify [.chain, .halt]
  pure ⟨count, crc.map (BitVec.ofNat 32), pattern, action⟩

def parseStreamOpen : Parse StreamOpenArgs := do
  let id ← Parse.num 1
  let sequence ← Parse.num 2
  let limit ← Parse.num 2
  let threshold ← Parse.num 2
  let stall ← Parse.num 1
  let segs ← Parse.counted parseDescriptor
  pure ⟨id, sequence, limit, threshold, stall, segs⟩

def parseSegmentAdd : Parse SegmentAddArgs := do
  let id ← Parse.num 1
  let segs ← Parse.counted parseDescriptor
  pure ⟨id, segs⟩

def parseResume : Parse ResumeArgs := do
  let pr ← Parse.presence 1
  let id ← Parse.num 1
  let sequence ← Parse.opt pr 0 (Parse.num 2)
  pure ⟨id, sequence⟩

def parseDoze : Parse (Option Nat) := do
  let pr ← Parse.presence 1
  Parse.opt pr 0 (Parse.num 1)

/-- SHOW_LEAF is one of two rows, by its declare mark (R89, R90). -/
def decodeShowLeaf (tag : Nat) (bytes : List Byte) : Instr :=
  match Parse.body parseShowLeaf bytes with
  | .fields (a, true) => .showLeafDeclare tag a
  | .fields (a, false) => .showLeaf tag (.fields a)
  | .badLength => .showLeaf tag .badLength
  | .badParam => .showLeaf tag .badParam

/-- The row of a COMMAND body with the given code, tag and remaining bytes (R190, R191). -/
def decodeCommand (code tag : Nat) (bs : List Byte) : Instr :=
  match code with
  | 0x10 => .panelSetup tag (Parse.body parsePanel bs)
  | 0x11 => .poolSetup tag (Parse.body (Parse.num 2) bs)
  | 0x20 => .waveLoad tag (Parse.body parseWaveLoad bs)
  | 0x21 => .waveAbort tag (Parse.body parseUnit bs)
  | 0x22 => .waveDrop tag (Parse.body (Parse.num 1) bs)
  | 0x23 => .tempSetup tag (Parse.body parseTemp bs)
  | 0x30 => .update tag (Parse.body parseUpdate bs)
  | 0x31 => .updateCancel tag (Parse.body parseUnit bs)
  | 0x32 => .scanSetup tag (Parse.body (Parse.num 2) bs)
  | 0x40 => .railSetup tag (Parse.body parseRail bs)
  | 0x41 => .railClear tag (Parse.body parseUnit bs)
  | 0x42 => .budgetSetup tag (Parse.body parseBudget bs)
  | 0x50 => .leafFill tag (Parse.body parseLeafFill bs)
  | 0x51 => .leafClose tag (Parse.body (Parse.num 3) bs)
  | 0x52 => .leafDrop tag (Parse.body (Parse.num 3) bs)
  | 0x53 => decodeShowLeaf tag bs
  | 0x54 => .cacheSetup tag (Parse.body parseCache bs)
  | 0x55 => .cacheQuery tag (Parse.body parseUnit bs)
  | 0x60 => .keySetup tag (Parse.body parseKey bs)
  | 0x61 => .keyQuery tag (Parse.body parseUnit bs)
  | 0x70 => .lightCurve tag (Parse.body (Parse.counted (Parse.num 2)) bs)
  | 0x71 => .lightSet tag (Parse.body parseLightSet bs)
  | 0x72 => .lightSetup tag (Parse.body parseLightSetup bs)
  | 0x80 => .radioSetup tag (Parse.body parseRadio bs)
  | 0x90 => .streamOpen tag (Parse.body parseStreamOpen bs)
  | 0x91 => .segmentAdd tag (Parse.body parseSegmentAdd bs)
  | 0x92 => .streamPause tag (Parse.body (Parse.num 1) bs)
  | 0x93 => .streamResume tag (Parse.body parseResume bs)
  | 0x94 => .streamClose tag (Parse.body (Parse.num 1) bs)
  | 0x95 => .streamQuery tag (Parse.body (Parse.num 1) bs)
  | 0x96 => .drainSelect tag (Parse.body (Parse.num 1) bs)
  | 0xA0 => .doze tag (Parse.body parseDoze bs)
  | 0xA1 => .sleep tag (Parse.body parseUnit bs)
  | 0xA2 => .wakeMask tag (Parse.body (Parse.counted (Parse.num 1)) bs)
  | 0xB0 => .status tag (Parse.body parseUnit bs)
  | 0xB1 => .identify tag (Parse.body parseUnit bs)
  | 0xB2 => .linkSetup tag (Parse.body (Parse.num 2) bs)
  | 0xB3 => .setupEnd tag (Parse.body parseUnit bs)
  | 0xB4 => .engineReset tag (Parse.body parseUnit bs)
  | _ => .unknownCommand (.code code tag)

/-- The row of a TILE body (R190, R192): a 12-byte header and the pixel part. -/
def decodeTile (body : List Byte) : Instr :=
  if body.length < 12 then .tileTarget .short
  else
    let num := fun (i n : Nat) => leNat ((body.drop i).take n)
    let rect : Rect := ⟨num 4 2, num 6 2, num 8 2, num 10 2⟩
    if num 0 1 = 1 then .tileLeaf (num 1 3) rect (body.drop 12) else .tileTarget (.tile (num 0 1) rect (body.drop 12))

/-- The row that the first byte of a served transaction stands for, with the bytes that follow it: 0xA1 WRITE, 0xB2 READ-MESSAGE,
0xB4 READ-DRAIN, and any other none of the three, which makes the transaction void (R190, R181). -/
def transactionRow (selector : Byte) (rest : List Byte) : Instr :=
  if selector = 0xA1 then .write rest
  else if selector = 0xB2 then .readMessage
  else if selector = 0xB4 then .readDrain
  else .voidTransaction

/-- The row a packet is taken as (R183, R190 to R192). -/
def decodePacket (kind : Nat) (body : List Byte) : Instr :=
  if kind = 1 then
    match body with
    | code :: tag :: rest => decodeCommand code.toNat tag.toNat rest
    | _ => .unknownCommand .short
  else if kind = 2 then decodeTile body
  else if kind = 3 then .table body
  else .unknownPacketKind kind

end Sys2Proof
end

