-- ==== Sys2Proof/Machine/Memory.lean ====
section
/-! DEFINITION. Page memory: 16 MiB as a list of cells in one canonical form, and the images and byte runs that lie in it
through a holder's block list (R6, R14, R26, R157). Everything that touches page memory goes through `read`, `splice`
and `fill`. -/

namespace Sys2Proof.Machine

/-- Page memory (R2). -/
abbrev Memory := List Host.Cell

/-- What a byte that nothing has written reads as (DESIGN CHOICE, log 5): two pixels of level 15. -/
def Memory.blank : Byte := 0xFF

/-- The canonical form: addresses strictly rising, and no cell equal to what an unlisted address reads as. -/
abbrev Memory.wf (m : Memory) : Prop :=
  List.Pairwise (fun a b : Host.Cell => a.1 < b.1) m ∧ ∀ c ∈ m, c.2 ≠ Memory.blank

/-- The byte at an address. -/
def Memory.read (m : Memory) (a : Nat) : Byte :=
  match m.find? (fun c => c.1 == a) with
  | some c => c.2
  | none => Memory.blank

/-- The cells below an address. -/
def Memory.below (m : Memory) (a : Nat) : Memory := m.filter (fun c => c.1 < a)

/-- The cells at an address and above. -/
def Memory.above (m : Memory) (a : Nat) : Memory := m.filter (fun c => a ≤ c.1)

/-- The cells that bytes from an address on need. -/
def Memory.cells (a : Nat) : List Byte → Memory
  | [] => []
  | b :: bs => if b = Memory.blank then Memory.cells (a + 1) bs else (a, b) :: Memory.cells (a + 1) bs

/-- Write bytes from an address on. -/
def Memory.splice (m : Memory) (a : Nat) (bs : List Byte) : Memory :=
  m.below a ++ Memory.cells a bs ++ m.above (a + bs.length)

/-- Write one byte. -/
def Memory.write (m : Memory) (a : Nat) (b : Byte) : Memory := m.splice a [b]

/-- Fill `n` bytes from an address on with one value. -/
def Memory.fill (m : Memory) (a n : Nat) (b : Byte) : Memory :=
  m.below a ++ (if b = Memory.blank then [] else (List.range' a n).map (fun i => (i, b))) ++ m.above (a + n)

/-- The address of byte `k` of an image or run that lies in the given blocks in order (R6, R157). -/
def imageAddr (blocks : List Nat) (k : Nat) : Nat :=
  blocks.getD (k / Config.blockBytes) 0 * Config.blockBytes + k % Config.blockBytes

/-- Write bytes into a run from offset `k` of the run on. -/
def Memory.writeRun (m : Memory) (blocks : List Nat) (k : Nat) : List Byte → Memory
  | [] => m
  | b :: bs => (m.write (imageAddr blocks k) b).writeRun blocks (k + 1) bs

/-- Read `n` bytes of a run from offset `k` on. -/
def Memory.readRun (m : Memory) (blocks : List Nat) (k n : Nat) : List Byte :=
  (List.range n).map (fun i => m.read (imageAddr blocks (k + i)))

/-- The two pixels of a byte: the even one in bits 7..4, the odd one in bits 3..0 (DESIGN CHOICE, log 24). -/
def pixelOf (b : Byte) (index : Nat) : Nat := if index % 2 = 0 then b.toNat / 16 else b.toNat % 16

/-- A byte with one of its two pixels replaced. -/
def withPixel (b : Byte) (index level : Nat) : Byte :=
  if index % 2 = 0 then BitVec.ofNat 8 (level % 16 * 16 + b.toNat % 16)
  else BitVec.ofNat 8 (b.toNat / 16 * 16 + level % 16)

/-- The level of a pixel of an image (R6). -/
def Memory.pixel (m : Memory) (blocks : List Nat) (index : Nat) : Nat :=
  pixelOf (m.read (imageAddr blocks (index / 2))) index

/-- Set the level of a pixel of an image; the other pixel of its byte keeps its level (R55). -/
def Memory.setPixel (m : Memory) (blocks : List Nat) (index level : Nat) : Memory :=
  let a := imageAddr blocks (index / 2)
  m.write a (withPixel (m.read a) index level)

/-- Set several pixels, each given as its index and level. -/
def Memory.setPixels (m : Memory) (blocks : List Nat) : List (Nat × Nat) → Memory
  | [] => m
  | p :: ps => (m.setPixel blocks p.1 p.2).setPixels blocks ps

/-- A byte of two pixels of one level. -/
def levelByte (level : Nat) : Byte := BitVec.ofNat 8 (level % 16 * 17)

/-- Fill a whole block with one level (R14). -/
def Memory.fillBlock (m : Memory) (block level : Nat) : Memory :=
  m.fill (block * Config.blockBytes) Config.blockBytes (levelByte level)

end Sys2Proof.Machine
end

