-- ==== Sys2Proof/Machine/Operands.lean ====
section
/-! DEFINITION. Operand forms: clamping, the geometry of rectangles and panels (R1, R6, R41, R56), and the pixels of a
tile (R55). -/

namespace Sys2Proof.Machine

/-- Record `i` of a fixed set of records; a number beyond the set names none of them and reads as the empty record. -/
def recordAt {α : Type} {n : Nat} (v : Vector α n) (i : Nat) (empty : α) : α := v[i]?.getD empty

/-- Change record `i` of a fixed set of records; a number beyond the set changes nothing. -/
def withRecord {α : Type} {n : Nat} (v : Vector α n) (i : Nat) (f : α → α) : Vector α n :=
  if h : i < n then v.set i (f v[i]) else v

/-- A number clamped to the nearer end of its range. -/
def clampNat (lo hi v : Nat) : Nat := max lo (min v hi)

/-- A signed number clamped to the nearer end of its range. -/
def clampInt (lo hi v : Int) : Int := max lo (min v hi)

/-- An optional value as a command gives it, brought into range by `f`; a value left out keeps the old one. -/
def givenOr (old : Nat) (f : Nat → Nat) (v : Option Nat) : Nat :=
  match v with
  | none => old
  | some x => f x

/-- The plane size P in blocks, which is also the leaf size (R6); 0 while no geometry is set. -/
def planeSize (g : Option PanelArgs) : Nat :=
  match g with
  | none => 0
  | some p => (p.width * p.height / 2 + (Config.blockBytes - 1)) / Config.blockBytes

/-- The blocks of the shown plane (R6). -/
def shownBlocks (g : Option PanelArgs) : List Nat := List.range (planeSize g)

/-- The blocks of the target plane (R6). -/
def targetBlocks (g : Option PanelArgs) : List Nat := List.range' (planeSize g) (planeSize g)

/-- The whole-panel rectangle. -/
def wholePanel (p : PanelArgs) : Rect := ⟨0, 0, p.width, p.height⟩

/-- A rectangle of at least one pixel inside the panel (R1, R37). -/
def rectInside (r : Rect) (p : PanelArgs) : Bool :=
  0 < r.w && 0 < r.h && r.x + r.w ≤ p.width && r.y + r.h ≤ p.height

/-- Two rectangles share at least one pixel (R1). -/
def rectOverlaps (a b : Rect) : Bool :=
  a.x < b.x + b.w && b.x < a.x + a.w && a.y < b.y + b.h && b.y < a.y + a.h

/-- The first rectangle contains the second entirely (R56). -/
def rectContains (a b : Rect) : Bool :=
  a.x ≤ b.x && b.x + b.w ≤ a.x + a.w && a.y ≤ b.y && b.y + b.h ≤ a.y + a.h

/-- The positions of a rectangle's pixels within it, as row and column, in raster order. -/
def rectCells (r : Rect) : List (Nat × Nat) :=
  (List.range r.h).flatMap (fun j => (List.range r.w).map (fun i => (j, i)))

/-- The index in an image of width `w` of the pixel at row `j`, column `i` of a rectangle (R6). -/
def pixelIndex (w : Nat) (r : Rect) (c : Nat × Nat) : Nat := (r.y + c.1) * w + (r.x + c.2)

/-- The indices in an image of width `w` of a rectangle's pixels (R6). -/
def rectIndices (w : Nat) (r : Rect) : List Nat := (rectCells r).map (pixelIndex w r)

/-- Bytes of one row of a tile (R55). -/
def tileRowBytes (r : Rect) : Nat := (r.w + 1) / 2

/-- Bytes of a tile's pixel part (R55). -/
def tileBytes (r : Rect) : Nat := r.h * tileRowBytes r

/-- The level a tile gives to the pixel at row and column `c`: the pixel of lower x in bits 7..4 (R55, R190). -/
def tileLevel (r : Rect) (pixels : List Byte) (c : Nat × Nat) : Nat :=
  pixelOf (pixels.getD (c.1 * tileRowBytes r + c.2 / 2) 0) c.2

/-- The pixels a tile writes, as index and level, for an image of width `w` (R55, R85). -/
def tilePixels (w : Nat) (r : Rect) (pixels : List Byte) : List (Nat × Nat) :=
  (rectCells r).map (fun c => (pixelIndex w r c, tileLevel r pixels c))

/-- The leaf number one step away in a direction, if there is one (R91). -/
def stepLeaf (n : Nat) (d : TurnDir) : Option Nat :=
  match d with
  | .next => if n + 1 ≤ Config.maxLeaf then some (n + 1) else none
  | .prev => if 1 ≤ n then some (n - 1) else none

/-- The edge mark that ends the book in a direction (R91). -/
def edgeOf (d : TurnDir) : EdgeMark :=
  match d with
  | .next => .last
  | .prev => .first

/-! ### Bits -/

/-- The number whose bit i is the i-th mark. -/
def bitsOf (ms : List Bool) : Nat :=
  match ms with
  | [] => 0
  | m :: rest => (if m then 1 else 0) + 2 * bitsOf rest

end Sys2Proof.Machine
end

