-- ==== Sys2Proof/Machine/Flags.lean ====
section
/-! DEFINITION. The flags that a STATUS read-out clears: OVERFLOW, BUDGET_OVER and the saturated flag (R185). -/

namespace Sys2Proof.Machine

/-- An event sets the flag. -/
def StickyFlag.raise (f : StickyFlag) : StickyFlag := ⟨true, f.sets + 1⟩

/-- An event that sets the flag only where a condition holds; otherwise the flag is left as it was. -/
def StickyFlag.raiseIf (f : StickyFlag) (c : Bool) : StickyFlag := if c then f.raise else f

/-- The read-out of a STATUS reply that carried the flag as `carried`, made when it had been set `sets` times: a carried
flag is cleared unless an event has set it again since (R185). -/
def StickyFlag.readOut (f : StickyFlag) (carried : Bool) (sets : Nat) : StickyFlag :=
  if carried && f.sets == sets then ⟨false, f.sets⟩ else f

end Sys2Proof.Machine
end

