-- ==== Sys2Proof/Machine/Ops.lean ====
section
/-! DEFINITION. The shared operations: one update per block of State, the message queue and its reports and replies (R184),
the HOLD line (R145), the standby delay timer (R175), the block pool (R2 to R4), and the taking of packets (R183). -/

namespace Sys2Proof.Machine

/-- Change the pool block and nothing else. -/
def State.onPool (s : State) (f : PoolState → PoolState) : State := { s with pool := f s.pool }

/-- Change the wave block and nothing else. -/
def State.onWave (s : State) (f : WaveState → WaveState) : State := { s with wave := f s.wave }

/-- Change the engine block and nothing else. -/
def State.onEngine (s : State) (f : EngineState → EngineState) : State := { s with engine := f s.engine }

/-- Change the rail block and nothing else. -/
def State.onRail (s : State) (f : RailState → RailState) : State := { s with rail := f s.rail }

/-- Change the budget block and nothing else. -/
def State.onBudget (s : State) (f : BudgetState → BudgetState) : State := { s with budget := f s.budget }

/-- Change the cache block and nothing else. -/
def State.onCache (s : State) (f : CacheState → CacheState) : State := { s with cache := f s.cache }

/-- Change the keys block and nothing else. -/
def State.onKeys (s : State) (f : KeyState → KeyState) : State := { s with keys := f s.keys }

/-- Change the light block and nothing else. -/
def State.onLight (s : State) (f : LightState → LightState) : State := { s with light := f s.light }

/-- Change the radio block and nothing else. -/
def State.onRadio (s : State) (f : RadioState → RadioState) : State := { s with radio := f s.radio }

/-- Change the stream block and nothing else. -/
def State.onStream (s : State) (f : StreamState → StreamState) : State := { s with stream := f s.stream }

/-- Change the power block and nothing else. -/
def State.onPower (s : State) (f : PowerState → PowerState) : State := { s with power := f s.power }

/-- Change the link block and nothing else. -/
def State.onLink (s : State) (f : LinkState → LinkState) : State := { s with link := f s.link }

/-- Change page memory and nothing else. -/
def State.onMem (s : State) (f : Memory → Memory) : State := { s with mem := f s.mem }

/-- The power states in which the link takes packets and the receiver runs (R135, R183). -/
def servingMode (m : PowerMode) : Bool :=
  match m with
  | .active => true
  | .doze => true
  | .settling => true
  | .standby => false
  | .waking => false

/-! ### The message queue -/

/-- The reports among the entries (R184). -/
def reportCount (q : List Entry) : Nat := (q.filter Entry.isReport).length

/-- Is the entry a report that the mask makes wake-worthy (R169)? -/
def worthyEntry (mask : List ReportKind) (e : Entry) : Bool :=
  match e with
  | .reply _ => false
  | .report r => mask.contains r.kind

/-- The wake-worthy reports among the entries (R169, R180). -/
def worthyCount (mask : List ReportKind) (q : List Entry) : Nat := (q.filter (worthyEntry mask)).length

/-- The four idle conditions of R173. -/
def PowerState.fourIdle (p : PowerState) : Bool := p.engineIdle && p.railsOff && p.lightDark && !p.running

/-- The five idle conditions of R175. -/
def PowerState.fiveIdle (p : PowerState) : Bool := p.fourIdle && p.wakeCount == 0

/-- In DOZE the standby delay timer runs while the five conditions hold (R175). Its unit is 100 ms. -/
def PowerState.recheckDoze (p : PowerState) : PowerState :=
  if p.mode = .doze then
    if p.fiveIdle then { p with timer := some (p.timer.getD p.delay) } else { p with timer := none }
  else p

/-- The wake-worthy count is counted afresh and handed to the power controller (R169, R180, R184). -/
def recount (s : State) : State :=
  let n := worthyCount s.power.mask s.link.queue
  (s.onLink (fun l => { l with wakeCount := n })).onPower (fun p => { p with wakeCount := n }.recheckDoze)

/-- Is there room for a report (R184)? -/
def LinkState.roomForReport (l : LinkState) : Bool :=
  reportCount l.queue < Config.maxReports && l.queue.length + (if l.reserved then 1 else 0) < Config.queueSize

/-- Is there room to reserve a reply's place (R184)? -/
def LinkState.roomForReply (l : LinkState) : Bool :=
  l.queue.length + (if l.reserved then 1 else 0) < Config.queueSize

/-- Raise a report: it joins the queue, or is dropped with the OVERFLOW flag set (R184). No block raises a report in
STANDBY (R176; log 21). -/
def raise (r : Report) (s : State) : State :=
  if s.power.mode = .standby then s
  else if s.link.roomForReport then recount (s.onLink (fun l => { l with queue := l.queue ++ [.report r] }))
  else s.onLink (fun l => { l with overflow := l.overflow.raise })

/-- Raise reports one after another. -/
def raiseAll (rs : List Report) (s : State) : State := rs.foldl (fun s r => raise r s) s

/-- Queue a reply with state; it fills the reserved place (R184). -/
def replyWith (code tag : Nat) (status : Status) (state : ReplyState) (s : State) : State :=
  recount (s.onLink (fun l => { l with queue := l.queue ++ [.reply ⟨code, tag, status, state⟩], reserved := false }))

/-- Queue a reply that carries no state. -/
def reply (code tag : Nat) (status : Status) (s : State) : State := replyWith code tag status .none s

/-! ### Outputs that follow the state -/

/-- RDY: three packets or fewer in the buffer, in ACTIVE or DOZE (R180). -/
def State.rdy (s : State) : Bool :=
  s.link.buffer.length ≤ 3 && (s.link.powerCopy = .active || s.link.powerCopy = .doze)

/-- ATTN (R170). -/
def State.attn (s : State) : Bool :=
  if s.power.mode = .active then !s.link.queue.isEmpty else 0 < s.link.wakeCount

/-- The regulator enable is asserted in RISING, ON and HOLD (R63). -/
def State.regulatorEnable (s : State) : Bool :=
  s.rail.mode = .rising || s.rail.mode = .on || s.rail.mode = .hold

/-! ### The radio port's counts and its HOLD line -/

/-- One more, holding at 65535 (R144). -/
def bumpCount (n : Nat) : Nat := min (n + 1) 65535

/-- Raise one of the thirteen counts (R144). -/
def bumpCounts (c : RadioCounts) (k : CountKind) : RadioCounts :=
  match k with
  | .framing => { c with framing := bumpCount c.framing }
  | .noise => { c with noise := bumpCount c.noise }
  | .overrun => { c with overrun := bumpCount c.overrun }
  | .brk => { c with brk := bumpCount c.brk }
  | .truncated => { c with truncated := bumpCount c.truncated }
  | .gap => { c with gap := bumpCount c.gap }
  | .header => { c with header := bumpCount c.header }
  | .crc => { c with crc := bumpCount c.crc }
  | .broken => { c with broken := bumpCount c.broken }
  | .frames => { c with frames := bumpCount c.frames }
  | .orphan => { c with orphan := bumpCount c.orphan }
  | .holdOn => { c with holdOn := bumpCount c.holdOn }
  | .wake => { c with wake := bumpCount c.wake }

/-- The characters in the FIFO (R137). -/
def fifoFill (q : List FifoEntry) : Nat :=
  (q.filter (fun e => match e with | .char _ _ => true | .note _ => false)).length

/-- The five conditions of R145, in its order. -/
def RadioState.holdConditions (r : RadioState) : List Bool :=
  [!r.enabled, !(r.powerCopy = .active || r.powerCopy = .doze), r.fillHold, r.freeCopy ≤ r.reserveCopy, r.headroomCopy]

/-- HOLD is formed afresh; its passage from released to asserted is counted (R145). -/
def RadioState.rehold (r : RadioState) : RadioState :=
  let h := r.holdConditions.any id
  { r with hold := h, counts := if h && !r.hold then bumpCounts r.counts .holdOn else r.counts }

/-- The FIFO becomes `q`; the fill-hold mark and HOLD follow (R138, R145). -/
def RadioState.setFifo (r : RadioState) (q : List FifoEntry) : RadioState :=
  let n := fifoFill q
  { r with fifo := q, fillHold := if 48 ≤ n then true else if n ≤ 16 then false else r.fillHold }.rehold

/-- The assembler is set to HUNT, with no frame in assembly and the gap timer stopped; a handover that waits is released,
so that an answer the stream engine still owes is remembered (R143). -/
def RadioState.toHunt (r : RadioState) : RadioState :=
  { r with asm := .hunt, frame := none, gap := none, waiting := false, released := r.released || r.waiting }

/-- The pool hands its free count and reserve to the radio port (R2, R9). -/
def handPool (s : State) : State :=
  s.onRadio (fun r => { r with freeCopy := s.pool.freeCount, reserveCopy := s.pool.reserve }.rehold)

/-! ### The block pool -/

/-- The blocks of the table. -/
def PoolState.held (p : PoolState) : List Nat := p.table.map BlockEntry.block

/-- The `k` lowest-numbered FREE blocks, or all if there are fewer (R3). -/
def PoolState.lowestFree (p : PoolState) (k : Nat) : List Nat :=
  ((List.range Config.waveBase).filter (fun b => !p.held.contains b)).take k

/-- Put an entry in its place by block number. -/
def insertEntry (e : BlockEntry) : List BlockEntry → List BlockEntry
  | [] => [e]
  | x :: xs => if e.block < x.block then e :: x :: xs else x :: insertEntry e xs

/-- Give blocks to an owner (R3). -/
def PoolState.give (p : PoolState) (blocks : List Nat) (o : Owner) : PoolState :=
  { p with table := blocks.foldl (fun t b => insertEntry ⟨b, o⟩ t) p.table, freeCount := p.freeCount - blocks.length }

/-- Return blocks to the pool: their entries go, with owner index and written mark, and the free count rises by as
many (R4). -/
def PoolState.release (p : PoolState) (blocks : List Nat) : PoolState :=
  { p with
    table := p.table.filter (fun e => !blocks.contains e.block)
    freeCount := p.freeCount + (p.table.filter (fun e => blocks.contains e.block)).length }

/-- Allocate the `k` lowest-numbered FREE blocks to an owner and hand on the new free count (R2, R3). -/
def allocate (k : Nat) (o : Owner) (s : State) : State :=
  handPool (s.onPool (fun p => p.give (p.lowestFree k) o))

/-- Release blocks and hand on the new free count (R2, R4). -/
def releaseBlocks (blocks : List Nat) (s : State) : State := handPool (s.onPool (fun p => p.release blocks))

/-- Blocks whose owner satisfies a test. -/
def PoolState.ownedBy (p : PoolState) (f : Owner → Bool) : List Nat :=
  (p.table.filter (fun e => f e.owner)).map BlockEntry.block

def Owner.isPlane (o : Owner) : Bool :=
  match o with
  | .plane _ => true
  | .leaf _ _ => false
  | .stage _ => false

def Owner.isLeaf (o : Owner) : Bool :=
  match o with
  | .plane _ => false
  | .leaf _ _ => true
  | .stage _ => false

def Owner.isStage (o : Owner) : Bool :=
  match o with
  | .plane _ => false
  | .leaf _ _ => false
  | .stage _ => true

/-- Is the block's written mark set (R13)? -/
def PoolState.written (p : PoolState) (block : Nat) : Bool :=
  p.table.any (fun e => e.block == block && match e.owner with | .leaf _ w => w | .plane _ => false | .stage _ => false)

/-- Set or clear the written marks of leaf blocks (R13). -/
def PoolState.mark (p : PoolState) (blocks : List Nat) (w : Bool) : PoolState :=
  { p with
    table := p.table.map (fun e =>
      match e.owner with
      | .leaf n _ => if blocks.contains e.block then ⟨e.block, .leaf n w⟩ else e
      | .plane _ => e
      | .stage _ => e) }

/-! ### Taking packets -/

/-- Every command packet comes to its row in one of two ways (log 1): it stands at the head of the packet buffer and leaves
it now, or it is taken as it arrives, past a buffer that does not begin with it. -/
def popPacket (i : Instr) (s : State) : State :=
  match s.link.buffer with
  | [] => s
  | p :: rest => if decodePacket p.kind p.body = i then s.onLink (fun l => { l with buffer := rest }) else s

/-- Take a packet that is not a command: it leaves the buffer and its owner handles it, in the power states in which
packets are taken (R183). -/
def takePacket (i : Instr) (owner : State → State) (s : State) : State :=
  if servingMode s.power.mode then owner (popPacket i s) else s

/-- Reserve the reply's place and go on, or discard the command with the OVERFLOW flag set (R183, R184). -/
def withReplyPlace (owner : State → State) (s : State) : State :=
  if s.link.roomForReply then owner (s.onLink (fun l => { l with reserved := true }))
  else s.onLink (fun l => { l with overflow := l.overflow.raise })

/-- Take a COMMAND packet: its reply's place is reserved, a body found faulty by R191 is answered, and any other is
handed to the owner, who queues the reply. A command refused here changes nothing, so that a WAVE_LOAD refused at the parse
leaves an open load open (DESIGN CHOICE, log 40). -/
def takeCommand {α : Type} (i : Instr) (code tag : Nat) (b : Body α) (owner : α → State → State) (s : State) : State :=
  takePacket i (withReplyPlace (fun s =>
    match b with
    | .fields a => owner a s
    | .badLength => reply code tag .badLength s
    | .badParam => reply code tag .badParam s)) s

/-- The row of the oldest packet of the buffer, in the power states in which packets are taken (R183). -/
def nextPacket (s : State) : Option Instr :=
  if servingMode s.power.mode then
    match s.link.buffer with
    | [] => none
    | p :: _ => some (decodePacket p.kind p.body)
  else none

/-- One idle millisecond: the timestamp counter rises by one and wraps from 65535 to 0, in every power state (R105; the
idle step is log 2). -/
def tickMillisecond (s : State) : State := s.onKeys (fun k => { k with timestamp := (k.timestamp + 1) % 65536 })

end Sys2Proof.Machine
end

