-- ==== Sys2Proof/Machine/PowerOps.lean ====
section
/-! DEFINITION. The power controller's shared operations: the handing on of the power state (R168), the entry to STANDBY
with every block's part in it (R176), and the notices by which the other blocks tell it that they are idle (R173, R175). -/

namespace Sys2Proof.Machine

/-- The level at which a key wakes the part: the inactive level for a COVER key, the active level otherwise (R104). -/
def otherLevel (l : Level) : Level :=
  match l with
  | .low => .high
  | .high => .low

/-- The wake level of a key (R104). -/
def wakeLevel (c : KeyConfig) : Level := if c.action = .cover then otherLevel c.active else c.active

/-- An input on entry to STANDBY: timers stopped, marks kept, sleep sense set (R113). -/
def KeyInput.toStandby (k : KeyInput) : KeyInput :=
  { k with
    debounce := none
    holdTimer := none
    repeatTimer := none
    sense :=
      if k.config.enabled && k.armed && k.config.wakeEnable then
        if k.raw = wakeLevel k.config then .wait else .watch
      else .none }

/-- The radio port on entry to STANDBY (R147). -/
def RadioState.toStandby (r : RadioState) : RadioState :=
  { (r.setFifo []).toHunt with receiver := .stopped, watching := r.enabled && r.wake }

/-- The new power state reaches the radio port with its HOLD condition, the link's RDY and the budget unit (R168). -/
def handMode (s : State) : State :=
  ((s.onRadio (fun r => { r with powerCopy := s.power.mode }.rehold)).onLink
    (fun l => { l with powerCopy := s.power.mode })).onBudget (fun b => { b with power := s.power.mode })

/-- Set the power state and hand it on. -/
def setMode (m : PowerMode) (s : State) : State := handMode (s.onPower (fun p => { p with mode := m }))

/-- A part whose page memory is asked into self-refresh (R15). -/
def PoolState.askRefresh (p : PoolState) : PoolState := { p with refresh := .entering }

/-- Entry to STANDBY, in the order of R176. -/
def enterStandby (s : State) : State :=
  let s := setMode .standby (s.onPower (fun p => { p with leftMode := none, hostAsked := false, timer := none }))
  let s := s.onCache (fun c => { c with sleepMark := false })
  let s := s.onLight (fun l => { l with dwell := none })
  let s := s.onStream (fun t => { t with records := t.records.map (fun r => { r with stall := none }) })
  let s := s.onWave (fun w => { w with timer := .stopped })
  let s := s.onKeys (fun k => { k with inputs := k.inputs.map KeyInput.toStandby })
  let s := s.onRadio RadioState.toStandby
  s.onPool PoolState.askRefresh

/-- The power controller tests its idle conditions: in SETTLING the four of R173, in DOZE the five of R175. -/
def powerReact (s : State) : State :=
  match s.power.mode with
  | .settling => if s.power.fourIdle then enterStandby s else s
  | .doze => s.onPower PowerState.recheckDoze
  | .active => s
  | .standby => s
  | .waking => s

/-- The update engine tells whether it is idle; a notice that changes nothing is no event (R168, R173). -/
def tellEngineIdle (b : Bool) (s : State) : State :=
  if s.power.engineIdle = b then s else powerReact (s.onPower (fun p => { p with engineIdle := b }))

/-- The rail controller tells whether the rails are OFF (R63, R173). -/
def tellRailsOff (b : Bool) (s : State) : State :=
  if s.power.railsOff = b then s else powerReact (s.onPower (fun p => { p with railsOff := b }))

/-- The light unit tells whether the light is dark (R127, R173). -/
def tellLightDark (b : Bool) (s : State) : State :=
  if s.power.lightDark = b then s else powerReact (s.onPower (fun p => { p with lightDark := b }))

/-- The stream engine hands its running signal (R150, R173). -/
def tellRunning (b : Bool) (s : State) : State :=
  if s.power.running = b then s else powerReact (s.onPower (fun p => { p with running := b }))

end Sys2Proof.Machine
end

