-- ==== Sys2Proof/Machine/LightOps.lean ====
section
/-! DEFINITION. The front light's shared operations: duties (R120 to R122), the effective target and the ramp (R123, R124),
activity and dwell (R126), the sleep notices (R125, R128) and the notice of darkness (R127). -/

namespace Sys2Proof.Machine

/-- The demand D for a level, from the curve (R120). -/
def curveDemand (curve : List Nat) (level : Nat) : Nat :=
  if level = 0 then 0
  else if 100 ≤ level then curve.getD 20 0
  else
    let i := level / 5
    curve.getD i 0 + (curve.getD (i + 1) 0 - curve.getD i 0) * (level - 5 * i) / 5

/-- The warm demand duty: the warm share rounded half up (R121). -/
def warmDuty (demand warmth : Nat) : Nat := (demand * warmth + 50) / 100

/-- The output duties formed afresh from level, warmth, ceilings and allowance (R120 to R122). -/
def LightState.formDuties (l : LightState) : LightState :=
  let d := curveDemand l.curve l.level
  let dw := warmDuty d l.warmth
  let dc := d - dw
  let demand := dw * l.warmCeiling + dc * l.coolCeiling
  let most := l.allowance * 4095
  if demand ≤ most then
    { l with warmDemand := dw, coolDemand := dc, warmOut := dw, coolOut := dc, limited := false }
  else
    { l with
      warmDemand := dw
      coolDemand := dc
      warmOut := dw * most / demand
      coolOut := dc * most / demand
      limited := true }

/-- The effective target by the first case that applies (R123). -/
def LightState.wanted (l : LightState) : Nat :=
  if l.hold then 0 else if l.dark then 0 else if l.dimmed then min l.setLevel l.dim else l.setLevel

/-- The interval in force (R124, R125). -/
def LightState.interval (l : LightState) : Nat := if l.hold then 2 else l.rampInterval

/-- The current level becomes the target at once; the ramp timer stays stopped (R124). -/
def LightState.jump (l : LightState) : LightState := { l with level := l.target, ramp := none }.formDuties

/-- The effective target is taken afresh; where it changes, the ramp is told (R123, R124). -/
def LightState.retarget (l : LightState) : LightState :=
  let t := l.wanted
  if t = l.target then l
  else
    let l := { l with target := t }
    if t = l.level then { l with ramp := none }
    else
      match l.ramp with
      | some _ => l
      | none => if l.interval = 0 then l.jump else { l with ramp := some l.interval }

/-- One level toward another. -/
def stepToward (a b : Nat) : Nat := if a < b then a + 1 else if b < a then a - 1 else a

/-- The ramp timer expires (R124). -/
def LightState.rampStep (l : LightState) : LightState :=
  let l := { l with level := stepToward l.level l.target }.formDuties
  if l.level = l.target then { l with ramp := none }
  else if l.interval = 0 then l.jump
  else { l with ramp := some l.interval }

/-- The dwell timer starts afresh, if the dwell time is above 0 (R126). -/
def LightState.startDwell (l : LightState) : LightState :=
  if 0 < l.dwellTime then { l with dwell := some l.dwellTime } else l

/-- Activity (R126). -/
def LightState.activity (l : LightState) : LightState :=
  ({ l with dimmed := false, dark := false }.startDwell).retarget

/-- The dwell timer expires (R126). -/
def LightState.dwellOver (l : LightState) : LightState := { l with dwell := none, dimmed := true }.retarget

/-- The set level becomes `v` (R129, R130). -/
def LightState.setTo (l : LightState) (v : Nat) : LightState := { l with setLevel := v }.retarget

/-- The part has entered SETTLING (R125; log 27). -/
def LightState.settle (l : LightState) : LightState :=
  let l := { l with hold := true }.retarget
  match l.ramp with
  | some _ => { l with ramp := some 2 }
  | none => if 0 < l.level then { l with ramp := some 2 } else l

/-- SETTLING has been cancelled (R125). -/
def LightState.release (l : LightState) : LightState := { l with hold := false }.retarget

/-- WAKING has completed; `radio`: the cause handed on is a radio break (R128). -/
def LightState.wake (l : LightState) (radio : Bool) : LightState :=
  { { l with hold := false, dimmed := false }.startDwell with dark := radio }.retarget

/-- The light is dark: both outputs 0, the target 0 and the ramp ended at level 0 (R127; log 12). -/
def LightState.isDark (l : LightState) : Bool := l.warmOut = 0 && l.coolOut = 0 && l.target = 0 && l.level = 0

/-- An event of the light unit: its state changes and the power controller hears whether it is dark (R127). -/
def lightEvent (f : LightState → LightState) (s : State) : State :=
  let s := s.onLight f
  tellLightDark s.light.isDark s

/-- Key activity, an accepted UPDATE, a queued turn or an accepted LIGHT_SET (R126); none reaches the light unit in STANDBY
and WAKING (R125). -/
def lightActivity (s : State) : State := if servingMode s.power.mode then lightEvent LightState.activity s else s

/-- A key asks for a set level; a change is reported (R129). -/
def lightRequest (level : Nat) (s : State) : State :=
  if level = s.light.setLevel then s
  else
    let s := lightEvent (fun l => l.setTo level) s
    raise (.lightLevel s.light.setLevel s.light.warmth) s

end Sys2Proof.Machine
end

