-- ==== Sys2Proof/Machine/BudgetOps.lean ====
section
/-! DEFINITION. The budget unit's shared operations: the panel estimate (R77) and the recomputation of the light
allowance, which the light unit applies in the same event (R78). -/

namespace Sys2Proof.Machine

/-- The effective budget (R75). -/
def BudgetState.budget (b : BudgetState) : Nat := if b.lowbat then b.low else b.normal

/-- The regulator is enabled in RISING, ON and HOLD (R63). -/
def railsUp (m : RailMode) : Bool := m = .rising || m = .on || m = .hold

/-- The panel estimate in mA, rounded up (R77). -/
def BudgetState.estimate (b : BudgetState) : Nat :=
  if railsUp b.rail then b.base + (b.load * b.coeff + 999999) / 1000000 else 0

/-- Steps 1 to 4 of R78. -/
def BudgetState.recompute (b : BudgetState) : BudgetState :=
  let e := b.budget
  let p := b.estimate
  { b with
    effective := e
    panel := p
    budgetOver := b.budgetOver.raiseIf (e < p)
    allowance := max (e - p) b.floor }

/-- A recomputation: one of the budget unit's inputs changes, and the new allowance reaches the light unit, which forms
its duties (R78, R122). -/
def rebudget (f : BudgetState → BudgetState) (s : State) : State :=
  let s := s.onBudget (fun b => (f b).recompute)
  lightEvent (fun l => { l with allowance := s.budget.allowance }.formDuties) s

/-- LOW_BATTERY is raised and marked as reported (R76). -/
def reportLowBattery (s : State) : State :=
  raise .lowBattery (s.onBudget (fun b => { b with reported := true }))

end Sys2Proof.Machine
end

