-- ==== Sys2Proof/Machine/SleepOps.lean ====
section
/-! DEFINITION. Sleep across the blocks: the stream engine's signals and its pauses for sleep (R150, R166), the sleep request
(R172), its cancelling (R174), the start of WAKING (R177) and the link's part in them (R171). -/

namespace Sys2Proof.Machine

/-! ### The stream engine's signals and sleep -/

/-- Some OPEN or RUNNING stream holds more than its limit less 2 blocks (R150). -/
def StreamState.wantsHeadroom (t : StreamState) : Bool :=
  t.records.any (fun r => (r.mode = .opened || r.mode = .running) && r.limit < r.blocks.length + 2)

/-- Some stream is RUNNING (R150). -/
def StreamState.anyRunning (t : StreamState) : Bool := t.records.any (fun r => r.mode = .running)

/-- The headroom signal is recomputed and handed to the radio port, and the running signal is recomputed (R150, R145). -/
def handHeadroom (s : State) : State :=
  let h := s.stream.wantsHeadroom
  let s := s.onStream (fun t => { t with headroom := h, running := t.anyRunning })
  s.onRadio (fun r => { r with headroomCopy := h }.rehold)

/-- Both signals are handed on; the power controller acts on a change of the running signal (R150, R173). -/
def handSignals (s : State) : State :=
  let s := handHeadroom s
  tellRunning s.stream.running s

/-- A stream enters its state; the stall timer runs in RUNNING (R150). -/
def StreamRecord.enter (r : StreamRecord) (m : StreamMode) : StreamRecord :=
  { r with mode := m, stall := if m = .running then some r.stallTime else none }

/-- A stream leaves a pause for its state before it (R150). -/
def StreamRecord.unpause (r : StreamRecord) : StreamRecord :=
  { r with pause := none, beforePause := none }.enter (r.beforePause.getD .opened)

/-- A stream paused by command or by sleep (R150, R162, R166); any other is left as it is. -/
def StreamRecord.hush (r : StreamRecord) (c : PauseCause) : StreamRecord :=
  if r.mode = .opened || r.mode = .running then
    { r with mode := .paused, pause := some c, beforePause := some r.mode, stall := none }
  else r

/-- The sleep hold is set and every OPEN and RUNNING stream is paused SLEEP (R166). -/
def StreamState.settle (t : StreamState) : StreamState :=
  { t with sleepHold := true, records := t.records.map (fun r => r.hush .sleep) }

/-- The sleep hold is cleared and every stream paused SLEEP goes on (R166). -/
def StreamState.release (t : StreamState) : StreamState :=
  { t with
    sleepHold := false
    records := t.records.map (fun r => if r.mode = .paused && r.pause = some .sleep then r.unpause else r) }

/-! ### Settling and its cancelling -/

/-- A sleep request; it is taken in ACTIVE and DOZE (R172). The notices of its steps change the power controller's copies,
and the conditions are tested once, at step 6 (log 16). -/
def settle (hostAsked : Bool) (s : State) : State :=
  if s.power.mode = .active || s.power.mode = .doze then
    let s := setMode .settling
      (s.onPower (fun p => { p with leftMode := some p.mode, hostAsked := hostAsked, timer := none }))
    let s := s.onCache (fun c => { c with sleepMark := true })
    let s := s.onLight LightState.settle
    let s := s.onPower (fun p => { p with lightDark := s.light.isDark })
    let s := handHeadroom (s.onStream StreamState.settle)
    let s := s.onPower (fun p => { p with running := s.stream.running })
    powerReact s
  else s

/-- SETTLING is cancelled, into ACTIVE for a link transaction and into the left state otherwise (R174). -/
def cancelSettling (byLink : Bool) (s : State) : State :=
  if s.power.mode = .settling then
    let m := if byLink then PowerMode.active else s.power.leftMode.getD .active
    let s := setMode m (s.onPower (fun p => { p with leftMode := none, hostAsked := false }))
    let s := s.onCache (fun c => { c with sleepMark := false })
    let s := lightEvent LightState.release s
    let s := handSignals (s.onStream StreamState.release)
    s.onPower PowerState.recheckDoze
  else s

/-- An activity notice: it cancels SETTLING, and in DOZE it starts a running standby delay timer afresh (R174, R175). -/
def activityNotice (s : State) : State :=
  match s.power.mode with
  | .settling => cancelSettling false s
  | .doze => s.onPower (fun p => { p with timer := p.timer.map (fun _ => p.delay) })
  | .active => s
  | .standby => s
  | .waking => s

/-! ### Waking -/

/-- The pool is asked to bring page memory out of self-refresh; a placing still under way is finished first (R15, R178). -/
def PoolState.askReady (p : PoolState) : PoolState :=
  { p with refresh := if p.refresh = .entering then .enteringWakeAsked else .leaving }

/-- What a wake cause reports as WAKING begins (R177). -/
def wakeReport (c : WakeCause) (s : State) : State :=
  match c with
  | .link => raise (.wake .link) s
  | .radio => raise .radioWake s
  | .key _ => s
  | .cover _ => s

/-- WAKING begins (R177). -/
def beginWaking (c : WakeCause) (s : State) : State :=
  if s.power.mode = .standby then
    let s := setMode .waking (s.onPower (fun p =>
      { p with cause := some c, wakeEnd := some (if c = .link then .active else .doze), linkDuringWake := false }))
    let s := s.onKeys (fun k => { k with inputs := k.inputs.map (fun i => { i with sense := .none }) })
    let s := s.onRadio (fun r => { r with watching := false })
    let s := wakeReport c s
    s.onPool PoolState.askReady
  else s

/-- The chip select is asserted: the power controller acts by its state (R171, R177). -/
def linkNotice (s : State) : State :=
  match s.power.mode with
  | .active => s
  | .doze => setMode .active (s.onPower (fun p => { p with timer := none }))
  | .settling => if s.power.hostAsked then s else cancelSettling true s
  | .standby => beginWaking .link s
  | .waking =>
    if s.power.linkDuringWake then s
    else
      let s := s.onPower (fun p => { p with linkDuringWake := true, wakeEnd := some .active })
      if s.power.cause = some .link then s else raise (.wake .link) s

end Sys2Proof.Machine
end

