-- ==== Sys2Proof/Machine/RailOps.lean ====
section
/-! DEFINITION. The rail controller's shared operations up to the notices of lanes that leave (R63, R67, R68); those that reach
the update engine (ON and FAULT) stand in FrameOps. -/

namespace Sys2Proof.Machine

/-- The rail state changes; the budget unit and the power controller are told (R63). -/
def setRail (m : RailMode) (s : State) : State :=
  let s := s.onRail (fun r => { r with mode := m })
  tellRailsOff (m = .off) (rebudget (fun b => { b with rail := m }) s)

/-- The rails fall (R68). -/
def startFall (s : State) : State :=
  setRail .falling (s.onRail (fun r => { r with hold := none, fall := some r.fallTime }))

/-- The rails go to HOLD; a hold time of 0 ends as it starts (R67). -/
def enterHold (s : State) : State :=
  let s := setRail .hold (s.onRail (fun r => { r with hold := some r.holdTime }))
  if s.rail.holdTime = 0 then startFall s else s

/-- A lane has left ARMED or DRIVING (R67). -/
def laneLeft (s : State) : State :=
  let s := s.onRail (fun r => { r with armed := r.armed - 1 })
  if s.rail.mode = .on && s.rail.armed = 0 then enterHold s else s

end Sys2Proof.Machine
end

