-- ==== Sys2Proof/Machine/WaveOps.lean ====
section
/-! DEFINITION. The waveform unit's shared operations: slots and their use counts (R17 to R19), abandoning a load (R24), drive
lookup (R26, R27), band selection and excursions (R31, R32) and the temperature filter (R29). -/

namespace Sys2Proof.Machine

/-- The record of a slot. -/
def State.slot (s : State) (n : Nat) : Slot := recordAt s.wave.slots n {}

/-- Change one slot. -/
def onSlot (n : Nat) (f : Slot → Slot) (s : State) : State :=
  s.onWave (fun w => { w with slots := withRecord w.slots n f })

/-- Is the slot VALID (R19)? -/
def State.slotValid (s : State) (n : Nat) : Bool := (s.slot n).state = .valid

/-- The slot's usable full partner: a recorded partner that is VALID at this moment (R19). -/
def State.usablePartner (s : State) (n : Nat) : Option Nat :=
  match (s.slot n).partner with
  | none => none
  | some p => if s.slotValid p then some p else none

/-- Raise a slot's use count (R18). -/
def useSlot (n : Nat) (s : State) : State := onSlot n (fun t => { t with useCount := t.useCount + 1 }) s

/-- Lower a slot's use count (R18). -/
def unuseSlot (n : Nat) (s : State) : State := onSlot n (fun t => { t with useCount := t.useCount - 1 }) s

/-- An open load is abandoned: its slot becomes EMPTY (R24). -/
def abandonLoad (s : State) : State :=
  match s.wave.load with
  | none => s
  | some l => onSlot l.slot (fun _ => {}) (s.onWave (fun w => { w with load := none }))

/-! ### Drive lookup -/

/-- Where a slot's body begins in page memory (R5, R26); its 32 blocks follow one another. -/
def bodyBase (slot : Nat) : Nat := (Config.waveBase + Config.waveBlocksPerSlot * slot) * Config.blockBytes

/-- The body byte that holds a code (R26). -/
def codeOffset (frames : List Nat) (band k f t : Nat) : Nat := 64 * (frames.take band).sum + 64 * k + 4 * f + t / 4

/-- The two bits at a position of a body byte (R26, R190). -/
def codeBits (b : Byte) (position : Nat) : Nat := b.toNat / 4 ^ position % 4

/-- The drive code a value stands for (R26). The value 3 is no drive code, and no slot that became VALID holds one (R23, R27);
NONE stands for it here (DEDUCED, log 28). -/
def driveCode (v : Nat) : DriveCode :=
  match v with
  | 0 => .none
  | 1 => .darken
  | 2 => .lighten
  | _ => .none

/-- The drive lookup (R27). -/
def driveLookup (mem : Memory) (slot : Nat) (frames : List Nat) (band k f t : Nat) : DriveCode :=
  driveCode (codeBits (mem.read (bodyBase slot + codeOffset frames band k f t)) (t % 4))

/-! ### Temperature -/

/-- band(T): the smallest j with T at most U_j, or the last band (R31). -/
def bandOf (uppers : List Int) (t : Int) : Nat :=
  min ((uppers.takeWhile (fun u => u < t)).length) (uppers.length - 1)

/-- The band a slot takes at a new filtered temperature (R31). R31's third case stands below L too, where R32 says band 0: a band
above 0 is kept there where T_f + H passes U_0 (DESIGN CHOICE, log 60). -/
def nextBand (uppers : List Int) (hyst : Nat) (b : Option Nat) (t : Int) : Nat :=
  match b with
  | none => bandOf uppers t
  | some b => if b ≤ bandOf uppers t then bandOf uppers t else min (bandOf uppers (t + hyst)) b

/-- The warmest bound of a table. -/
def topBound (uppers : List Int) : Int := uppers.getLastD 0

/-- The edge a temperature lies beyond, if any (R32). -/
def edgeBeyond (s : Slot) (t : Int) : Option TempEdge :=
  if t < s.lower then some .low else if topBound s.uppers < t then some .high else none

/-- The excursion mark after a band selection (R32). -/
def nextOutside (s : Slot) (hyst : Nat) (t : Int) : Bool :=
  if s.outside then !(s.lower + hyst < t && t < topBound s.uppers - hyst) else (edgeBeyond s t).isSome

/-- A band selection with its excursion test (R31, R32). -/
def Slot.select (s : Slot) (hyst : Nat) (t : Int) : Slot :=
  { s with band := some (nextBand s.uppers hyst s.band t), outside := nextOutside s hyst t }

/-- The report of a band selection: an excursion that begins (R32). -/
def excursionReport (n : Nat) (s : Slot) (t : Int) : List Report :=
  if s.outside then []
  else
    match edgeBeyond s t with
    | none => []
    | some e => [.tempOutside n e t]

/-- Select a band for a slot, if it is VALID, at a filtered temperature (R31, R32). -/
def selectBand (t : Int) (n : Nat) (s : State) : State :=
  if s.slotValid n then
    raiseAll (excursionReport n (s.slot n) t) (onSlot n (fun x => x.select s.wave.hyst t) s)
  else s

/-- The clamped reading (R28). -/
def clampReading (t : Int) : Int := clampInt (-400) 850 t

/-- The sample counter and the filtered temperature after a reading (R29). -/
def filterStep (n : Nat) (tf : Option Int) (raw : Int) : Nat × Int :=
  let n := min (n + 1) 8
  match tf with
  | none => (n, raw)
  | some t => (n, if n = 1 then raw else t + (raw - t).tdiv n)

/-- A raw reading goes through the filter, and every VALID slot selects its band (R28, R29, R31), the slots in number order
(DESIGN CHOICE, log 42). -/
def takeReading (reading : Int) (s : State) : State :=
  let raw := clampReading reading
  let r := filterStep s.wave.samples s.wave.filtered raw
  let s := s.onWave (fun w =>
    { w with
      lastRaw := raw
      saturated := w.saturated.raiseIf (raw = -400 || raw = 850)
      samples := r.1
      filtered := some r.2
      timer := .running w.period })
  (List.range 6).foldl (fun s n => selectBand r.2 n s) s

/-- A filter restart (R30). The latest raw reading stays (DESIGN CHOICE, log 41). -/
def WaveState.restart (w : WaveState) : WaveState := { w with samples := 0, filtered := none, timer := .due }

end Sys2Proof.Machine
end

