-- ==== Sys2Proof/Machine/CacheOps.lean ====
section
/-! DEFINITION. The page cache's shared operations: leaf records (R81, R82), what the panel shows (R88), abandoned turns (R98),
the choice of leaves to evict (R84, R99) and the allocations that evict (R10 to R12). -/

namespace Sys2Proof.Machine

/-- The record of a leaf. -/
def CacheState.leaf (c : CacheState) (n : Nat) : Option Leaf := c.leaves.find? (fun l => l.number == n)

/-- Change the record of a leaf. -/
def CacheState.withLeaf (c : CacheState) (n : Nat) (f : Leaf → Leaf) : CacheState :=
  { c with leaves := c.leaves.map (fun l => if l.number == n then f l else l) }

/-- Leaf n is READY or SHOWN (R37). -/
def CacheState.showable (c : CacheState) (n : Nat) : Bool :=
  match c.leaf n with
  | none => false
  | some l => l.mode = .ready || l.mode = .shown

/-- Put a record in its place by number (R81). -/
def insertLeaf (l : Leaf) : List Leaf → List Leaf
  | [] => [l]
  | x :: xs => if l.number < x.number then l :: x :: xs else x :: insertLeaf l xs

/-- Raise a leaf's use count (R82). -/
def useLeaf (n : Nat) (s : State) : State :=
  s.onCache (fun c => c.withLeaf n (fun l => { l with useCount := l.useCount + 1 }))

/-- Lower a leaf's use count (R82). -/
def unuseLeaf (n : Nat) (s : State) : State :=
  s.onCache (fun c => c.withLeaf n (fun l => { l with useCount := l.useCount - 1 }))

/-- The use of an update's source: a LEAF source raises its leaf's count (R38). -/
def useSource (src : Source) (s : State) : State :=
  match src with
  | .target => s
  | .leaf n => useLeaf n s

/-- The end of a source's use (R40, R51). -/
def unuseSource (src : Source) (s : State) : State :=
  match src with
  | .target => s
  | .leaf n => unuseLeaf n s

/-! ### What the panel shows -/

/-- The SHOWN leaf, if any, becomes READY (R82). -/
def unshow (l : Leaf) : Leaf := if l.mode = .shown then { l with mode := .ready } else l

/-- No leaf is shown: the current leaf becomes NONE, the anchor stays (R88). -/
def CacheState.showNone (c : CacheState) : CacheState := { c with leaves := c.leaves.map unshow, current := none }

/-- Leaf n is being shown (R88). -/
def CacheState.showLeaf (c : CacheState) (n : Nat) : CacheState :=
  if c.showable n then
    { c with
      leaves := c.leaves.map (fun l => if l.number == n then { l with mode := .shown } else unshow l)
      current := some n
      anchor := some n }
  else c.showNone

/-! ### Turns abandoned -/

/-- The update engine tells that a turn's lane was freed without completing (R98). -/
def turnAbandoned (cause : MissCause) (s : State) : State :=
  match s.cache.flight with
  | none => s
  | some f =>
    (raise (.turnMiss f.dir (some f.leaf) cause) s).onCache (fun c => { c with flight := none, deferred := none })

/-! ### Eviction -/

/-- The distance of a number from the anchor (R81). -/
def CacheState.distance (c : CacheState) (n : Nat) : Nat :=
  match c.anchor with
  | none => n
  | some a => if a ≤ n then n - a else a - n

/-- The leaf lies within the guard distance of the anchor (R81, R99). -/
def CacheState.guarded (c : CacheState) (n : Nat) : Bool :=
  match c.anchor with
  | none => false
  | some _ => c.distance n ≤ c.settings.guardDist

/-- `a` is given up before `b`: it is farther from the anchor, or as far and higher-numbered (R84, R99). -/
def CacheState.before (c : CacheState) (a b : Leaf) : Bool :=
  c.distance b.number < c.distance a.number
    || (c.distance b.number == c.distance a.number && b.number < a.number)

/-- Put a leaf in its place in the order of eviction. -/
def insertVictim (c : CacheState) (l : Leaf) : List Leaf → List Leaf
  | [] => [l]
  | x :: xs => if c.before l x then l :: x :: xs else x :: insertVictim c l xs

/-- Leaves in the order of eviction. -/
def victimOrder (c : CacheState) (ls : List Leaf) : List Leaf := ls.foldr (insertVictim c) []

/-- A leaf that is READY with use count 0: no other is ever evicted (R84, R99). -/
def Leaf.idle (l : Leaf) : Bool := l.mode = .ready && l.useCount = 0

/-- The leaves that may be evicted for a fill of n, in order (R84). -/
def CacheState.fillVictims (c : CacheState) (n : Nat) : List Leaf :=
  victimOrder c (c.leaves.filter (fun l => l.idle && c.distance n < c.distance l.number))

/-- The one leaf named for a staging allocation, or none (R99). -/
def CacheState.stagingVictim (c : CacheState) : Option Leaf :=
  (victimOrder c (c.leaves.filter (fun l => l.idle && !c.guarded l.number))).head?

/-- The shortest run of victims that brings the free count to a need (R12). -/
def enoughVictims (need free : Nat) : List Leaf → List Leaf
  | [] => []
  | l :: ls => if need ≤ free then [] else l :: enoughVictims need (free + l.blocks.length) ls

/-- A leaf's record goes and its blocks return to the pool (R4, R87, R99). -/
def removeLeaf (l : Leaf) (s : State) : State :=
  releaseBlocks l.blocks (s.onCache (fun c => { c with leaves := c.leaves.filter (fun x => x.number != l.number) }))

/-- A staging allocation for a record: the granted block, if any (R10, R11). -/
def allocateStaging (record : Nat) (s : State) : Option Nat × State :=
  let grant := fun s : State => (((s.pool.lowestFree 1).head?), allocate 1 (.stage record) s)
  if s.pool.reserve + 1 ≤ s.pool.freeCount then grant s
  else
    match s.cache.stagingVictim with
    | none => (none, s)
    | some l =>
      let s := removeLeaf l (raise (.leafEvicted l.number) s)
      if s.pool.reserve + 1 ≤ s.pool.freeCount then grant s else (none, s)

end Sys2Proof.Machine
end

