-- ==== Sys2Proof/Machine/LaneOps.lean ====
section
/-! DEFINITION. The update engine's shared operations on entries and lanes: the checks of an update (R37), the pending queue and
the walk (R38 to R43), freeing (R51), the uncertain region list (R56 to R58) and the engine's idle notice (R36). -/

namespace Sys2Proof.Machine

/-- The record of a lane. -/
def State.lane (s : State) (n : Nat) : Lane := recordAt s.engine.lanes n {}

/-- Change one lane. -/
def onLane (n : Nat) (f : Lane → Lane) (s : State) : State :=
  s.onEngine (fun e => { e with lanes := withRecord e.lanes n f })

/-- The whole-panel rectangle of the geometry in force; empty while none is set. -/
def State.panelRect (s : State) : Rect :=
  match s.pool.geometry with
  | none => {}
  | some p => wholePanel p

/-- The panel width; 0 while no geometry is set. -/
def State.panelWidth (s : State) : Nat :=
  match s.pool.geometry with
  | none => 0
  | some p => p.width

/-- Every lane FREE and the pending queue empty (R36). -/
def EngineState.idle (e : EngineState) : Bool := e.pending.isEmpty && e.lanes.all (fun l => l.state = .free)

/-- The engine tells the power controller whether it is idle, at the end of its event (R36, R51; log 16). -/
def engineNotify (s : State) : State := tellEngineIdle s.engine.idle s

/-! ### Accepting -/

/-- Is the leaf of a source READY or SHOWN (R37)? -/
def CacheState.sourceThere (c : CacheState) (src : Source) : Bool :=
  match src with
  | .target => true
  | .leaf n => c.showable n

/-- Is the leaf of a shows-leaf number READY or SHOWN (R37)? -/
def CacheState.showsThere (c : CacheState) (shows : Option Nat) : Bool :=
  match shows with
  | none => true
  | some n => c.showable n

/-- The checks of R37 from SLOT_INVALID onward, which a turn entry passes too (R39). -/
def lateCheck (slot : Nat) (src : Source) (shows : Option Nat) (s : State) : Option Status :=
  if !s.slotValid slot then some .slotInvalid
  else if !(s.cache.sourceThere src && s.cache.showsThere shows) then some .noSuch
  else if s.rail.mode = .fault then some .railFault
  else if Config.maxPending ≤ s.engine.pending.length then some .queueFull
  else none

/-- Is the source's leaf number in range (R37)? -/
def Source.inRange (src : Source) : Bool :=
  match src with
  | .target => true
  | .leaf n => n ≤ Config.maxLeaf

/-- The checks of R37, in its order. -/
def updateCheck (a : UpdateArgs) (s : State) : Option Status :=
  match s.pool.geometry with
  | none => some .state
  | some p =>
    if !(a.slot ≤ 5 && Source.inRange a.source && a.shows.all (· ≤ Config.maxLeaf) && rectInside a.rect p) then
      some .badParam
    else lateCheck a.slot a.source a.shows s

/-- Steps 1 to 3 of R38: an entry joins the queue, and its slot and leaf are in use. -/
def appendEntry (e : PendingEntry) (s : State) : State :=
  useSource e.source (useSlot e.slot (s.onEngine (fun g => { g with pending := g.pending ++ [e] })))

/-! ### The walk -/

/-- The lowest-numbered FREE lane (R41). -/
def EngineState.freeLane? (e : EngineState) : Option Nat :=
  (List.range 8).find? (fun n => (recordAt e.lanes n {}).state = .free)

/-- A rectangle overlaps that of a lane in PREPARING, ARMED or DRIVING (R41, R55). -/
def EngineState.busyOver (e : EngineState) (r : Rect) : Bool :=
  e.lanes.any (fun l => l.state ≠ .free && rectOverlaps l.rect r)

/-- A rectangle overlaps the uncertain region list; WHOLE overlaps every rectangle (R42). -/
def EngineState.uncertainOver (e : EngineState) (r : Rect) : Bool :=
  e.whole || e.uncertain.any (fun u => rectOverlaps u r)

/-- The effective selection, the slot and the promoted mark of a lane that starts (R42). -/
def startChoice (e : PendingEntry) (s : State) : Selection × Nat × Bool :=
  if (s.slot e.slot).kind = .fullOnly then (.all, e.slot, false)
  else if e.selection = .all then (.all, e.slot, false)
  else if s.engine.uncertainOver e.rect then (.all, (s.usablePartner e.slot).getD e.slot, true)
  else (.changed, e.slot, false)

/-- The blocks and background a source hands over as a lane starts (R43). -/
def CacheState.handOver (c : CacheState) (src : Source) : List Nat × Nat :=
  match src with
  | .target => ([], 0)
  | .leaf n =>
    match c.leaf n with
    | none => ([], 0)
    | some l => (l.blocks, l.background)

/-- An entry starts on a lane (R42, R43). Its removal from the queue is the walk's. -/
def startLane (n : Nat) (e : PendingEntry) (s : State) : State :=
  let c := startChoice e s
  let s := if c.2.1 = e.slot then s else useSlot c.2.1 (unuseSlot e.slot s)
  let h := s.cache.handOver e.source
  onLane n (fun _ =>
    { state := .preparing, tag := e.tag, origin := e.origin, rect := e.rect, keepLeaf := e.keepLeaf, shows := e.shows,
      slot := c.2.1, selection := c.1, promoted := c.2.2, source := e.source, blocks := h.1, background := h.2 }) s

/-- The lane an entry starts on, if it qualifies; `ahead` are the entries still ahead of it (R41). -/
def startsOn (e : PendingEntry) (ahead : List PendingEntry) (s : State) : Option Nat :=
  if s.rail.mode = .fault || s.engine.busyOver e.rect || ahead.any (fun a => rectOverlaps a.rect e.rect) then none
  else s.engine.freeLane?

/-- Walk over the entries yet to be examined; `ahead` have been examined and stay (R41). -/
def walkFrom (ahead : List PendingEntry) : List PendingEntry → State → State
  | [], s => s.onEngine (fun g => { g with pending := ahead })
  | e :: rest, s =>
    match startsOn e ahead s with
    | some n => walkFrom ahead rest (startLane n e s)
    | none => walkFrom (ahead ++ [e]) rest s

/-- The pending queue is walked (R41). -/
def walk (s : State) : State := walkFrom [] s.engine.pending s

/-! ### Freeing -/

/-- The scan stops and the load of 0 is handed on (R47, R49). -/
def stopScan (s : State) : State :=
  rebudget (fun b => { b with load := 0 }) (s.onEngine (fun e => { e with scan := none, load := 0 }))

/-- Does some lane stand in a state? -/
def EngineState.someLane (e : EngineState) (m : LaneState) : Bool := e.lanes.any (fun l => l.state = m)

/-- Was the lane ARMED or DRIVING (R63)? -/
def Lane.armed (l : Lane) : Bool := l.state = .armed || l.state = .driving

/-- Steps 1 to 5 of R51; `inFrame`: the freeing is a frame event's own completion. A band request goes with the lane. The
scan stops once no lane is ARMED or DRIVING, whichever of them left last (R51, R67; DEDUCED, log 45). -/
def freeLane (inFrame : Bool) (n : Nat) (s : State) : State :=
  let l := s.lane n
  let s := onLane n (fun _ => {}) s
  let s := unuseSource l.source (unuseSlot l.slot s)
  let s := if l.armed then laneLeft s else s
  if l.armed && !inFrame && s.engine.scan.isSome && !s.engine.someLane .driving && !s.engine.someLane .armed then stopScan s
  else s

/-- A lane that was freed without completing tells its origin (R51, R98). -/
def tellLane (l : Lane) (o : UpdateOutcome) (c : MissCause) (s : State) : State :=
  match l.origin with
  | .host => raise (.updateDone l.tag o l.promoted) s
  | .turn => turnAbandoned c s

/-- Free a lane and tell its origin. -/
def endLane (n : Nat) (o : UpdateOutcome) (c : MissCause) (s : State) : State :=
  let l := s.lane n
  tellLane l o c (freeLane false n s)

/-! ### The uncertain region list -/

/-- A collapse frees every lane that runs with CHANGED selection, in lane number order (R57). -/
def freeChanged (s : State) : State :=
  (List.range 8).foldl (fun s n =>
    if (s.lane n).state ≠ .free && (s.lane n).selection = .changed then endLane n .uncertain .uncertain s else s) s

/-- Add a rectangle to the uncertain region list (R56). The walk that follows a collapse is the caller's. -/
def addUncertain (r : Rect) (s : State) : State :=
  if s.engine.whole || s.engine.uncertain.any (fun u => rectContains u r) then s
  else
    let kept := s.engine.uncertain.filter (fun u => !rectContains r u)
    if kept.length < Config.maxUncertain then s.onEngine (fun e => { e with uncertain := kept ++ [r] })
    else freeChanged (s.onEngine (fun e => { e with uncertain := [s.panelRect], whole := true }))

/-- A completed ALL lane clears the entries its rectangle contains (R58). -/
def EngineState.clearUncertain (e : EngineState) (r : Rect) : EngineState :=
  let kept := e.uncertain.filter (fun u => !rectContains r u)
  { e with uncertain := kept, whole := e.whole && !kept.isEmpty }

end Sys2Proof.Machine
end

