-- ==== Sys2Proof/Machine/TurnOps.lean ====
section
/-! DEFINITION. Autonomous turns: their requests (R91, R94), kind and slot (R92), submission (R93, R39), completion (R95) with
the low-water test (R97) and the deferred turn (R96). -/

namespace Sys2Proof.Machine

/-- The kind a turn to a leaf is given, and its slot and selection (R92). -/
def CacheState.turnChoice (c : CacheState) (leafSlot : Option Nat) : TurnKind × Option Nat × Selection :=
  if c.settings.cadence ≤ c.counter then (.full, c.settings.fullSlot, .all)
  else (.partialTurn, leafSlot.orElse (fun _ => c.settings.partialSlot), .changed)

/-- The turn slot of a leaf (R81). -/
def CacheState.leafSlot (c : CacheState) (n : Nat) : Option Nat :=
  match c.leaf n with
  | none => none
  | some l => l.turnSlot

/-- The miss cause for a status with which the engine refuses a turn (R93). No other status arises, since the leaf a turn
wants has been found READY. -/
def missCause (st : Status) : MissCause :=
  match st with
  | .railFault => .rail
  | .queueFull => .queue
  | .noSuch => .absent
  | _ => .slot

/-- A turn to leaf t is submitted (R93, R39). -/
def submitTurn (d : TurnDir) (t : Nat) (s : State) : State :=
  let c := s.cache.turnChoice (s.cache.leafSlot t)
  match c.2.1 with
  | none => raise (.turnMiss d (some t) .slot) s
  | some slot =>
    match lateCheck slot (.leaf t) none s with
    | some st => raise (.turnMiss d (some t) (missCause st)) s
    | none =>
      let s := walk (appendEntry
        { tag := 0, origin := .turn, rect := s.panelRect, slot := slot, selection := c.2.2, source := .leaf t,
          keepLeaf := false, shows := none } s)
      lightActivity (s.onCache (fun k => { k with flight := some ⟨t, d, c.1⟩ }))

/-- The wanted leaf is taken: absent, FILLING, or submitted (R91, R96). -/
def takeTurnTo (d : TurnDir) (t : Nat) (s : State) : State :=
  match s.cache.leaf t with
  | none => raise (.turnMiss d (some t) .absent) s
  | some l => if l.mode = .filling then raise (.turnMiss d (some t) .filling) s else submitTurn d t s

/-- The leaf carries the edge mark of a direction (R91). -/
def CacheState.atEdge (c : CacheState) (n : Nat) (d : TurnDir) : Bool :=
  match c.leaf n with
  | none => false
  | some l => l.edge = some (edgeOf d)

/-- A turn of one direction from the current leaf; `wanted` gives the leaf it wants (R91, R96). -/
def resolveTurn (d : TurnDir) (wanted : Nat → Nat) (s : State) : State :=
  if s.cache.sleepMark then raise (.turnMiss d none .sleep) s
  else
    match s.cache.current with
    | none => raise (.turnMiss d none .noCurrent) s
    | some n =>
      if s.cache.atEdge n d || (stepLeaf n d).isNone then raise (.turnEdge n d) s
      else takeTurnTo d (wanted n) s

/-- A request while a turn is in flight joins the deferred turn (R94). -/
def joinDeferred (d : TurnDir) (f : Option DeferredTurn) : Option DeferredTurn :=
  match f with
  | none => some ⟨d, 1⟩
  | some q => if q.dir = d then some ⟨d, min (q.count + 1) 16⟩ else if q.count ≤ 1 then none else some ⟨q.dir, q.count - 1⟩

/-- A turn request (R91). -/
def turnRequest (d : TurnDir) (s : State) : State :=
  if s.cache.sleepMark then raise (.turnMiss d none .sleep) s
  else
    match s.cache.flight with
    | some _ => s.onCache (fun c => { c with deferred := joinDeferred d c.deferred })
    | none => resolveTurn d (fun n => (stepLeaf n d).getD n) s

/-- `count` leaves from `n` in a direction, held within 0..16,777,215 (R96). -/
def jumpLeaf (n count : Nat) (d : TurnDir) : Nat :=
  match d with
  | .next => min (n + count) Config.maxLeaf
  | .prev => n - count

/-- A number lies beyond `n` in a direction, up to and including `far` (R96). -/
def beyond (n far m : Nat) (d : TurnDir) : Bool :=
  match d with
  | .next => n < m && m ≤ far
  | .prev => far ≤ m && m < n

/-- The nearest of several numbers in ascending order, seen in a direction. -/
def nearest (d : TurnDir) (ns : List Nat) : Option Nat :=
  match d with
  | .next => ns.head?
  | .prev => ns.getLast?

/-- The leaf a deferred turn wants: clamped to the nearest leaf on the way that ends the book (R96). -/
def CacheState.deferredWanted (c : CacheState) (d : TurnDir) (count n : Nat) : Nat :=
  let far := jumpLeaf n count d
  let edges := (c.leaves.filter (fun l => l.edge = some (edgeOf d) && beyond n far l.number d)).map Leaf.number
  (nearest d edges).getD far

/-- The deferred turn, if any, is resolved (R96). -/
def resolveDeferred (s : State) : State :=
  match s.cache.deferred with
  | none => s
  | some f =>
    let s := s.onCache (fun c => { c with deferred := none })
    resolveTurn f.dir (fun n => s.cache.deferredWanted f.dir f.count n) s

/-- The leaves ready ahead of `n`, and whether the count stopped at an edge leaf (R97). Each step meets another record, so as
many steps as there are records and one more are enough. A SHOWN leaf ahead is passed over (DESIGN CHOICE, log 37). -/
def CacheState.readyAhead (c : CacheState) (d : TurnDir) : Nat → Nat → Nat → Nat × Bool
  | 0, _, count => (count, false)
  | steps + 1, n, count =>
    match stepLeaf n d with
    | none => (count, false)
    | some m =>
      match c.leaf m with
      | none => (count, false)
      | some l =>
        if l.mode = .filling then (count, false)
        else
          let count := if l.mode = .ready then count + 1 else count
          if l.edge = some (edgeOf d) then (count, true) else c.readyAhead d steps m count

/-- The report of the low-water test, if any (R97). -/
def CacheState.lowReport (c : CacheState) (d : TurnDir) : List Report :=
  match c.current with
  | none => []
  | some n =>
    if c.atEdge n d then []
    else
      let r := c.readyAhead d (c.leaves.length + 1) n 0
      if r.2 then [] else if r.1 < c.settings.lowWater then [.cacheLow n d r.1] else []

/-- The partial-turn counter after a turn lane completes (R92). -/
def nextCounter (sel : Selection) (n : Nat) : Nat :=
  match sel with
  | .all => 0
  | .changed => min (n + 1) 63

/-- A turn lane completes (R95). -/
def turnDone (l : Lane) (s : State) : State :=
  match s.cache.flight with
  | none => s
  | some f =>
    let s := s.onCache (fun c => { c with counter := nextCounter l.selection c.counter })
    let s := raise (.turnDone f.leaf f.dir f.kind l.promoted) s
    let s := raiseAll (s.cache.lowReport f.dir) s
    resolveDeferred (s.onCache (fun c => { c with flight := none }))

end Sys2Proof.Machine
end

