-- ==== Sys2Proof/Machine/FrameOps.lean ====
section
/-! DEFINITION. What a lane drives: its pixels (R44), frame events (R47 to R50, R52), and the rail controller's reports of ON
and FAULT with the lanes' part in them (R46, R59, R64 to R66, R69 to R71), and the band answer (R33, R45). -/

namespace Sys2Proof.Machine

/-! ### Pixels of a lane -/

/-- The level a leaf gives for a pixel: an unwritten block stands for the background (R13). -/
def leafPixel (pool : PoolState) (mem : Memory) (blocks : List Nat) (background index : Nat) : Nat :=
  if pool.written (blocks.getD (index / 2 / Config.blockBytes) 0) then mem.pixel blocks index else background

/-- The to-level of a pixel (R44). -/
def State.toLevel (s : State) (l : Lane) (index : Nat) : Nat :=
  match l.source with
  | .target => Memory.pixel s.mem (targetBlocks s.pool.geometry) index
  | .leaf _ => leafPixel s.pool s.mem l.blocks l.background index

/-- The selected pixels of a lane, each with its from-level and to-level (R44). -/
def State.lanePixels (s : State) (l : Lane) : List (Nat × Nat × Nat) :=
  ((rectIndices s.panelWidth l.rect).map (fun i =>
    (i, Memory.pixel s.mem (shownBlocks s.pool.geometry) i, s.toLevel l i))).filter
      (fun p => l.selection = .all || p.2.1 ≠ p.2.2)

/-- The transition histogram: 256 counts, from-level f and to-level t at 16 f + t (R36, R44). -/
def histogram (pixels : List (Nat × Nat × Nat)) : List Nat :=
  (List.range 256).map (fun i => (pixels.filter (fun p => 16 * p.2.1 + p.2.2 = i)).length)

/-- The code of a pair for a lane at its frame index (R48). -/
def State.laneCode (s : State) (l : Lane) (f t : Nat) : DriveCode :=
  driveLookup s.mem l.slot (s.slot l.slot).frames (l.band.getD 0) l.index f t

/-- What a DRIVING lane gives the panel: its selected pixels with a code other than NONE (R48). -/
def State.laneDrive (s : State) (l : Lane) : List (Nat × DriveCode) :=
  if l.state = .driving then
    ((s.lanePixels l).map (fun p => (p.1, s.laneCode l p.2.1 p.2.2))).filter (fun p => p.2 ≠ .none)
  else []

/-- What a DRIVING lane adds to the drive load, pair by pair (R49). -/
def State.laneLoad (s : State) (l : Lane) : Nat :=
  if l.state = .driving then
    ((List.range 256).map (fun i => if s.laneCode l (i / 16) (i % 16) ≠ .none then l.hist.getD i 0 else 0)).sum
  else 0

/-! ### A frame event -/

/-- What the page cache hears as a lane becomes DRIVING (R50, R88). -/
def Lane.notice (l : Lane) (c : CacheState) : CacheState :=
  match l.shows with
  | some n => c.showLeaf n
  | none =>
    match l.source with
    | .leaf n => c.showLeaf n
    | .target => if l.keepLeaf then c else c.showNone

/-- An ARMED lane becomes DRIVING (R46, R50). -/
def joinLane (n : Nat) (s : State) : State :=
  let l := s.lane n
  if l.state = .armed then
    (onLane n (fun x => { x with state := .driving, index := 0 }) s).onCache l.notice
  else s

/-- The panel receives one frame of drive, and the load is formed and handed on (R48, R49). -/
def driveFrame (s : State) : State :=
  let lanes := s.engine.lanes.toList
  let load := (lanes.map s.laneLoad).sum
  let panel := lanes.flatMap s.laneDrive
  rebudget (fun b => { b with load := load }) (s.onEngine (fun e => { e with panel := panel, load := load }))

/-- A DRIVING lane has driven a frame (R47). -/
def Lane.advance (l : Lane) : Lane := if l.state = .driving then { l with index := l.index + 1 } else l

/-- The outcome of a completed lane (R52, R92). -/
def completedLane (l : Lane) (s : State) : State :=
  match l.origin with
  | .host =>
    let s := raise (.updateDone l.tag .done l.promoted) s
    if l.rect = s.panelRect && l.selection = .all then s.onCache (fun c => { c with counter := 0 }) else s
  | .turn => turnDone l s

/-- A lane whose frames have all been driven completes (R52). -/
def completeLane (n : Nat) (s : State) : State :=
  let l := s.lane n
  if l.state = .driving && l.frames ≤ l.index then
    let pixels := s.lanePixels l
    let s := s.onMem (fun m => m.setPixels (shownBlocks s.pool.geometry) (pixels.map (fun p => (p.1, p.2.2))))
    let s := if l.selection = .all then s.onEngine (fun e => e.clearUncertain l.rect) else s
    freeLane true n (completedLane l s)
  else s

/-- Do something for each lane in number order. -/
def eachLane (f : Nat → State → State) (s : State) : State := (List.range 8).foldl (fun s n => f n s) s

/-- The steps of a frame event (R47), and the walk of its completions (R52). Several lanes complete in lane number order (DESIGN
CHOICE, log 44). -/
def runFrame (s : State) : State :=
  let s := eachLane joinLane s
  let s := driveFrame s
  let s := s.onEngine (fun e => { e with lanes := e.lanes.map Lane.advance, scan := some e.framePeriod })
  let s := walk (eachLane completeLane s)
  if s.engine.someLane .driving then s else stopScan s

/-! ### Rails ON, lanes ARMED, rails in FAULT -/

/-- ON is reported: with a lane ARMED and the scan stopped, the scan starts and its first frame event is taken (R46). -/
def reportOn (s : State) : State :=
  if s.rail.mode = .on && s.engine.scan.isNone && s.engine.someLane .armed then runFrame s else s

/-- Power-good ends a rise (R65). With no lane armed the report of ON finds no lane ARMED and starts nothing. -/
def endRise (s : State) : State :=
  let s := setRail .on (s.onRail (fun r => { r with rise := none }))
  if s.rail.armed = 0 then enterHold s else reportOn s

/-- The rails rise; power-good already present ends the rise in the same event (R64, R65). -/
def startRise (s : State) : State :=
  let s := setRail .rising (s.onRail (fun r => { r with rise := some r.riseTime }))
  if s.rail.powerGood then endRise s else s

/-- A lane has become ARMED (R64, R46). -/
def laneArmed (s : State) : State :=
  let s := s.onRail (fun r => { r with armed := r.armed + 1 })
  match s.rail.mode with
  | .off => startRise s
  | .rising => s
  | .on => reportOn s
  | .hold => reportOn (setRail .on (s.onRail (fun r => { r with hold := none })))
  | .falling => s
  | .fault => s

/-- The fall has ended (R69). -/
def endFall (s : State) : State :=
  let s := setRail .off (s.onRail (fun r => { r with fall := none }))
  if s.rail.armed = 0 then s else startRise s

/-- The lanes' part in an entry to FAULT (R59). -/
def faultLanes (s : State) : State :=
  let drove := (s.engine.lanes.toList.filter (fun l => l.state = .driving)).map Lane.rect
  let s := eachLane (fun n s => if (s.lane n).armed then endLane n .railFault .rail s else s) s
  let s := drove.foldl (fun s r => addUncertain r s) s
  if s.engine.scan.isSome then stopScan s else s

/-- Entry to FAULT, in the order of R71. -/
def enterFault (c : FaultCause) (s : State) : State :=
  let left := s.rail.mode
  let s := s.onRail (fun r => { r with mode := .fault, cause := some c, rise := none, hold := none, fall := none })
  let s := walk (faultLanes s)
  let s := rebudget (fun b => { b with rail := .fault }) s
  engineNotify (raise (.railFault c left) s)

/-! ### The band answer -/

/-- The lane's band request is answered (R45). The lane is PREPARING with its time run out. -/
def answerBand (n : Nat) (s : State) : State :=
  let l := s.lane n
  if s.rail.mode = .fault then walk (endLane n .railFault .rail s)
  else
    let sl := s.slot l.slot
    let b := sl.band.getD 0
    laneArmed (onLane n (fun x =>
      { x with state := .armed, band := some b, frames := sl.frames.getD b 0, bandHeld := false }) s)

/-- The lane asks for its band: an unset band is selected first, and with no filtered temperature the request is held (R33). -/
def askBand (n : Nat) (s : State) : State :=
  match s.wave.filtered with
  | none => onLane n (fun x => { x with bandHeld := true }) s
  | some t =>
    let slot := (s.lane n).slot
    answerBand n (if (s.slot slot).band.isNone then selectBand t slot s else s)

/-- The requests held are answered at the first reading (R33), in lane number order (DESIGN CHOICE, log 43). -/
def answerHeld (s : State) : State :=
  eachLane (fun n s => if (s.lane n).bandHeld then answerBand n s else s) s

end Sys2Proof.Machine
end

