-- ==== Sys2Proof/Machine/KeyOps.lean ====
section
/-! DEFINITION. The key unit's shared operations: key events and their dispatch (R108 to R112), the accepted level and enabling
(R106, R107), wake sensing (R114) and the delivery after a wake (R115). -/

namespace Sys2Proof.Machine

/-- The record of a key input. -/
def State.key (s : State) (k : Nat) : KeyInput := recordAt s.keys.inputs k {}

/-- Change one key input. -/
def onKey (k : Nat) (f : KeyInput → KeyInput) (s : State) : State :=
  s.onKeys (fun u => { u with inputs := withRecord u.inputs k f })

/-- The debounced level a raw level stands for (R104). -/
def KeyInput.meaning (i : KeyInput) (l : Level) : Debounced := if l = i.config.active then .active else .inactive

/-- The REPEAT of LEVEL keys is in use: the hold time is above 0 (R109). -/
def keyRepeats (c : KeyConfig) : Bool := c.mode = .level && 0 < c.hold

/-! ### Dispatch -/

/-- Does an event call for a KEY report (R111)? -/
def keyReported (a : KeyAction) (e : KeyEvent) : Bool :=
  match a with
  | .report => true
  | .cover => e ≠ .again
  | .none => false
  | .turnNext => false
  | .turnPrev => false
  | .lightUp => false
  | .lightDown => false
  | .sleep => false

/-- The notice an event calls for (R112). -/
def keyNotice (c : KeyConfig) (e : KeyEvent) (s : State) : State :=
  match e with
  | .press =>
    if c.action = .sleep || c.action = .cover then settle false s
    else if c.wakeEnable then activityNotice s
    else s
  | .release => if c.action = .cover then cancelSettling false s else s
  | .again => s

/-- The request of an action (R111). -/
def keyRequest (c : KeyConfig) (e : KeyEvent) (s : State) : State :=
  if e = .release then s
  else
    match c.action with
    | .turnNext => engineNotify (turnRequest .next s)
    | .turnPrev => engineNotify (turnRequest .prev s)
    | .lightUp => lightRequest (min (s.light.setLevel + c.lightStep) 100) s
    | .lightDown => lightRequest (s.light.setLevel - c.lightStep) s
    | .none => s
    | .report => s
    | .sleep => s
    | .cover => s

/-- A key event is handed out: activity, the KEY report, the notice, the request (R110). -/
def keyEvent (k : Nat) (e : KeyEvent) (time : Nat) (s : State) : State :=
  let c := (s.key k).config
  let s := lightActivity s
  let s := if keyReported c.action e then raise (.key k e time) s else s
  keyRequest c e (keyNotice c e s)

/-- A PRESS (R108). -/
def pressKey (k time : Nat) (s : State) : State :=
  keyEvent k .press time (onKey k (fun i =>
    { i with
      debounced := .active
      held := true
      holdTimer := if keyRepeats i.config then some i.config.hold else i.holdTimer }) s)

/-- A RELEASE (R108). -/
def releaseKey (k time : Nat) (s : State) : State :=
  keyEvent k .release time (onKey k (fun i =>
    { i with debounced := .inactive, held := false, holdTimer := none, repeatTimer := none }) s)

/-- A REPEAT, which starts the repeat timer (R109). -/
def repeatKey (k : Nat) (s : State) : State :=
  keyEvent k .again s.keys.timestamp (onKey k (fun i =>
    { i with holdTimer := none, repeatTimer := some i.config.period }) s)

/-! ### Debounce -/

/-- A debounce run starts afresh toward a level (R106, R107). -/
def KeyInput.debounceTo (i : KeyInput) (l : Level) : KeyInput := { i with debounce := some (i.config.debounce, l) }

/-- A raw change in a power state in which debounce runs (R106, R107). -/
def KeyInput.rawChange (i : KeyInput) (l : Level) : KeyInput :=
  let i := { i with raw := l }
  if i.debounced = i.meaning l then { i with debounce := none } else i.debounceTo l

/-- The debounce timer has run: the candidate is accepted (R106, R107). -/
def acceptLevel (k : Nat) (l : Level) (s : State) : State :=
  let i := s.key k
  let d := i.meaning l
  let s := onKey k (fun i => { i with debounce := none, debounced := d }) s
  if i.armed then
    if d = .active then pressKey k s.keys.timestamp s else releaseKey k s.keys.timestamp s
  else if d = .inactive then onKey k (fun i => { i with armed := true }) s
  else s

/-- A key is enabled (R107). -/
def KeyInput.enable (i : KeyInput) : KeyInput :=
  { i with debounced := .unknown, armed := false, held := false, holdTimer := none, repeatTimer := none }.debounceTo i.raw

/-! ### Waking -/

/-- The wake cause a key hands over (R114). -/
def keyCause (k : Nat) (c : KeyConfig) : WakeCause := if c.action = .cover then .cover k else .key k

/-- A wake is sensed for a key (R114). -/
def senseWake (k : Nat) (s : State) : State :=
  let c := (s.key k).config
  beginWaking (keyCause k c) (s.onKeys (fun u =>
    { u with latch := some (k, u.timestamp), inputs := u.inputs.map (fun i => { i with sense := .none }) }))

/-- A raw change in STANDBY (R113). -/
def senseChange (k : Nat) (l : Level) (s : State) : State :=
  let s := onKey k (fun i => { i with raw := l }) s
  let i := s.key k
  let there := l = wakeLevel i.config
  match i.sense with
  | .none => s
  | .wait => if there then s else onKey k (fun i => { i with sense := .watch }) s
  | .watch => if there then senseWake k s else s

/-- The latched key is delivered: its event, and at once the opposite one where its raw level has gone back (R115, step 1).
That the second follows even where the first has put the part to sleep again is the rule's letter (log 22). -/
def deliverLatched (k time : Nat) (s : State) : State :=
  let i := s.key k
  let pressed := i.raw = i.config.active
  if i.config.action = .cover then
    let s := releaseKey k time s
    if pressed then pressKey k s.keys.timestamp s else s
  else
    let s := pressKey k time s
    if pressed then s else releaseKey k s.keys.timestamp s

/-- An input is resampled at the end of WAKING (R115, step 2). -/
def KeyInput.resample (i : KeyInput) : KeyInput :=
  if i.config.enabled && i.debounced ≠ i.meaning i.raw then i.debounceTo i.raw else i

/-- Every input but one is resampled. -/
def KeyState.resampleOthers (u : KeyState) (latched : Option Nat) : KeyState :=
  { u with inputs := u.inputs.mapIdx (fun n i => if latched = some n then i else i.resample) }

/-- The key unit's part in the completion of WAKING (R115). No debounce run starts where the latched key has put the part back
into STANDBY (R113; DESIGN CHOICE, log 22). -/
def keysAwake (s : State) : State :=
  match s.keys.latch with
  | none => s.onKeys (fun u => u.resampleOthers none)
  | some (k, time) =>
    let s := deliverLatched k time (s.onKeys (fun u => { u with latch := none }))
    if servingMode s.power.mode then s.onKeys (fun u => u.resampleOthers (some k)) else s

end Sys2Proof.Machine
end

