-- ==== Sys2Proof/Machine/StreamOps.lean ====
section
/-! DEFINITION. The stream engine's shared operations: descriptors (R151), the decision and acceptance of a frame (R154 to R160),
pauses (R150), the staged threshold (R163), drain chunks (R164), and the port's answers (R143, R144). -/

namespace Sys2Proof.Machine

/-- The record of a stream. -/
def State.record (s : State) (r : Nat) : StreamRecord := recordAt s.stream.records r {}

/-- Change one stream record. -/
def onRecord (r : Nat) (f : StreamRecord → StreamRecord) (s : State) : State :=
  s.onStream (fun t => { t with records := withRecord t.records r f })

/-- The record that has an id and is not CLOSED (R154). -/
def StreamState.find (t : StreamState) (id : Nat) : Option Nat :=
  (List.range 4).find? (fun r => (recordAt t.records r {}).id = some id && (recordAt t.records r {}).mode ≠ .closed)

/-! ### Counts and reports of the radio port -/

/-- One of the thirteen counts rises (R144). -/
def countRadio (c : CountKind) (s : State) : State := s.onRadio (fun r => { r with counts := bumpCounts r.counts c })

/-- The event of a count with a RADIO_ERROR kind: the count rises, and the kind is reported unless its mark is set (R144); a count
held at 65535 is reported all the same (DESIGN CHOICE, log 55). -/
def radioError (c : CountKind) (k : RadioErrorKind) (s : State) : State :=
  let s := countRadio c s
  if s.radio.marks.contains k then s else raise (.radioError k) (s.onRadio (fun r => { r with marks := r.marks ++ [k] }))

/-! ### Descriptors -/

/-- A descriptor is faulty in itself (R152): a count of 0, a pattern or mask length out of range, or more mask bytes than
pattern bytes; no pattern bytes and no mask bytes is the pattern NONE. -/
def faultyDescriptor (d : DescriptorArgs) : Bool :=
  d.count == some 0 || d.pattern.any (fun p =>
    8 < p.bytes.length || 8 < p.mask.length || p.bytes.length < p.mask.length
      || (!p.bytes.isEmpty && p.mask.isEmpty))

/-- The pattern a given pattern field stands for: missing mask bytes are 0xFF, no bytes is NONE (R151). -/
def patternOf (p : PatternField) : Option Pattern :=
  if p.bytes.isEmpty then none
  else some ⟨p.bytes, p.mask ++ List.replicate (p.bytes.length - p.mask.length) 0xFF⟩

/-- The oldest WAITING descriptor becomes ACTIVE (R151). -/
def activateFirst : List Segment → List Segment
  | [] => []
  | g :: gs =>
    if g.state = .waiting then { g with state := .active, runCrc := crc32Start, recent := [], resume := 0 } :: gs
    else g :: activateFirst gs

/-- A WAITING descriptor becomes ACTIVE where none is ACTIVE (R151). -/
def activateIfNone (gs : List Segment) : List Segment :=
  if gs.any (fun g => g.state = .active) then gs else activateFirst gs

/-- A descriptor joins the queue, its inheritance resolved (R151). -/
def StreamRecord.addDescriptor (r : StreamRecord) (d : DescriptorArgs) : StreamRecord :=
  let count := (d.count.orElse (fun _ => r.inheritedCount)).getD 0
  let pattern := match d.pattern with
    | none => r.inheritedPattern
    | some p => patternOf p
  { r with
    segments := activateIfNone (r.segments ++ [
      { ordinal := r.nextOrdinal, count := count, crc := d.crc, pattern := pattern, action := d.action,
        state := .waiting, accepted := 0, drained := 0, runCrc := crc32Start, recent := [], resume := 0 }])
    nextOrdinal := r.nextOrdinal + 1
    inheritedCount := some count
    inheritedPattern := pattern }

/-- A stream that is ENDED or FAILED (R151). -/
def StreamRecord.atEnd (r : StreamRecord) : Bool := r.mode = .ended || r.mode = .failed

/-- A descriptor is finished (R151). -/
def StreamRecord.finished (r : StreamRecord) (g : Segment) : Bool := g.state = .done || g.state = .failed || r.atEnd

/-- Finished descriptors that are fully drained leave the queue (R151). -/
def StreamRecord.prune (r : StreamRecord) : StreamRecord :=
  { r with segments := r.segments.filter (fun g => !(r.finished g && g.drained == g.accepted)) }

/-- Bytes staged (R149). -/
def StreamRecord.staged (r : StreamRecord) : Nat := r.counters.accepted - r.counters.drained

/-! ### Pauses and the threshold -/

/-- A stream is paused by the engine with a cause; the cause's report is raised where the pause is new (R150). -/
def pauseStream (r : Nat) (c : PauseCause) (report : Report) (s : State) : State :=
  let x := s.record r
  if x.mode = .opened || x.mode = .running then
    handSignals (raise report (onRecord r (fun x => x.hush c) s))
  else if x.pause = some c || x.pause = some .host || x.pause = some .sleep then s
  else raise report (onRecord r (fun x => { x with pause := some c }) s)

/-- The block count has risen: the mark is tested (R163; log 18). -/
def thresholdRise (r : Nat) (s : State) : State :=
  let x := s.record r
  if 0 < x.threshold && x.thresholdArmed && x.threshold ≤ x.blocks.length then
    raise (.streamStaged (x.id.getD 0) x.blocks.length x.staged)
      (onRecord r (fun x => { x with thresholdArmed := false }) s)
  else s

/-- The block count has fallen: the mark is tested (R163). -/
def StreamRecord.thresholdFall (x : StreamRecord) : StreamRecord :=
  { x with thresholdArmed := x.thresholdArmed || 2 * x.blocks.length < x.threshold }

/-! ### Feeding bytes -/

/-- A byte matches a pattern byte under a mask byte (R160). -/
def byteMatches (b p m : Byte) : Bool := b &&& m == p &&& m

/-- The window matches the pattern (R160). -/
def Pattern.matchesAll (p : Pattern) (window : List Byte) : Bool :=
  window.length == p.bytes.length && (List.range window.length).all (fun i =>
    byteMatches (window.getD i 0) (p.bytes.getD i 0) (p.mask.getD i 0))

/-- The matcher takes a byte: the offset of a match it completes, and the segment after it (R160). -/
def Segment.matchByte (g : Segment) (b : Byte) : Option Nat × Segment :=
  match g.pattern with
  | none => (none, g)
  | some p =>
    let k := p.bytes.length
    let window := g.recent ++ [b]
    let o := g.accepted + 1 - k
    let g' := { g with recent := window.drop (window.length - (k - 1)) }
    if g.resume ≤ o && p.matchesAll window then (some o, { g' with resume := o + k }) else (none, g')

/-- What feeding a frame's bytes leaves: the record, the reports of segment ends, whether a segment failed, and the ordinal
of a HALT segment that ended (R158, R159). -/
structure Feed where
  record : StreamRecord
  reports : List Report
  failed : Bool
  halted : Option Nat
  deriving DecidableEq, Repr

/-- A match enters the landmark list, or sets the overflow mark (R160). -/
def StreamRecord.landmark (r : StreamRecord) (ordinal : Nat) (o : Option Nat) : StreamRecord :=
  match o with
  | none => r
  | some o =>
    if r.landmarks.length < Config.maxLandmarks then { r with landmarks := r.landmarks ++ [(ordinal, o)] }
    else { r with landmarkOverflow := true }

/-- The ACTIVE descriptor (R151). -/
def StreamRecord.active? (r : StreamRecord) : Option Segment := r.segments.find? (fun g => g.state = .active)

/-- Replace the ACTIVE descriptor. -/
def StreamRecord.setActive (r : StreamRecord) (g : Segment) : StreamRecord :=
  { r with segments := r.segments.map (fun x => if x.state = .active then g else x) }

/-- The ACTIVE descriptor has reached its count (R159). -/
def Feed.endSegment (f : Feed) (g : Segment) : Feed :=
  let id := f.record.id.getD 0
  let crc := crc32Finish g.runCrc
  let bad := match g.crc with
    | none => false
    | some e => e ≠ crc
  let r := f.record.setActive { g with state := if bad then .failed else .done }
  let r := if g.action = .halt then r else { r with segments := activateIfNone r.segments }
  let report := if bad then [.segmentBad id g.ordinal (g.crc.getD 0) crc]
    else if g.action = .chain then [] else [.segmentDone id g.ordinal g.count crc]
  { record := r
    reports := f.reports ++ report
    failed := f.failed || bad
    halted := if !bad && g.action = .halt then some g.ordinal else f.halted }

/-- One byte goes to the ACTIVE descriptor (R158, step 2). -/
def Feed.byte (f : Feed) (b : Byte) : Feed :=
  match f.record.active? with
  | none => f
  | some g =>
    let m := g.matchByte b
    let g' : Segment := { m.2 with accepted := g.accepted + 1, runCrc := crc32Byte g.runCrc b }
    let f := { f with record := (f.record.setActive g').landmark g.ordinal m.1 }
    if g'.accepted = g'.count then f.endSegment g' else f

/-! ### Deciding a frame -/

/-- The room R_s, and whether a HALT descriptor limits it (R156). -/
def roomOf : List Segment → Nat × Bool
  | [] => (0, false)
  | g :: gs =>
    if g.state = .active || g.state = .waiting then
      if g.action = .halt then (g.count - g.accepted, true)
      else ((g.count - g.accepted) + (roomOf gs).1, (roomOf gs).2)
    else roomOf gs

/-- R_s of a stream; 0 where it has no ACTIVE descriptor (R156). -/
def StreamRecord.room (r : StreamRecord) : Nat × Bool :=
  match r.active? with
  | none => (0, false)
  | some _ => roomOf r.segments

/-- The stream ends FAILED (R156, R158). -/
def StreamRecord.toFailed (r : StreamRecord) (c : FailCause) : StreamRecord :=
  { r with mode := .failed, pause := none, beforePause := none, fail := some c, stall := none }.prune

/-- The stream ends ENDED (R158, R159). -/
def StreamRecord.conclude (r : StreamRecord) : StreamRecord :=
  { r with mode := .ended, pause := none, beforePause := none, stall := none }.prune

/-- The tail fill after `n` bytes; `granted`: a block has been granted for them (R157, R158). -/
def StreamRecord.newTail (r : StreamRecord) (granted : Bool) (n : Nat) : Nat :=
  if granted then if r.blocks.length ≤ 1 then n else r.tail + n - Config.blockBytes else r.tail + n

/-- Steps 1 to 4 of R158; `granted`: a block has just been appended for the frame. -/
def StreamRecord.takeBytes (r : StreamRecord) (granted : Bool) (payload : List Byte) : Feed :=
  let n := payload.length
  let r := { r with tail := r.newTail granted n, flight := some ⟨r.counters.accepted, payload⟩ }
  let f := payload.foldl Feed.byte ⟨r, [], false, none⟩
  let x := f.record
  let c := x.counters
  { f with
    record := { x with
      expected := (x.expected + 1) % 65536
      counters := { c with frames := c.frames + 1, accepted := c.accepted + n }
      pause := none
      beforePause := none }.enter .running }

/-- An accepted frame (R158). The reports of the stream's own end follow those of its segments (log 17), and one frame gives one
of them: STREAM_FAILED once where any segment failed, else STREAM_ENDED (DESIGN CHOICE, log 46). -/
def acceptFrame (r : Nat) (granted : Bool) (payload : List Byte) (s : State) : State :=
  let f := (s.record r).takeBytes granted payload
  let id := f.record.id.getD 0
  let s := raiseAll f.reports (onRecord r (fun _ => f.record) s)
  if f.failed then
    handSignals (raise (.streamFailed id .crc) (onRecord r (fun x => x.toFailed .crc) s))
  else
    match f.halted with
    | some o => handSignals (raise (.streamEnded id o) (onRecord r StreamRecord.conclude s))
    | none => handSignals s

/-- An absorbable frame: the space check, then acceptance; the answer says whether it was accepted (R157, R158). -/
def placeFrame (r : Nat) (payload : List Byte) (s : State) : Bool × State :=
  let x := s.record r
  let id := x.id.getD 0
  if x.blocks.isEmpty || Config.blockBytes < x.tail + payload.length then
    if x.limit ≤ x.blocks.length then (false, pauseStream r .full (.streamFull id .limit) s)
    else
      match allocateStaging r s with
      | (none, s) => (false, pauseStream r .full (.streamFull id .pool) s)
      | (some b, s) =>
        let s := handSignals (onRecord r (fun x => { x with blocks := x.blocks ++ [b] }) s)
        (true, acceptFrame r true payload (thresholdRise r s))
  else (true, acceptFrame r false payload s)

/-- The port's answers (R143). -/
inductive PortAnswer
  | taken
  | orphan
  deriving DecidableEq, Repr

/-- An expected DATA frame (R156). -/
def expectedFrame (r : Nat) (payload : List Byte) (s : State) : Option PortAnswer × State :=
  let x := s.record r
  let id := x.id.getD 0
  let n := payload.length
  if n ≤ x.room.1 then
    match placeFrame r payload s with
    | (true, s) => (none, s)
    | (false, s) => (some .taken, s)
  else if x.room.2 then
    (some .taken,
      handSignals (raise (.streamFailed id .overrun) (onRecord r (fun x => x.toFailed .overrun) s)))
  else (some .taken, pauseStream r .starved (.streamStarved id n x.room.1) s)

/-- The distance of a received sequence from the expected one (R155). -/
def sequenceDistance (received expected : Nat) : Nat := (received + 65536 - expected) % 65536

/-- The stream engine decides a frame: the answer it gives now, or none where it answers when the payload's write completes
(R154, R155). -/
def decideFrame (f : Frame) (s : State) : Option PortAnswer × State :=
  if s.stream.sleepHold then (some .orphan, s)
  else
    match s.stream.find f.id with
    | none => (some .orphan, s)
    | some r =>
      let x := s.record r
      if x.atEnd || (x.mode = .paused && (x.pause = some .host || x.pause = some .sleep)) then (some .orphan, s)
      else
        match f.kind with
        | .keep =>
          (some .taken,
            if x.mode = .running then onRecord r (fun x => { x with stall := some x.stallTime }) s else s)
        | .data =>
          let d := sequenceDistance f.sequence x.expected
          if d = 0 then expectedFrame r f.payload s
          else if d ≤ 32767 then
            (some .taken,
              pauseStream r .gap (.streamGap f.id x.expected f.sequence)
                (onRecord r (fun x => { x with counters := { x.counters with gaps := x.counters.gaps + 1 } }) s))
          else
            (some .taken,
              onRecord r (fun x =>
                { x with counters := { x.counters with duplicates := x.counters.duplicates + 1 } }) s)

/-! ### Drain -/

/-- A landmark entry lies at or before byte `offset` of segment `ordinal` (R164). -/
def landmarkUpTo (ordinal offset : Nat) (e : Nat × Nat) : Bool := e.1 < ordinal || (e.1 == ordinal && e.2 ≤ offset)

/-- A chunk of length 0 (R164), with the overflow mark of the stream it is made from (R160); segment ordinal and offset are 0
(DESIGN CHOICE, log 47). -/
def emptyChunk (id : Option Nat) (mode : StreamMode) (overflow : Bool) : Chunk :=
  ⟨none, id, mode, 0, 0, [], false, [], overflow⟩

/-- The bytes a chunk may offer from a descriptor: up to its last accepted byte, the write in flight and 1024 (R164). -/
def StreamRecord.offer (r : StreamRecord) (g : Segment) : Nat :=
  let toWrite := match r.flight with
    | none => r.staged
    | some w => w.start - r.counters.drained
  min (min (g.accepted - g.drained) toWrite) Config.chunkBytes

/-- The chunk a stream offers (R164), with the overflow mark in force (R160); where no stream is there, none is (log 47). -/
def makeChunk (s : State) : Chunk :=
  match s.link.selection with
  | none => emptyChunk none .closed false
  | some id =>
    match s.stream.find id with
    | none => emptyChunk (some id) .closed false
    | some n =>
      let r := s.record n
      match r.segments.find? (fun g => g.drained < g.accepted) with
      | none => emptyChunk (some id) r.mode r.landmarkOverflow
      | some g =>
        let len := r.offer g
        if len = 0 then emptyChunk (some id) r.mode r.landmarkOverflow
        else
          { record := some n, id := some id, mode := r.mode, ordinal := g.ordinal, offset := g.drained,
            bytes := Memory.readRun s.mem r.blocks r.head len,
            segmentEnd := r.finished g && g.drained + len == g.accepted,
            landmarks := r.landmarks.filter (landmarkUpTo g.ordinal (g.drained + len - 1)),
            overflow := r.landmarkOverflow }

/-- Bytes leave the stream: counters, descriptor and head offset (R164, step 1). -/
def StreamRecord.drain (r : StreamRecord) (c : Chunk) : StreamRecord :=
  let n := c.bytes.length
  { r with
    counters := { r.counters with drained := r.counters.drained + n }
    segments := r.segments.map (fun g => if g.ordinal = c.ordinal then { g with drained := g.drained + n } else g)
    head := r.head + n }

/-- How many head blocks a drained stream gives up (R164, step 2). -/
def StreamRecord.spent (r : StreamRecord) : Nat :=
  if r.atEnd && r.staged = 0 then r.blocks.length else min (r.head / Config.blockBytes) r.blocks.length

/-- The staging queue after its head blocks have gone (R164, step 2). -/
def StreamRecord.dropBlocks (r : StreamRecord) : StreamRecord :=
  let rest := r.blocks.drop r.spent
  if rest.isEmpty then { r with blocks := rest, head := 0, tail := 0 }
  else { r with blocks := rest, head := r.head - r.spent * Config.blockBytes }

/-- The landmarks a committed chunk carried leave the list (R160, R164, step 3). -/
def StreamRecord.dropLandmarks (r : StreamRecord) (c : Chunk) : StreamRecord :=
  let rest := r.landmarks.drop c.landmarks.length
  { r with landmarks := rest, landmarkOverflow := r.landmarkOverflow && !rest.isEmpty }

/-- A chunk read out whole is committed (R164). One of length 0 commits nothing: the last block of a stream that became FAILED with
nothing staged is not given up by it, nor as the stream fails, but by STREAM_CLOSE (DESIGN CHOICE, log 58). -/
def commitChunk (c : Chunk) (s : State) : State :=
  match c.record with
  | none => s
  | some n =>
    let s := onRecord n (fun r => r.drain c) s
    let r := s.record n
    let gone := r.blocks.take r.spent
    let s := releaseBlocks gone (onRecord n StreamRecord.dropBlocks s)
    let s := onRecord n (fun r => r.prune.dropLandmarks c) s
    handSignals (if gone.isEmpty then s else onRecord n StreamRecord.thresholdFall s)

/-- A record is closed: an outstanding chunk of it will change nothing (R164). -/
def forgetRecord (t : Transaction) (n : Nat) : Transaction :=
  match t with
  | .readDrain c => if c.record = some n then .readDrain { c with record := none } else t
  | .none => t
  | .unserved => t
  | .begun => t
  | .writing _ => t
  | .ignored => t
  | .readMessage _ => t

end Sys2Proof.Machine
end

