-- ==== Sys2Proof/Machine/RadioOps.lean ====
section
/-! DEFINITION. The radio port's shared operations: the vote over a character's samples (R135), notes and characters of the FIFO
(R137, R138), the assembler (R139 to R142, R194), handing frames over and the answers (R143), and the start and
stop of the receiver (R146, R147). -/

namespace Sys2Proof.Machine

/-! ### A character on the line -/

/-- The value of a bit: the one that two or three of its samples agree on (R135). -/
def votedBit (b : BitSamples) : Bool := (b.first && b.second) || (b.first && b.third) || (b.second && b.third)

/-- The samples of a bit disagree (R135). -/
def samplesDisagree (b : BitSamples) : Bool := b.first != b.second || b.second != b.third

/-- The data byte, whose bits come on the line from the least significant on (R135). -/
def charData (data : Vector BitSamples 8) : Byte := BitVec.ofNat 8 (bitsOf (data.toList.map votedBit))

/-- A character is noisy where the samples of any of its ten bits, start, mark and data, disagree (R135). -/
def charNoisy (start mark : BitSamples) (data : Vector BitSamples 8) : Bool := (start :: mark :: data.toList).any samplesDisagree

/-! ### The receive FIFO -/

/-- A line note at the tail; where one already stands, it is merged into it (R137). -/
def addNote (c : NoteCause) (q : List FifoEntry) : List FifoEntry :=
  match q.getLast? with
  | some (.note _) => q
  | some (.char _ _) => q ++ [.note c]
  | none => [.note c]

/-- Place a line note (R137). -/
def placeNote (c : NoteCause) (s : State) : State := s.onRadio (fun r => r.setFifo (addNote c r.fifo))

/-- A complete character is placed, or lost to overrun (R138). -/
def placeChar (mark : Bool) (data : Byte) (s : State) : State :=
  if fifoFill s.radio.fifo < Config.fifoSize then
    s.onRadio (fun r => r.setFifo (r.fifo ++ [.char mark data]))
  else placeNote .overrun (radioError .overrun .overrun s)

/-- The receiver takes characters: it runs, the part is awake, and no break is still held (R135). -/
def State.receiving (s : State) : Bool :=
  s.radio.receiver ≠ .stopped && !s.radio.breakHeld && servingMode s.power.mode

/-! ### Handing over -/

/-- An answer raises its count (R143). -/
def countAnswer (a : PortAnswer) (s : State) : State :=
  match a with
  | .taken => countRadio .frames s
  | .orphan => countRadio .orphan s

/-- The assembler goes to HUNT with nothing in assembly and no answer awaited. -/
def RadioState.idleAssembler (r : RadioState) : RadioState :=
  { r with asm := .hunt, frame := none, gap := none, waiting := false }

/-- The frame an assembly stands for (R139, R140). -/
def Assembly.toFrame (a : Assembly) : Frame :=
  { kind := a.kind, id := (a.header.getD 0 0).toNat,
    sequence := (a.header.getD 1 0).toNat * 256 + (a.header.getD 2 0).toNat, payload := a.payload }

/-- The stream engine decides the frame in CHECK, and answers now or later (R143, R154). -/
def handFrame (s : State) : State :=
  match s.radio.frame with
  | none => s
  | some a =>
    match decideFrame a.toFrame s with
    | (none, s) => s
    | (some answer, s) => (countAnswer answer s).onRadio RadioState.idleAssembler

/-- A good frame waits for its handover; it is handed over at once unless an answer is still owed (R143). -/
def handOverFrame (s : State) : State :=
  let s := s.onRadio (fun r => { r with waiting := true, gap := none })
  if s.radio.released then s else handFrame s

/-- The stream engine gives an answer it owed: it sets the assembler free, or, for a released frame, lets a frame that waits
be handed over (R143). -/
def lateAnswer (a : PortAnswer) (s : State) : State :=
  let s := countAnswer a s
  if s.radio.released then
    let s := s.onRadio (fun r => { r with released := false })
    if s.radio.waiting then handFrame s else s
  else s.onRadio RadioState.idleAssembler

/-! ### The assembler -/

/-- The gap timer starts or restarts (R142). -/
def RadioState.startGap (r : RadioState) : RadioState := { r with gap := some r.gapTime }

/-- The frame in assembly is discarded under a count with a report (R139 to R142). -/
def dropFrame (c : CountKind) (k : RadioErrorKind) (s : State) : State :=
  (radioError c k s).onRadio RadioState.idleAssembler

/-- The type a marked character stands for (R194). -/
def frameType (data : Byte) : Option FrameType :=
  if data = 0x5A then some .data else if data = 0x4B then some .keep else none

/-- A character in HUNT (R139). -/
def huntChar (mark : Bool) (data : Byte) (s : State) : State :=
  if mark then
    match frameType data with
    | none => radioError .header .header s
    | some t =>
      s.onRadio (fun r => { r with asm := .header, frame := some ⟨t, [], [], crc16Start, []⟩ }.startGap)
  else s

/-- The state after a frame's length is known, or none for a length its type does not have (R140). -/
def afterLength (t : FrameType) (length : Nat) : Option AsmState :=
  match t with
  | .data => if 1 ≤ length && length ≤ 240 then some .payload else none
  | .keep => if length = 0 then some .check else none

/-- An unmarked character in HEADER (R140). -/
def headerChar (a : Assembly) (data : Byte) (s : State) : State :=
  let a := { a with header := a.header ++ [data], crc := crc16Byte a.crc data }
  if a.header.length < 4 then s.onRadio (fun r => { r with frame := some a }.startGap)
  else
    match afterLength a.kind data.toNat with
    | none => dropFrame .header .header s
    | some m => s.onRadio (fun r => { r with frame := some a, asm := m }.startGap)

/-- An unmarked character in PAYLOAD (R141). -/
def payloadChar (a : Assembly) (data : Byte) (s : State) : State :=
  let a := { a with payload := a.payload ++ [data], crc := crc16Byte a.crc data }
  let m := if (a.header.getD 3 0).toNat ≤ a.payload.length then AsmState.check else AsmState.payload
  s.onRadio (fun r => { r with frame := some a, asm := m }.startGap)

/-- The CRC that the two received characters spell, most significant first (R194). -/
def receivedCrc (cs : List Byte) : Word16 := (cs.getD 0 0).setWidth 16 <<< 8 ||| (cs.getD 1 0).setWidth 16

/-- An unmarked character in CHECK (R141). -/
def checkChar (a : Assembly) (data : Byte) (s : State) : State :=
  let a := { a with check := a.check ++ [data] }
  if a.check.length < 2 then s.onRadio (fun r => { r with frame := some a }.startGap)
  else if receivedCrc a.check = a.crc then handOverFrame (s.onRadio (fun r => { r with frame := some a }))
  else dropFrame .crc .crc s

/-- The assembler takes a character (R139). -/
def takeChar (mark : Bool) (data : Byte) (s : State) : State :=
  match s.radio.frame with
  | none => huntChar mark data s
  | some a =>
    if mark then huntChar mark data (dropFrame .truncated .truncated s)
    else
      match s.radio.asm with
      | .hunt => huntChar mark data s
      | .header => headerChar a data s
      | .payload => payloadChar a data s
      | .check => checkChar a data s

/-- The assembler takes a line note (R137). -/
def takeNote (s : State) : State :=
  if s.radio.asm = .hunt then s else (countRadio .broken s).onRadio RadioState.idleAssembler

/-! ### The receiver -/

/-- The receiver starts, looking for the line high; the port may be disabled (R146, R147). -/
def RadioState.startReceiver (r : RadioState) : RadioState :=
  { r with receiver := if r.enabled then .seekHigh else .stopped, watching := false }

end Sys2Proof.Machine
end

