-- ==== Sys2Proof/Machine/Update.lean ====
section
/-! DEFINITION. The commands and events of chapter 3: updates (R37, R38), cancelling (R53), the frame period (R61), tiles into the
target plane (R55), the end of PREPARING (R45) and frame events (R47). -/

namespace Sys2Proof.Machine

/-- The pending entry of a host update (R38). -/
def hostEntry (tag : Nat) (a : UpdateArgs) : PendingEntry :=
  { tag := tag, origin := .host, rect := a.rect, slot := a.slot, selection := a.selection, source := a.source,
    keepLeaf := a.keepLeaf, shows := a.shows }

/-- A host update is checked and taken, with the reply to the command that brings it (R37, R38, R89). -/
def hostUpdate (code tag : Nat) (a : UpdateArgs) (s : State) : State :=
  match updateCheck a s with
  | some st => reply code tag st s
  | none => engineNotify (walk (reply code tag .accepted (lightActivity (appendEntry (hostEntry tag a) s))))

/-- UPDATE (R37, R38). -/
def execUpdate (tag : Nat) (b : Body UpdateArgs) (s : State) : Host.Outcome State Fault Refusal :=
  .next (takeCommand (.update tag b) 0x30 tag b (hostUpdate 0x30 tag) s)

/-- The lane a cancel ends (R53). -/
def cancelLane (tag : Nat) (s : State) : Option Nat :=
  (List.range 8).find? (fun n =>
    let l := s.lane n
    l.state ≠ .free && l.origin = .host && l.tag = tag)

/-- The queue without the first entry a cancel ends, and that entry (R53). -/
def takeEntry (tag : Nat) : List PendingEntry → Option (PendingEntry × List PendingEntry)
  | [] => none
  | e :: es =>
    if e.origin = .host && e.tag = tag then some (e, es)
    else
      match takeEntry tag es with
      | none => none
      | some (x, rest) => some (x, e :: rest)

/-- A cancel of a lane: freed, the reply and the report, then the rectangle of a DRIVING lane (R53; log 15). -/
def cancelOnLane (tag n : Nat) (s : State) : State :=
  let l := s.lane n
  let s := reply 0x31 tag .ok (freeLane false n s)
  let s := raise (.updateDone tag .cancelled l.promoted) s
  engineNotify (walk (if l.state = .driving then addUncertain l.rect s else s))

/-- A cancel of a pending entry (R53, R40). -/
def cancelEntry (tag : Nat) (e : PendingEntry) (rest : List PendingEntry) (s : State) : State :=
  let s := unuseSource e.source (unuseSlot e.slot (s.onEngine (fun g => { g with pending := rest })))
  engineNotify (walk (raise (.updateDone tag .cancelled false) (reply 0x31 tag .ok s)))

/-- UPDATE_CANCEL at its owner (R53). -/
def ownUpdateCancel (tag : Nat) (s : State) : State :=
  match cancelLane tag s with
  | some n => cancelOnLane tag n s
  | none =>
    match takeEntry tag s.engine.pending with
    | some (e, rest) => cancelEntry tag e rest s
    | none => reply 0x31 tag .noSuch s

/-- UPDATE_CANCEL (R53). -/
def execUpdateCancel (tag : Nat) (b : Body Unit) (s : State) : Host.Outcome State Fault Refusal :=
  .next (takeCommand (.updateCancel tag b) 0x31 tag b (fun _ => ownUpdateCancel tag) s)

/-- SCAN_SETUP (R61). A running interval keeps its length. -/
def execScanSetup (tag : Nat) (b : Body Nat) (s : State) : Host.Outcome State Fault Refusal :=
  .next (takeCommand (.scanSetup tag b) 0x32 tag b (fun p s =>
    reply 0x32 tag .ok (s.onEngine (fun e => { e with framePeriod := clampNat 500 5000 p }))) s)

/-- A tile overlaps a pending entry that reads the target plane (R55). -/
def EngineState.targetOver (e : EngineState) (r : Rect) : Bool :=
  e.pending.any (fun x => x.source = .target && rectOverlaps x.rect r)

/-- The checks of a tile into the target plane (R55, R192). -/
def tileCheck (b : TileBody) (s : State) : Option Status :=
  match b with
  | .short => some .badLength
  | .tile dest r pixels =>
    match s.pool.geometry with
    | none => some .state
    | some p =>
      if dest ≠ 0 || !rectInside r p then some .badParam
      else if pixels.length ≠ tileBytes r then some .badLength
      else if s.engine.busyOver r || s.engine.targetOver r then some .regionBusy
      else none

/-- A tile's pixels go into the target plane (R55). -/
def writeTarget (b : TileBody) (s : State) : State :=
  match b with
  | .short => s
  | .tile _ r pixels =>
    s.onMem (fun m => m.setPixels (targetBlocks s.pool.geometry) (tilePixels s.panelWidth r pixels))

/-- TILE_TARGET at its owner (R55). -/
def ownTileTarget (b : TileBody) (s : State) : State :=
  match tileCheck b s with
  | some st => raise (.packetRefused 2 st) s
  | none => writeTarget b s

/-- TILE_TARGET (R55). -/
def execTileTarget (b : TileBody) (s : State) : Host.Outcome State Fault Refusal :=
  .next (takePacket (.tileTarget b) (ownTileTarget b) s)

/-- PREPARING_END: the lane's transitions are counted and it asks for its band (R44, R45, R33). -/
def execPreparingEnd (n : Nat) (s : State) : Host.Outcome State Fault Refusal :=
  .next (
    let l := s.lane n
    if l.state = .preparing && !l.bandHeld then
      engineNotify (askBand n (onLane n (fun x => { x with hist := histogram (s.lanePixels l) }) s))
    else s)

/-- FRAME_EVENT, while the scan runs with the rails ON (R46 to R48; log 45). -/
def execFrameEvent (s : State) : Host.Outcome State Fault Refusal :=
  .next (if s.engine.scan.isSome && s.rail.mode = .on then engineNotify (runFrame s) else s)

end Sys2Proof.Machine
end

