-- ==== Sys2Proof/Machine/Cache.lean ====
section
/-! DEFINITION. The commands of chapter 5: filling, closing and dropping leaves (R83, R84, R86, R87), tiles into a leaf (R85),
SHOW_LEAF and its declare form (R89, R90), and the cache's settings and query (R100, R101). -/

namespace Sys2Proof.Machine

/-- A leaf number in range (R81). -/
def leafInRange (n : Nat) : Bool := n ≤ Config.maxLeaf

/-- The fields of LEAF_FILL in range (R83). -/
def leafFillGood (a : LeafFillArgs) : Bool := leafInRange a.leaf && a.background ≤ 15 && a.turnSlot.all (· ≤ 5)

/-- A READY leaf is reused: a new header, and every written mark cleared (R83, R13). -/
def reuseLeaf (a : LeafFillArgs) (l : Leaf) (s : State) : State :=
  (s.onPool (fun p => p.mark l.blocks false)).onCache (fun c => c.withLeaf a.leaf (fun l =>
    { l with mode := .filling, background := a.background, turnSlot := a.turnSlot, edge := a.edge }))

/-- The leaves a fill of a new number evicts, or none where the fill finds no space (R84, R12). -/
def fillEvictions (n : Nat) (s : State) : Option (List Leaf) :=
  let p := planeSize s.pool.geometry
  let vs := s.cache.fillVictims n
  if s.cache.leaves.length < Config.maxLeaves then
    if s.pool.freeCount + (vs.map (fun l => l.blocks.length)).sum < p then none
    else some (enoughVictims p s.pool.freeCount vs)
  else
    match vs with
    | [] => none
    | v :: _ => some [v]

/-- A new leaf takes its blocks and its record (R84, R12, R13). -/
def createLeaf (a : LeafFillArgs) (s : State) : State :=
  let p := planeSize s.pool.geometry
  let leaf : Leaf :=
    { number := a.leaf, mode := .filling, blocks := s.pool.lowestFree p, background := a.background, useCount := 0,
      turnSlot := a.turnSlot, edge := a.edge }
  (allocate p (.leaf a.leaf false) s).onCache (fun c => { c with leaves := insertLeaf leaf c.leaves })

/-- LEAF_FILL of a number that has no record (R84). -/
def fillNew (tag : Nat) (a : LeafFillArgs) (s : State) : State :=
  match fillEvictions a.leaf s with
  | none => reply 0x50 tag .noSpace s
  | some vs =>
    let s := createLeaf a (vs.foldl (fun s l => removeLeaf l s) s)
    raiseAll (vs.map (fun l => .leafEvicted l.number)) (reply 0x50 tag .ok s)

/-- LEAF_FILL at its owner (R83). -/
def ownLeafFill (tag : Nat) (a : LeafFillArgs) (s : State) : State :=
  if s.pool.geometry.isNone then reply 0x50 tag .state s
  else if !leafFillGood a then reply 0x50 tag .badParam s
  else
    match s.cache.leaf a.leaf with
    | none => fillNew tag a s
    | some l => if l.idle then reply 0x50 tag .ok (reuseLeaf a l s) else reply 0x50 tag .busy s

/-- LEAF_FILL (R83, R84). -/
def execLeafFill (tag : Nat) (b : Body LeafFillArgs) (s : State) : Host.Outcome State Fault Refusal :=
  .next (takeCommand (.leafFill tag b) 0x50 tag b (ownLeafFill tag) s)

/-- LEAF_CLOSE at its owner (R86). -/
def ownLeafClose (tag n : Nat) (s : State) : State :=
  if !leafInRange n then reply 0x51 tag .badParam s
  else
    match s.cache.leaf n with
    | none => reply 0x51 tag .noSuch s
    | some l =>
      if l.mode = .filling then
        reply 0x51 tag .ok (s.onCache (fun c => c.withLeaf n (fun l => { l with mode := .ready })))
      else reply 0x51 tag .state s

/-- LEAF_CLOSE (R86). -/
def execLeafClose (tag : Nat) (b : Body Nat) (s : State) : Host.Outcome State Fault Refusal :=
  .next (takeCommand (.leafClose tag b) 0x51 tag b (ownLeafClose tag) s)

/-- LEAF_DROP at its owner (R87). -/
def ownLeafDrop (tag n : Nat) (s : State) : State :=
  if !leafInRange n then reply 0x52 tag .badParam s
  else
    match s.cache.leaf n with
    | none => reply 0x52 tag .noSuch s
    | some l =>
      if l.mode = .shown || 0 < l.useCount then reply 0x52 tag .busy s
      else reply 0x52 tag .ok (removeLeaf l s)

/-- LEAF_DROP (R87). -/
def execLeafDrop (tag : Nat) (b : Body Nat) (s : State) : Host.Outcome State Fault Refusal :=
  .next (takeCommand (.leafDrop tag b) 0x52 tag b (ownLeafDrop tag) s)

/-! ### Tiles into a leaf -/

/-- The checks of a tile into a leaf (R85). -/
def leafTileCheck (n : Nat) (r : Rect) (pixels : List Byte) (s : State) : Option Status :=
  match s.pool.geometry with
  | none => some .state
  | some p =>
    if !leafInRange n || !rectInside r p then some .badParam
    else if pixels.length ≠ tileBytes r then some .badLength
    else
      match s.cache.leaf n with
      | none => some .noSuch
      | some l => if l.mode = .filling then none else some .state

/-- The blocks of a leaf that a rectangle touches (R14). -/
def touchedBlocks (w : Nat) (r : Rect) (blocks : List Nat) : List Nat :=
  ((rectIndices w r).map (fun i => blocks.getD (i / 2 / Config.blockBytes) 0)).dedup

/-- The first write into an unwritten block fills it with the background and sets its mark (R14). -/
def lazyClear (background : Nat) (blocks : List Nat) (s : State) : State :=
  let fresh := blocks.filter (fun b => !s.pool.written b)
  (s.onMem (fun m => fresh.foldl (fun m b => Memory.fillBlock m b background) m)).onPool (fun p => p.mark fresh true)

/-- A tile's pixels go into a leaf (R85, R14). -/
def writeLeaf (l : Leaf) (r : Rect) (pixels : List Byte) (s : State) : State :=
  let w := s.panelWidth
  (lazyClear l.background (touchedBlocks w r l.blocks) s).onMem
    (fun m => m.setPixels l.blocks (tilePixels w r pixels))

/-- TILE_LEAF at its owner (R85). -/
def ownTileLeaf (n : Nat) (r : Rect) (pixels : List Byte) (s : State) : State :=
  match leafTileCheck n r pixels s with
  | some st => raise (.packetRefused 2 st) s
  | none =>
    match s.cache.leaf n with
    | none => s
    | some l => writeLeaf l r pixels s

/-- TILE_LEAF (R85). -/
def execTileLeaf (n : Nat) (r : Rect) (pixels : List Byte) (s : State) : Host.Outcome State Fault Refusal :=
  .next (takePacket (.tileLeaf n r pixels) (ownTileLeaf n r pixels) s)

/-! ### SHOW_LEAF -/

/-- The slot and selection of SHOW_LEAF; a slot left out is chosen as for a turn, and may be unset (R89, R92; log 14). -/
def showChoice (a : ShowLeafArgs) (c : CacheState) : Option (Nat × Selection) :=
  match a.slot with
  | some n => some (n, a.selection.getD .changed)
  | none =>
    let t := c.turnChoice (c.leafSlot a.leaf)
    t.2.1.map (fun n => (n, t.2.2))

/-- SHOW_LEAF at its owner (R89). -/
def ownShowLeaf (tag : Nat) (a : ShowLeafArgs) (s : State) : State :=
  match showChoice a s.cache with
  | none => reply 0x53 tag .slotInvalid s
  | some (slot, sel) =>
    hostUpdate 0x53 tag
      { rect := s.panelRect, slot := slot, selection := sel, source := .leaf a.leaf, keepLeaf := false, shows := none } s

/-- SHOW_LEAF (R89). -/
def execShowLeaf (tag : Nat) (b : Body ShowLeafArgs) (s : State) : Host.Outcome State Fault Refusal :=
  .next (takeCommand (.showLeaf tag b) 0x53 tag b (ownShowLeaf tag) s)

/-- The declare form at its owner (R90). -/
def ownDeclare (tag : Nat) (a : ShowLeafArgs) (s : State) : State :=
  if !leafInRange a.leaf then reply 0x53 tag .badParam s
  else if !s.cache.showable a.leaf then reply 0x53 tag .noSuch s
  else if !s.engine.idle then reply 0x53 tag .busy s
  else reply 0x53 tag .ok (s.onCache (fun c => c.showLeaf a.leaf))

/-- SHOW_LEAF with the declare mark (R90). -/
def execShowLeafDeclare (tag : Nat) (a : ShowLeafArgs) (s : State) : Host.Outcome State Fault Refusal :=
  .next (takeCommand (.showLeafDeclare tag a) 0x53 tag (.fields a) (ownDeclare tag) s)

/-! ### Settings and query -/

/-- The five settings in range (R100). -/
def cacheGood (a : CacheArgs) : Bool :=
  1 ≤ a.lowWater && a.lowWater ≤ 8 && 1 ≤ a.cadence && a.cadence ≤ 63 && a.guardDist ≤ 4
    && a.partialSlot.all (· ≤ 5) && a.fullSlot.all (· ≤ 5)

/-- CACHE_SETUP (R100). -/
def execCacheSetup (tag : Nat) (b : Body CacheArgs) (s : State) : Host.Outcome State Fault Refusal :=
  .next (takeCommand (.cacheSetup tag b) 0x54 tag b (fun a s =>
    if cacheGood a then reply 0x54 tag .ok (s.onCache (fun c => { c with settings := a }))
    else reply 0x54 tag .badParam s) s)

/-- One leaf record as CACHE_QUERY gives it (R101). -/
def leafView (p : PoolState) (l : Leaf) : LeafView :=
  { number := l.number, mode := l.mode, background := l.background, useCount := l.useCount, turnSlot := l.turnSlot,
    edge := l.edge, written := (l.blocks.filter p.written).length }

/-- The state CACHE_QUERY gives (R101). -/
def cacheReply (s : State) : CacheReply :=
  { settings := s.cache.settings, current := s.cache.current, anchor := s.cache.anchor, counter := s.cache.counter,
    flight := s.cache.flight, deferred := s.cache.deferred, leaves := s.cache.leaves.map (leafView s.pool) }

/-- CACHE_QUERY (R101). -/
def execCacheQuery (tag : Nat) (b : Body Unit) (s : State) : Host.Outcome State Fault Refusal :=
  .next (takeCommand (.cacheQuery tag b) 0x55 tag b
    (fun _ s => replyWith 0x55 tag .ok (.cache (cacheReply s)) s) s)

end Sys2Proof.Machine
end

