-- ==== Sys2Proof/Machine/Key.lean ====
section
/-! DEFINITION. The commands and events of chapter 6: KEY_SETUP and KEY_QUERY (R116, R117), raw changes (R106, R113) and the
key timers (R106, R109). -/

namespace Sys2Proof.Machine

/-- A configuration with its numbers clamped (R116). -/
def clampKey (c : KeyConfig) : KeyConfig :=
  { c with
    debounce := clampNat 1 255 c.debounce
    hold := clampNat 0 255 c.hold
    period := clampNat 5 255 c.period
    lightStep := clampNat 1 20 c.lightStep }

/-- An input as it becomes disabled (R116). -/
def KeyInput.disable (i : KeyInput) : KeyInput :=
  { i with debounced := .unknown, armed := false, held := false, debounce := none, holdTimer := none, repeatTimer := none }

/-- An input's live state under a new configuration (R116). -/
def KeyInput.configure (i : KeyInput) (c : KeyConfig) : KeyInput :=
  let j := { i with config := c }
  if !i.config.enabled then if c.enabled then j.enable else j
  else if !c.enabled then j.disable
  else if i.config.active ≠ c.active then j.enable
  else if keyRepeats c then j
  else { j with holdTimer := none, repeatTimer := none }

/-- KEY_SETUP (R116). -/
def execKeySetup (tag : Nat) (b : Body KeyArgs) (s : State) : Host.Outcome State Fault Refusal :=
  .next (takeCommand (.keySetup tag b) 0x60 tag b (fun a s =>
    if 5 < a.key then reply 0x60 tag .badParam s
    else reply 0x60 tag .ok (onKey a.key (fun i => i.configure (clampKey a.config)) s)) s)

/-- One input as KEY_QUERY gives it (R117). -/
def keyView (i : KeyInput) : KeyView :=
  { config := i.config, raw := i.raw, debounced := i.debounced, armed := i.armed, held := i.held,
    debounceRuns := i.debounce.isSome, holdRuns := i.holdTimer.isSome, repeatRuns := i.repeatTimer.isSome }

/-- The state KEY_QUERY gives (R117). -/
def keyReply (s : State) : KeyReply :=
  { timestamp := s.keys.timestamp, inputs := s.keys.inputs.toList.map keyView }

/-- KEY_QUERY (R117). -/
def execKeyQuery (tag : Nat) (b : Body Unit) (s : State) : Host.Outcome State Fault Refusal :=
  .next (takeCommand (.keyQuery tag b) 0x61 tag b
    (fun _ s => replyWith 0x61 tag .ok (.keys (keyReply s)) s) s)

/-- A raw change by the power state: debounce in ACTIVE, DOZE and SETTLING, sensing in STANDBY, the raw level alone in WAKING
and for a disabled input (R104, R106, R113, R114). -/
def rawChanged (k : Nat) (l : Level) (s : State) : State :=
  if !(s.key k).config.enabled then onKey k (fun i => { i with raw := l }) s
  else
    match s.power.mode with
    | .active => onKey k (fun i => i.rawChange l) s
    | .doze => onKey k (fun i => i.rawChange l) s
    | .settling => onKey k (fun i => i.rawChange l) s
    | .standby => senseChange k l s
    | .waking => onKey k (fun i => { i with raw := l }) s

/-- KEY_INPUT_CHANGE (R106, R113). -/
def execKeyInputChange (k : Nat) (l : Level) (s : State) : Host.Outcome State Fault Refusal :=
  .next (if k < 6 && (s.key k).raw ≠ l then rawChanged k l s else s)

/-- DEBOUNCE_EXPIRE (R106, R107). -/
def execDebounceExpire (k : Nat) (s : State) : Host.Outcome State Fault Refusal :=
  .next (
    match (s.key k).debounce with
    | none => s
    | some (_, l) => acceptLevel k l s)

/-- KEY_HOLD_EXPIRE: with the held mark set, a REPEAT (R109). -/
def execKeyHoldExpire (k : Nat) (s : State) : Host.Outcome State Fault Refusal :=
  .next (if (s.key k).holdTimer.isSome && (s.key k).held then repeatKey k s else s)

/-- KEY_REPEAT_EXPIRE: another REPEAT (R109). -/
def execKeyRepeatExpire (k : Nat) (s : State) : Host.Outcome State Fault Refusal :=
  .next (if (s.key k).repeatTimer.isSome then repeatKey k s else s)

end Sys2Proof.Machine
end

