-- ==== Sys2Proof/Machine/Light.lean ====
section
/-! DEFINITION. The commands and events of chapter 7: LIGHT_SET, LIGHT_CURVE, LIGHT_SETUP (R130 to R132), the ramp step (R124)
and the dwell timer (R126). -/

namespace Sys2Proof.Machine

/-- The warmth becomes `w`; a change forms the duties afresh (R130). -/
def LightState.warm (l : LightState) (w : Nat) : LightState :=
  if w = l.warmth then l else { l with warmth := w }.formDuties

/-- LIGHT_SET's three effects in order (R130). -/
def LightState.set (l : LightState) (a : LightSetArgs) : LightState :=
  let l := l.activity
  let l := l.setTo (givenOr l.setLevel (clampNat 0 100) a.level)
  l.warm (givenOr l.warmth (clampNat 0 100) a.warmth)

/-- LIGHT_SET (R130). -/
def execLightSet (tag : Nat) (b : Body LightSetArgs) (s : State) : Host.Outcome State Fault Refusal :=
  .next (takeCommand (.lightSet tag b) 0x71 tag b (fun a s =>
    reply 0x71 tag .ok (lightEvent (fun l => l.set a) s)) s)

/-- Points that do not decrease (R131). -/
def nonDecreasing : List Nat → Bool
  | [] => true
  | [_] => true
  | a :: b :: r => a ≤ b && nonDecreasing (b :: r)

/-- LIGHT_CURVE (R131). -/
def execLightCurve (tag : Nat) (b : Body (List Nat)) (s : State) : Host.Outcome State Fault Refusal :=
  .next (takeCommand (.lightCurve tag b) 0x70 tag b (fun ps s =>
    if ps.length ≠ 21 then reply 0x70 tag .badLength s
    else if !(ps.all (· ≤ 4095) && nonDecreasing ps) then reply 0x70 tag .badParam s
    else reply 0x70 tag .ok (lightEvent (fun l => { l with curve := ps }.formDuties) s)) s)

/-- The effect of a ramp interval (R132). -/
def LightState.setRamp (l : LightState) (v : Nat) : LightState :=
  let l := { l with rampInterval := v }
  if v = 0 && !l.hold then l.jump else l

/-- The effect of a dim level (R132). -/
def LightState.setDim (l : LightState) (v : Nat) : LightState := { l with dim := v }.retarget

/-- The effect of a dwell time (R132). -/
def LightState.setDwell (l : LightState) (v : Nat) : LightState :=
  if v = 0 then { l with dwellTime := 0, dwell := none, dimmed := false }.retarget
  else if l.dwellTime = 0 then { l with dwellTime := v, dwell := some v }
  else { l with dwellTime := v }

/-- The effect of the ceilings; a change forms the duties afresh (R132). -/
def LightState.setCeilings (l : LightState) (w c : Nat) : LightState :=
  if w = l.warmCeiling && c = l.coolCeiling then l else { l with warmCeiling := w, coolCeiling := c }.formDuties

/-- The light unit's own part of LIGHT_SETUP, in the order of the table of R132 (log 39). -/
def LightState.setup (l : LightState) (a : LightSetupArgs) : LightState :=
  let l := l.setRamp (clampNat 0 255 a.ramp)
  let l := l.setDim (clampNat 0 100 a.dim)
  let l := l.setDwell (clampNat 0 3600 a.dwell)
  l.setCeilings (givenOr l.warmCeiling (clampNat 1 200) a.warmCeiling) (givenOr l.coolCeiling (clampNat 1 200) a.coolCeiling)

/-- A floor that changes is handed to the budget unit, which hands the allowance back (R132, R78). -/
def setFloor (v : Nat) (s : State) : State :=
  if v = s.light.floor then s
  else rebudget (fun b => { b with floor := v }) (s.onLight (fun l => { l with floor := v }))

/-- LIGHT_SETUP at its owner (R132). -/
def ownLightSetup (tag : Nat) (a : LightSetupArgs) (s : State) : State :=
  if s.link.locked && (a.warmCeiling.isSome || a.coolCeiling.isSome || a.floor.isSome) then reply 0x72 tag .locked s
  else
    let s := lightEvent (fun l => l.setup a) s
    reply 0x72 tag .ok (setFloor (givenOr s.light.floor (clampNat 0 255) a.floor) s)

/-- LIGHT_SETUP (R132). -/
def execLightSetup (tag : Nat) (b : Body LightSetupArgs) (s : State) : Host.Outcome State Fault Refusal :=
  .next (takeCommand (.lightSetup tag b) 0x72 tag b (ownLightSetup tag) s)

/-- RAMP_STEP, while the ramp timer runs (R124). -/
def execRampStep (s : State) : Host.Outcome State Fault Refusal :=
  .next (if s.light.ramp.isSome then lightEvent LightState.rampStep s else s)

/-- DWELL_EXPIRE, while the dwell timer runs (R126). -/
def execDwellExpire (s : State) : Host.Outcome State Fault Refusal :=
  .next (if s.light.dwell.isSome then lightEvent LightState.dwellOver s else s)

end Sys2Proof.Machine
end

