-- ==== Sys2Proof/Machine/Link.lean ====
section
/-! DEFINITION. The commands and events of chapter 11: STATUS, IDENTIFY, LINK_SETUP (R185), SETUP_END (R186), unknown packets and
commands (R183, R191, R192), and the link's transactions (R171, R181, R182). -/

namespace Sys2Proof.Machine

/-! ### STATUS -/

/-- The pool's contribution (R2). -/
def poolStatus (p : PoolState) : PoolStatus :=
  { free := p.freeCount, reserve := p.reserve, planeSize := planeSize p.geometry,
    planeBlocks := (p.ownedBy Owner.isPlane).length, waveBlocks := Config.blockCount - Config.waveBase,
    leafBlocks := (p.ownedBy Owner.isLeaf).length, stageBlocks := (p.ownedBy Owner.isStage).length }

/-- The waveform unit's contribution (R17). -/
def waveStatus (w : WaveState) : WaveStatus :=
  { slots := w.slots.toList.map (fun x => (x.state, x.band)), openSlot := w.load.map Load.slot,
    loadCounts := w.load.map (fun l => (l.expected, l.received)), lastRaw := w.lastRaw, filtered := w.filtered,
    samples := w.samples, saturated := w.saturated.isSet }

/-- The update engine's contribution (R36). -/
def engineStatus (e : EngineState) : EngineStatus :=
  { lanes := e.lanes.toList.map (fun l => (l.state, if l.state = .free then none else some (l.tag, l.origin))),
    pending := e.pending.length, uncertain := e.uncertain, whole := e.whole, framePeriod := e.framePeriod,
    scanning := e.scan.isSome, load := e.load }

/-- The rail controller's contribution (R63). -/
def railStatus (r : RailState) : RailStatus :=
  { mode := r.mode, cause := r.cause, powerGood := r.powerGood, armed := r.armed, rise := r.riseTime, fall := r.fallTime,
    hold := r.holdTime }

/-- The budget unit's contribution (R75). -/
def budgetStatus (b : BudgetState) : BudgetStatus :=
  { normal := b.normal, low := b.low, base := b.base, coeff := b.coeff, lowbat := b.lowbat, effective := b.effective,
    load := b.load, panel := b.panel, allowance := b.allowance, budgetOver := b.budgetOver.isSet }

/-- The page cache's contribution (R81). -/
def cacheStatus (c : CacheState) : CacheStatus :=
  { leaves := c.leaves.length, current := c.current, anchor := c.anchor, turning := c.flight.isSome, counter := c.counter }

/-- The key unit's contribution (R105). -/
def keyStatus (k : KeyState) : KeyStatus :=
  { inputs := k.inputs.toList.map (fun i => (i.debounced, i.held)), timestamp := k.timestamp }

/-- The light unit's contribution (R119). -/
def lightStatus (l : LightState) : LightStatus :=
  { setLevel := l.setLevel, warmth := l.warmth, level := l.level, target := l.target, dimmed := l.dimmed, dark := l.dark,
    hold := l.hold, allowance := l.allowance, warmOut := l.warmOut, coolOut := l.coolOut, limited := l.limited }

/-- The radio port's contribution (R134). -/
def radioStatus (r : RadioState) : RadioStatus :=
  { enabled := r.enabled, rate := r.rate, gap := r.gapTime, wake := r.wake, asm := r.asm, fill := fifoFill r.fifo,
    hold := r.hold, conditions := r.holdConditions, counts := r.counts }

/-- The stream engine's contribution (R149). -/
def streamStatus (t : StreamState) : StreamStatus :=
  { records := t.records.toList.map (fun r => ⟨r.id, r.mode, r.pause, r.fail, r.blocks.length, r.staged⟩),
    headroom := t.headroom, running := t.running }

/-- The power controller's contribution (R168). -/
def powerStatus (p : PowerState) : PowerStatus :=
  { mode := p.mode, lastCause := p.cause, delay := p.delay, timerRuns := p.timer.isSome, engineIdle := p.engineIdle,
    railsOff := p.railsOff, lightDark := p.lightDark, running := p.running, wakeCount := p.wakeCount, mask := p.mask }

/-- The host link unit's contribution (R180). -/
def linkStatus (l : LinkState) : LinkStatus :=
  { packets := l.buffer.length, entries := l.queue.length, reports := reportCount l.queue, overflow := l.overflow.isSet,
    locked := l.locked, timeout := l.timeout, selection := l.selection }

/-- The state of the part as STATUS gathers it (R185). -/
def statusReply (s : State) : StatusReply :=
  { pool := poolStatus s.pool, wave := waveStatus s.wave, engine := engineStatus s.engine, rail := railStatus s.rail,
    budget := budgetStatus s.budget, cache := cacheStatus s.cache, keys := keyStatus s.keys, light := lightStatus s.light,
    radio := radioStatus s.radio, stream := streamStatus s.stream, power := powerStatus s.power, link := linkStatus s.link,
    marks := ⟨s.link.overflow.sets, s.budget.budgetOver.sets, s.wave.saturated.sets⟩ }

/-- STATUS (R185). -/
def execStatus (tag : Nat) (b : Body Unit) (s : State) : Host.Outcome State Fault Refusal :=
  .next (takeCommand (.status tag b) 0xB0 tag b
    (fun _ s => replyWith 0xB0 tag .ok (.status (statusReply s)) s) s)

/-- The counts lowered by the values a reply carried, or 0 (R144). -/
def lowerCounts (a b : RadioCounts) : RadioCounts :=
  { framing := a.framing - b.framing, noise := a.noise - b.noise, overrun := a.overrun - b.overrun, brk := a.brk - b.brk,
    truncated := a.truncated - b.truncated, gap := a.gap - b.gap, header := a.header - b.header, crc := a.crc - b.crc,
    broken := a.broken - b.broken, frames := a.frames - b.frames, orphan := a.orphan - b.orphan,
    holdOn := a.holdOn - b.holdOn, wake := a.wake - b.wake }

/-- The clear-on-read effects of a STATUS reply read out whole (R185, R144). -/
def statusReadOut (r : StatusReply) (s : State) : State :=
  let s := s.onLink (fun l => { l with overflow := l.overflow.readOut r.link.overflow r.marks.overflow })
  let s := s.onBudget (fun b => { b with budgetOver := b.budgetOver.readOut r.budget.budgetOver r.marks.budgetOver })
  let s := s.onWave (fun w => { w with saturated := w.saturated.readOut r.wave.saturated r.marks.saturated })
  s.onRadio (fun p => { p with counts := lowerCounts p.counts r.radio.counts, marks := [] })

/-! ### IDENTIFY, LINK_SETUP, SETUP_END -/

/-- IDENTIFY (R185). -/
def execIdentify (tag : Nat) (b : Body Unit) (s : State) : Host.Outcome State Fault Refusal :=
  .next (takeCommand (.identify tag b) 0xB1 tag b
    (fun _ s => replyWith 0xB1 tag .ok (.identify ⟨0x0E46, 1, Config.blockCount, s.link.locked⟩) s) s)

/-- LINK_SETUP (R185). A running stall timer keeps its length. -/
def execLinkSetup (tag : Nat) (b : Body Nat) (s : State) : Host.Outcome State Fault Refusal :=
  .next (takeCommand (.linkSetup tag b) 0xB2 tag b
    (fun t s => reply 0xB2 tag .ok (s.onLink (fun l => { l with timeout := clampNat 1 64 t }))) s)

/-- SETUP_END (R186). -/
def execSetupEnd (tag : Nat) (b : Body Unit) (s : State) : Host.Outcome State Fault Refusal :=
  .next (takeCommand (.setupEnd tag b) 0xB3 tag b
    (fun _ s =>
      if s.pool.geometry.isNone then reply 0xB3 tag .state s
      else reply 0xB3 tag .ok (s.onLink (fun l => { l with locked := true }))) s)

/-! ### Unknown commands and packets -/

/-- The reply to a body that names no command (R191). -/
def ownUnknown (b : UnknownBody) (s : State) : State :=
  match b with
  | .short => reply 0 0 .badLength s
  | .code c t => reply c t .unknown s

/-- UNKNOWN_COMMAND (R183, R191). -/
def execUnknownCommand (b : UnknownBody) (s : State) : Host.Outcome State Fault Refusal :=
  .next (takePacket (.unknownCommand b) (withReplyPlace (ownUnknown b)) s)

/-- UNKNOWN_PACKET_KIND (R192). -/
def execUnknownPacketKind (kind : Nat) (s : State) : Host.Outcome State Fault Refusal :=
  .next (takePacket (.unknownPacketKind kind) (raise (.packetRefused kind .unknown)) s)

/-! ### Transactions -/

/-- Set the transaction and stop the stall timer. -/
def LinkState.endWrite (l : LinkState) (t : Transaction) : LinkState := { l with transaction := t, stall := none }

/-- CHIP_SELECT_ASSERT: the power controller acts first; a transaction begun in STANDBY or WAKING is not served (R171, R177). -/
def execChipSelectAssert (s : State) : Host.Outcome State Fault Refusal :=
  .next (
    if s.link.transaction = .none then
      let t := if servingMode s.power.mode then Transaction.begun else .unserved
      (linkNotice s).onLink (fun l => { l with transaction := t })
    else s)

/-- A WRITE is discarded under a LINK_ERROR, and the rest of its transaction ignored (R182). -/
def discardWrite (c : LinkErrorCause) (s : State) : State :=
  raise (.linkError c) (s.onLink (fun l => l.endWrite .ignored))

/-- Reception begins: room for the packet is tested at the selector (R182). -/
def beginWrite (s : State) : State :=
  if Config.bufferSize ≤ s.link.buffer.length then discardWrite .overflow s
  else s.onLink (fun l => { l with transaction := .writing [], stall := some l.timeout })

/-- What the header and body received so far amount to (R182, R190). -/
inductive Reception
  | more
  | tooLong
  | complete (p : Packet)
  deriving DecidableEq, Repr

/-- The kind byte, two length bytes, and as many body bytes (R182, R190). -/
def receptionOf (bytes : List Byte) : Reception :=
  match bytes with
  | k :: l0 :: l1 :: body =>
    let len := l0.toNat + 256 * l1.toNat
    if 4096 < len then .tooLong else if len ≤ body.length then .complete ⟨k.toNat, body⟩ else .more
  | _ => .more

/-- One byte of a WRITE is received; bytes after the end of the packet, or of an ignored transaction, change nothing (R182). -/
def writeByte (b : Byte) (s : State) : State :=
  match s.link.transaction with
  | .writing received =>
    let bytes := received ++ [b]
    match receptionOf bytes with
    | .more => s.onLink (fun l => { l with transaction := .writing bytes, stall := some l.timeout })
    | .tooLong => discardWrite .long s
    | .complete p => s.onLink (fun l => { l.endWrite .ignored with buffer := l.buffer ++ [p] })
  | .none => s
  | .unserved => s
  | .begun => s
  | .ignored => s
  | .readMessage _ => s
  | .readDrain _ => s

/-- WRITE: the selector, where the transaction has just begun, and the bytes (R182). -/
def execWrite (bytes : List Byte) (s : State) : Host.Outcome State Fault Refusal :=
  .next (bytes.foldl (fun s b => writeByte b s) (if s.link.transaction = .begun then beginWrite s else s))

/-- READ_MESSAGE: the entry at the head of the queue is fixed, or EMPTY; in a transaction not served, EMPTY (R181, R177). -/
def execReadMessage (s : State) : Host.Outcome State Fault Refusal :=
  .next (
    if s.link.transaction = .begun then
      s.onLink (fun l => { l with transaction := .readMessage (l.queue.head?.map (fun e => (e, true))) })
    else if s.link.transaction = .unserved then s.onLink (fun l => { l with transaction := .readMessage none })
    else s)

/-- READ_DRAIN: the chunk is fixed; in a transaction not served, one of length 0 (R181, R164, R177), with no id, state CLOSED and
the overflow mark clear (DESIGN CHOICE, log 49). -/
def execReadDrain (s : State) : Host.Outcome State Fault Refusal :=
  .next (
    if s.link.transaction = .begun then
      let c := makeChunk s
      s.onLink (fun l => { l with transaction := .readDrain c })
    else if s.link.transaction = .unserved then
      s.onLink (fun l => { l with transaction := .readDrain (emptyChunk none .closed false) })
    else s)

/-- VOID_TRANSACTION (R181). -/
def execVoidTransaction (s : State) : Host.Outcome State Fault Refusal :=
  .next (
    if s.link.transaction = .begun then
      raise (.linkError .selector) (s.onLink (fun l => { l with transaction := .ignored }))
    else s)

/-- The entry a READ-MESSAGE sent has been read out whole (R181, R185). -/
def messageReadOut (e : Entry) (queued : Bool) (s : State) : State :=
  let s := if queued then recount (s.onLink (fun l => { l with queue := l.queue.tail })) else s
  match e with
  | .report _ => s
  | .reply r =>
    match r.state with
    | .status x => statusReadOut x s
    | .none => s
    | .identify _ => s
    | .cache _ => s
    | .keys _ => s
    | .stream _ => s
    | .streamClosed _ => s

/-- What the release of the chip select does to a transaction, which has ended (R181, R182). -/
def releaseEffect (t : Transaction) (whole : Bool) (s : State) : State :=
  match t with
  | .writing _ => raise (.linkError .short) s
  | .readMessage (some (e, queued)) => if whole then messageReadOut e queued s else s
  | .readDrain c => if whole then commitChunk c s else s
  | .readMessage none => s
  | .none => s
  | .unserved => s
  | .begun => s
  | .ignored => s

/-- CHIP_SELECT_RELEASE (R181, R182). -/
def execChipSelectRelease (whole : Bool) (s : State) : Host.Outcome State Fault Refusal :=
  .next (releaseEffect s.link.transaction whole (s.onLink (fun l => l.endWrite .none)))

/-- LINK_STALL_EXPIRE, while the stall timer runs (R182). -/
def execLinkStallExpire (s : State) : Host.Outcome State Fault Refusal :=
  .next (if s.link.stall.isSome then discardWrite .stall s else s)

end Sys2Proof.Machine
end

