-- ==== Sys2Proof/Machine/Pool.lean ====
section
/-! DEFINITION. The commands of chapter 1: PANEL_SETUP (R7, R8) and POOL_SETUP (R9). -/

namespace Sys2Proof.Machine

/-- The geometry changes: none is set, or it differs from the one in force (R7). -/
def geometryChanges (a : PanelArgs) (s : State) : Bool := s.pool.geometry ≠ some a

/-- A geometry of R1. -/
def panelInRange (a : PanelArgs) : Bool :=
  64 ≤ a.width && a.width ≤ 2048 && a.width % 8 = 0 && 64 ≤ a.height && a.height ≤ 1536

/-- What a change of geometry would invalidate: a leaf, a lane that is not FREE, a pending entry or a staging block (R7). -/
def holdsPlaneUsers (s : State) : Bool :=
  !s.cache.leaves.isEmpty || !s.engine.idle || !(s.pool.ownedBy Owner.isStage).isEmpty

/-- Both planes are replaced and filled with level 15, and the uncertain region list becomes WHOLE (R8). The fill takes the planes'
blocks whole, the bytes of each last block that hold no pixel with them (DESIGN CHOICE, log 54). -/
def replacePlanes (a : PanelArgs) (s : State) : State :=
  let s := releaseBlocks (s.pool.ownedBy Owner.isPlane) s
  let p := planeSize (some a)
  let s := s.onPool (fun q => { q with geometry := some a })
  let s := s.onPool (fun q => (q.give (List.range p) (.plane 0)).give (List.range' p p) (.plane 1))
  let s := handPool s
  let s := s.onMem (fun m => m.fill 0 (2 * p * Config.blockBytes) (levelByte 15))
  s.onEngine (fun e => { e with uncertain := [wholePanel a], whole := true })

/-- PANEL_SETUP at its owner (R7). -/
def ownPanelSetup (tag : Nat) (a : PanelArgs) (s : State) : State :=
  if s.link.locked then reply 0x10 tag .locked s
  else if !panelInRange a then reply 0x10 tag .badParam s
  else if geometryChanges a s then
    if holdsPlaneUsers s then reply 0x10 tag .notIdle s else reply 0x10 tag .ok (replacePlanes a s)
  else reply 0x10 tag .ok s

/-- PANEL_SETUP (R7, R8). -/
def execPanelSetup (tag : Nat) (b : Body PanelArgs) (s : State) : Host.Outcome State Fault Refusal :=
  .next (takeCommand (.panelSetup tag b) 0x10 tag b (ownPanelSetup tag) s)

/-- POOL_SETUP at its owner (R9). -/
def ownPoolSetup (tag r : Nat) (s : State) : State :=
  if 256 < r then reply 0x11 tag .badParam s
  else reply 0x11 tag .ok (handPool (s.onPool (fun p => { p with reserve := r })))

/-- POOL_SETUP (R9). -/
def execPoolSetup (tag : Nat) (b : Body Nat) (s : State) : Host.Outcome State Fault Refusal :=
  .next (takeCommand (.poolSetup tag b) 0x11 tag b (ownPoolSetup tag) s)

end Sys2Proof.Machine
end

