-- ==== Sys2Proof/Machine/Power.lean ====
section
/-! DEFINITION. The commands and events of chapter 10 and of self-refresh: DOZE, SLEEP (R171), WAKE_MASK (R169), the standby
delay (R175), and page memory's answers (R15, R178). -/

namespace Sys2Proof.Machine

/-- DOZE at its owner, by state (R171). -/
def ownDoze (tag : Nat) (d : Option Nat) (s : State) : State :=
  let s := s.onPower (fun p => { p with delay := givenOr p.delay (clampNat 1 255) d })
  match s.power.mode with
  | .active => reply 0xA0 tag .ok ((setMode .doze s).onPower PowerState.recheckDoze)
  | .doze => reply 0xA0 tag .ok s
  | .settling => reply 0xA0 tag .state s
  | .standby => reply 0xA0 tag .state s
  | .waking => reply 0xA0 tag .state s

/-- DOZE (R171). -/
def execDoze (tag : Nat) (b : Body (Option Nat)) (s : State) : Host.Outcome State Fault Refusal :=
  .next (takeCommand (.doze tag b) 0xA0 tag b (ownDoze tag) s)

/-- SLEEP: a sleep request with the host-asked mark; its reply follows the notices (R171, R172). -/
def execSleep (tag : Nat) (b : Body Unit) (s : State) : Host.Outcome State Fault Refusal :=
  .next (takeCommand (.sleep tag b) 0xA1 tag b (fun _ s => reply 0xA1 tag .ok (settle true s)) s)

/-- The report kinds in the order of R193, numbered from 1. -/
def allKinds : List ReportKind :=
  [.resetDone, .updateDone, .turnDone, .turnMiss, .turnEdge, .cacheLow, .leafEvicted, .tableDone, .tableBad, .tempOutside,
   .railFault, .lowBattery, .key, .lightLevel] ++
  [.radioError, .streamGap, .streamFull, .streamStarved, .streamStall, .segmentDone, .segmentBad, .streamFailed,
   .streamEnded, .streamStaged, .wake, .radioWake, .packetRefused, .linkError]

/-- The number of a report kind (R193). -/
def kindNumber (k : ReportKind) : Nat := allKinds.idxOf k + 1

/-- WAKE_MASK at its owner: the kinds listed become wake-worthy and the queue is counted afresh (R169). -/
def ownWakeMask (tag : Nat) (ks : List Nat) (s : State) : State :=
  if ks.all (fun k => 1 ≤ k && k ≤ 28) then
    let mask := allKinds.filter (fun k => ks.contains (kindNumber k))
    reply 0xA2 tag .ok (recount (s.onPower (fun p => { p with mask := mask })))
  else reply 0xA2 tag .badParam s

/-- WAKE_MASK (R169). -/
def execWakeMask (tag : Nat) (b : Body (List Nat)) (s : State) : Host.Outcome State Fault Refusal :=
  .next (takeCommand (.wakeMask tag b) 0xA2 tag b (ownWakeMask tag) s)

/-- STANDBY_DELAY_EXPIRE: a sleep request (R175, R172). -/
def execStandbyDelayExpire (s : State) : Host.Outcome State Fault Refusal :=
  .next (if s.power.timer.isSome && s.power.mode = .doze then settle false s else s)

/-- Page memory is in self-refresh; a wake that already waits brings it out (R15, R178; log 29). -/
def PoolState.entered (p : PoolState) : PoolState :=
  match p.refresh with
  | .entering => { p with refresh := .inRefresh }
  | .enteringWakeAsked => { p with refresh := .leaving }
  | .awake => p
  | .inRefresh => p
  | .leaving => p

/-- SELF_REFRESH_ENTERED, once no payload write is in flight (R15). -/
def execSelfRefreshEntered (s : State) : Host.Outcome State Fault Refusal :=
  .next (if s.stream.records.any (fun r => r.flight.isSome) then s else s.onPool PoolState.entered)

/-- LOW_BATTERY is raised if an assertion went unreported during sleep (R76). -/
def reportSleptBattery (s : State) : State :=
  if !s.budget.reported && s.budget.lowbat then reportLowBattery s else s

/-- WAKING completes, in the order of R178. -/
def completeWaking (s : State) : State :=
  let radio := s.power.cause = some .radio && !s.power.linkDuringWake
  let s := setMode (s.power.wakeEnd.getD .active)
    (s.onPower (fun p => { p with wakeEnd := none, linkDuringWake := false }))
  let s := s.onPool (fun p => { p with refresh := .awake })
  let s := s.onRadio (fun r => ((r.setFifo []).startReceiver).rehold)
  let s := handSignals (s.onStream StreamState.release)
  let s := s.onWave WaveState.restart
  let s := reportSleptBattery s
  let s := lightEvent (fun l => l.wake radio) s
  let s := keysAwake s
  engineNotify (s.onPower PowerState.recheckDoze)

/-- WAKING_COMPLETE: the pool answers that page memory is ready (R178; log 29). -/
def execWakingComplete (s : State) : Host.Outcome State Fault Refusal :=
  .next (if s.power.mode = .waking && s.pool.refresh = .leaving then completeWaking s else s)

end Sys2Proof.Machine
end

