-- ==== Sys2Proof/Machine/Radio.lean ====
section
/-! DEFINITION. The command and events of chapter 8: RADIO_SETUP (R146), characters, framing errors and breaks (R135, R136), the
assembler's take (R139), the gap timer (R142) and the break that wakes the part (R147). -/

namespace Sys2Proof.Machine

/-- The port is flushed: FIFO empty, assembler in HUNT (R138, R143, R146). -/
def RadioState.flush (r : RadioState) : RadioState := (r.setFifo []).toHunt

/-- The port's configuration changes (R146). -/
def RadioState.configure (r : RadioState) (a : RadioArgs) : RadioState :=
  let g := clampNat 1 255 a.gap
  let j := { r with enabled := a.enabled, rate := a.rate, gapTime := g, wake := a.wake }
  if !r.enabled then if a.enabled then j.toHunt.startReceiver.rehold else j
  else if !a.enabled then
    { { j.flush with receiver := .stopped, watching := false }.rehold with counts := {}, marks := [] }
  else if r.rate ≠ a.rate then j.flush.startReceiver.rehold
  else j

/-- RADIO_SETUP (R146). -/
def execRadioSetup (tag : Nat) (b : Body RadioArgs) (s : State) : Host.Outcome State Fault Refusal :=
  .next (takeCommand (.radioSetup tag b) 0x80 tag b (fun a s =>
    reply 0x80 tag .ok (s.onRadio (fun r => r.configure a))) s)

/-- RADIO_CHARACTER: a noisy character is counted, and kept as its voted values give it (R135, R138). It is taken whatever the start
bit's samples vote (DESIGN CHOICE, log 56). -/
def execRadioCharacter (start mark : BitSamples) (data : Vector BitSamples 8) (s : State) : Host.Outcome State Fault Refusal :=
  .next (
    if s.receiving then
      let s := s.onRadio (fun r => { r with receiver := .ready })
      placeChar (votedBit mark) (charData data) (if charNoisy start mark data then radioError .noise .noise s else s)
    else s)

/-- RADIO_LINE_RETURN: the character with the low stop bit was a framing error (R136). -/
def execRadioLineReturn (s : State) : Host.Outcome State Fault Refusal :=
  .next (
    if s.receiving then
      placeNote .framing (radioError .framing .framing (s.onRadio (fun r => { r with receiver := .ready })))
    else s)

/-- RADIO_BREAK (R136). -/
def execRadioBreak (s : State) : Host.Outcome State Fault Refusal :=
  .next (
    if s.receiving then
      placeNote .brk (countRadio .brk (s.onRadio (fun r => { r with receiver := .seekHigh, breakHeld := true })))
    else s)

/-- BREAK_END: the line returns high, and a receiver that runs takes start bits again (R135, R136). -/
def execBreakEnd (s : State) : Host.Outcome State Fault Refusal :=
  .next (
    if s.radio.breakHeld then
      s.onRadio (fun r => { r with breakHeld := false, receiver := if r.receiver = .stopped then .stopped else .ready })
    else s)

/-- The entry at the head of the FIFO is taken (R139). -/
def takeEntryAt (e : FifoEntry) (rest : List FifoEntry) (s : State) : State :=
  let s := s.onRadio (fun r => r.setFifo rest)
  match e with
  | .note _ => takeNote s
  | .char mark data => takeChar mark data s

/-- FIFO_TAKE, except while a handover waits (R139). -/
def execFifoTake (s : State) : Host.Outcome State Fault Refusal :=
  .next (
    if s.radio.waiting then s
    else
      match s.radio.fifo with
      | [] => s
      | e :: rest => takeEntryAt e rest s)

/-- GAP_TIMER_EXPIRE (R142). -/
def execGapTimerExpire (s : State) : Host.Outcome State Fault Refusal :=
  .next (if s.radio.gap.isSome then dropFrame .gap .gap s else s)

/-- RADIO_BREAK_WAKE: a break on the watched line (R147, R177). -/
def execRadioBreakWake (s : State) : Host.Outcome State Fault Refusal :=
  .next (
    if s.power.mode = .standby && s.radio.watching then
      beginWaking .radio (countRadio .wake (countRadio .brk
        (s.onRadio (fun r => { r with watching := false, breakHeld := true }))))
    else s)

end Sys2Proof.Machine
end

