-- ==== Sys2Proof/Machine/Rail.lean ====
section
/-! DEFINITION. The commands and events of chapter 4: rail settings and clearing (R72, R73), budget (R79, R76), power-good and
the rail timers (R65, R66, R68 to R70). -/

namespace Sys2Proof.Machine

/-- RAIL_SETUP at its owner (R73). -/
def ownRailSetup (tag : Nat) (a : RailArgs) (s : State) : State :=
  if s.link.locked then reply 0x40 tag .locked s
  else
    reply 0x40 tag .ok (s.onRail (fun r =>
      { r with riseTime := clampNat 1 50 a.rise, fallTime := clampNat 1 50 a.fall, holdTime := clampNat 0 255 a.hold }))

/-- RAIL_SETUP (R73). -/
def execRailSetup (tag : Nat) (b : Body RailArgs) (s : State) : Host.Outcome State Fault Refusal :=
  .next (takeCommand (.railSetup tag b) 0x40 tag b (ownRailSetup tag) s)

/-- RAIL_CLEAR at its owner (R72). -/
def ownRailClear (tag : Nat) (s : State) : State :=
  if s.rail.mode ≠ .fault then reply 0x41 tag .state s
  else if s.rail.powerGood then reply 0x41 tag .busy s
  else
    let s := setRail .off (s.onRail (fun r => { r with cause := none }))
    engineNotify (walk (reply 0x41 tag .ok s))

/-- RAIL_CLEAR (R72). -/
def execRailClear (tag : Nat) (b : Body Unit) (s : State) : Host.Outcome State Fault Refusal :=
  .next (takeCommand (.railClear tag b) 0x41 tag b (fun _ => ownRailClear tag) s)

/-- The budget values in range, B_low not above B (R79). -/
def budgetGood (a : BudgetArgs) : Bool :=
  50 ≤ a.normal && a.normal ≤ 2000 && 50 ≤ a.low && a.low ≤ 2000 && a.base ≤ 255 && 1 ≤ a.coeff && a.coeff ≤ 1000
    && a.low ≤ a.normal

/-- BUDGET_SETUP at its owner (R79). -/
def ownBudgetSetup (tag : Nat) (a : BudgetArgs) (s : State) : State :=
  if s.link.locked then reply 0x42 tag .locked s
  else if !budgetGood a then reply 0x42 tag .badParam s
  else
    reply 0x42 tag .ok
      (rebudget (fun b => { b with normal := a.normal, low := a.low, base := a.base, coeff := a.coeff }) s)

/-- BUDGET_SETUP (R79). -/
def execBudgetSetup (tag : Nat) (b : Body BudgetArgs) (s : State) : Host.Outcome State Fault Refusal :=
  .next (takeCommand (.budgetSetup tag b) 0x42 tag b (ownBudgetSetup tag) s)

/-- POWER_GOOD_ARRIVE: in RISING the rise ends (R65). -/
def execPowerGoodArrive (s : State) : Host.Outcome State Fault Refusal :=
  .next (
    if s.rail.powerGood then s
    else
      let s := s.onRail (fun r => { r with powerGood := true })
      if s.rail.mode = .rising then engineNotify (endRise s) else s)

/-- POWER_GOOD_LOST: in ON and HOLD the rails enter FAULT (R70). -/
def execPowerGoodLost (s : State) : Host.Outcome State Fault Refusal :=
  .next (
    if !s.rail.powerGood then s
    else
      let s := s.onRail (fun r => { r with powerGood := false })
      if s.rail.mode = .on || s.rail.mode = .hold then enterFault .powerLost s else s)

/-- RISE_TIMER_EXPIRE (R66). -/
def execRiseTimerExpire (s : State) : Host.Outcome State Fault Refusal :=
  .next (if s.rail.rise.isSome && s.rail.mode = .rising then enterFault .riseTimeout s else s)

/-- HOLD_TIMER_EXPIRE (R68). -/
def execHoldTimerExpire (s : State) : Host.Outcome State Fault Refusal :=
  .next (if s.rail.hold.isSome && s.rail.mode = .hold then startFall s else s)

/-- FALL_TIMER_EXPIRE (R69). -/
def execFallTimerExpire (s : State) : Host.Outcome State Fault Refusal :=
  .next (if s.rail.fall.isSome && s.rail.mode = .falling then engineNotify (endFall s) else s)

/-- LOWBAT_CHANGE: the effective budget follows, and an assertion is reported or left for the end of WAKING (R76). -/
def execLowbatChange (asserted : Bool) (s : State) : Host.Outcome State Fault Refusal :=
  .next (
    if s.budget.lowbat = asserted then s
    else
      let s := rebudget (fun b => { b with lowbat := asserted }) s
      if !asserted then s.onBudget (fun b => { b with reported := true })
      else if servingMode s.budget.power then reportLowBattery s
      else s.onBudget (fun b => { b with reported := false }))

end Sys2Proof.Machine
end

