-- ==== Sys2Proof/Machine/Stream.lean ====
section
/-! DEFINITION. The commands and events of chapter 9: STREAM_OPEN, SEGMENT_ADD, STREAM_PAUSE, STREAM_RESUME, STREAM_CLOSE,
STREAM_QUERY, DRAIN_SELECT (R152, R153, R162, R164, R165), the payload write (R158) and the stall timer (R161). -/

namespace Sys2Proof.Machine

/-- A stream id (R149). -/
def idInRange (id : Nat) : Bool := 1 ≤ id && id ≤ 254

/-! ### Opening and adding -/

/-- The parameters of STREAM_OPEN (R152). -/
def openGood (a : StreamOpenArgs) : Bool :=
  idInRange a.id && a.sequence ≤ 65535 && a.segments.length ≤ 8 && !a.segments.any faultyDescriptor
    && (match a.segments with
      | [] => true
      | d :: _ => d.count.isSome)

/-- The lowest-numbered CLOSED record (R152). -/
def StreamState.closedRecord (t : StreamState) : Option Nat :=
  (List.range 4).find? (fun r => (recordAt t.records r {}).mode = .closed)

/-- A freshly opened record (R152). -/
def openedRecord (a : StreamOpenArgs) : StreamRecord :=
  a.segments.foldl StreamRecord.addDescriptor
    { id := some a.id, mode := .opened, expected := a.sequence, limit := clampNat 1 1024 a.limit,
      threshold := clampNat 0 1024 a.threshold, thresholdArmed := true, stallTime := clampNat 1 60 a.stall }

/-- A CLOSED record loses an id it kept (R152). -/
def StreamRecord.loseId (r : StreamRecord) (id : Nat) : StreamRecord :=
  if r.mode = .closed && r.id = some id then { r with id := none, closing := none } else r

/-- STREAM_OPEN at its owner (R152). -/
def ownStreamOpen (tag : Nat) (a : StreamOpenArgs) (s : State) : State :=
  if !openGood a then reply 0x90 tag .badParam s
  else if (s.stream.find a.id).isSome then reply 0x90 tag .busy s
  else
    match s.stream.closedRecord with
    | none => reply 0x90 tag .noSpace s
    | some n =>
      let s := s.onStream (fun t => { t with records := t.records.map (fun r => r.loseId a.id) })
      reply 0x90 tag .ok (handSignals (onRecord n (fun _ => openedRecord a) s))

/-- STREAM_OPEN (R152). -/
def execStreamOpen (tag : Nat) (b : Body StreamOpenArgs) (s : State) : Host.Outcome State Fault Refusal :=
  .next (takeCommand (.streamOpen tag b) 0x90 tag b (ownStreamOpen tag) s)

/-- The parameters of SEGMENT_ADD that stand alone (R153). -/
def addGood (a : SegmentAddArgs) : Bool :=
  idInRange a.id && 1 ≤ a.segments.length && a.segments.length ≤ 8 && !a.segments.any faultyDescriptor

/-- A count is left out while nothing can be inherited: neither the record's count nor an earlier descriptor's (R151, R153). -/
def countMissing (inherited : Option Nat) (ds : List DescriptorArgs) : Bool :=
  match ds with
  | [] => false
  | d :: _ => inherited.isNone && d.count.isNone

/-- SEGMENT_ADD for a stream that is there (R153; log 7). -/
def addToStream (tag n : Nat) (a : SegmentAddArgs) (s : State) : State :=
  let r := s.record n
  if countMissing r.inheritedCount a.segments then reply 0x91 tag .badParam s
  else if r.atEnd then reply 0x91 tag .state s
  else if Config.maxSegments < r.segments.length + a.segments.length then reply 0x91 tag .queueFull s
  else reply 0x91 tag .ok (onRecord n (fun r => a.segments.foldl StreamRecord.addDescriptor r) s)

/-- SEGMENT_ADD at its owner (R153). -/
def ownSegmentAdd (tag : Nat) (a : SegmentAddArgs) (s : State) : State :=
  if !addGood a then reply 0x91 tag .badParam s
  else
    match s.stream.find a.id with
    | none => reply 0x91 tag .noSuch s
    | some n => addToStream tag n a s

/-- SEGMENT_ADD (R153). -/
def execSegmentAdd (tag : Nat) (b : Body SegmentAddArgs) (s : State) : Host.Outcome State Fault Refusal :=
  .next (takeCommand (.segmentAdd tag b) 0x91 tag b (ownSegmentAdd tag) s)

/-! ### Pausing and resuming -/

/-- The stream a command names: BAD_PARAM and NO_SUCH are answered here (R162, R164, R165). -/
def withStream (code tag id : Nat) (f : Nat → State → State) (s : State) : State :=
  if !idInRange id then reply code tag .badParam s
  else
    match s.stream.find id with
    | none => reply code tag .noSuch s
    | some n => f n s

/-- STREAM_PAUSE by the stream's state (R162). -/
def pauseByHost (tag n : Nat) (s : State) : State :=
  match (s.record n).mode with
  | .opened => reply 0x92 tag .ok (handSignals (onRecord n (fun r => r.hush .host) s))
  | .running => reply 0x92 tag .ok (handSignals (onRecord n (fun r => r.hush .host) s))
  | .paused =>
    if (s.record n).pause = some .sleep then reply 0x92 tag .state s
    else reply 0x92 tag .ok (handSignals (onRecord n (fun r => { r with pause := some .host }) s))
  | .ended => reply 0x92 tag .state s
  | .failed => reply 0x92 tag .state s
  | .closed => reply 0x92 tag .state s

/-- STREAM_PAUSE (R162). -/
def execStreamPause (tag : Nat) (b : Body Nat) (s : State) : Host.Outcome State Fault Refusal :=
  .next (takeCommand (.streamPause tag b) 0x92 tag b (fun id => withStream 0x92 tag id (pauseByHost tag)) s)

/-- A given sequence becomes the expected one (R162). -/
def StreamRecord.expect (r : StreamRecord) (q : Option Nat) : StreamRecord := { r with expected := q.getD r.expected }

/-- STREAM_RESUME by the stream's state (R162). -/
def resumeByHost (tag : Nat) (q : Option Nat) (n : Nat) (s : State) : State :=
  match (s.record n).mode with
  | .opened =>
    if q.isNone then reply 0x93 tag .state s
    else reply 0x93 tag .ok (handSignals (onRecord n (fun r => r.expect q) s))
  | .running =>
    if q.isNone then reply 0x93 tag .state s
    else reply 0x93 tag .ok (handSignals (onRecord n (fun r => r.expect q) s))
  | .paused =>
    if (s.record n).pause = some .sleep then reply 0x93 tag .state s
    else reply 0x93 tag .ok (handSignals (onRecord n (fun r => (r.expect q).unpause) s))
  | .ended => reply 0x93 tag .state s
  | .failed => reply 0x93 tag .state s
  | .closed => reply 0x93 tag .state s

/-- STREAM_RESUME at its owner (R162). -/
def ownStreamResume (tag : Nat) (a : ResumeArgs) (s : State) : State :=
  if a.sequence.any (fun q => 65535 < q) then reply 0x93 tag .badParam s
  else withStream 0x93 tag a.id (resumeByHost tag a.sequence) s

/-- STREAM_RESUME (R162). -/
def execStreamResume (tag : Nat) (b : Body ResumeArgs) (s : State) : Host.Outcome State Fault Refusal :=
  .next (takeCommand (.streamResume tag b) 0x93 tag b (ownStreamResume tag) s)

/-! ### Closing, query, selection -/

/-- A closed record keeps its id with a closing cause (R165, R167). -/
def StreamRecord.close (r : StreamRecord) (c : ClosingCause) : StreamRecord :=
  if r.mode = .closed then r else { id := r.id, closing := some c }

/-- A stream is closed: its write is stopped, its blocks are released, and an answer owed for the write is given at once
(R165, R158). -/
def closeStream (n : Nat) (s : State) : State :=
  let r := s.record n
  let s := releaseBlocks r.blocks (onRecord n (fun r => r.close .host) s)
  let s := s.onLink (fun l => { l with transaction := forgetRecord l.transaction n })
  let s := handSignals s
  if r.flight.isSome then lateAnswer .taken s else s

/-- STREAM_CLOSE (R165). -/
def execStreamClose (tag : Nat) (b : Body Nat) (s : State) : Host.Outcome State Fault Refusal :=
  .next (takeCommand (.streamClose tag b) 0x94 tag b (fun id =>
    withStream 0x94 tag id (fun n s => reply 0x94 tag .ok (closeStream n s))) s)

/-- One descriptor as STREAM_QUERY gives it (R165). -/
def segmentView (g : Segment) : SegmentView :=
  { ordinal := g.ordinal, count := g.count, state := g.state, accepted := g.accepted, drained := g.drained,
    crc := g.crc, action := g.action }

/-- The state STREAM_QUERY gives of a record that is not CLOSED (R165). -/
def streamView (r : StreamRecord) : StreamView :=
  { mode := r.mode, pause := r.pause, fail := r.fail, expected := r.expected, segments := r.segments.map segmentView,
    blocks := r.blocks.length, tail := r.tail, head := r.head, limit := r.limit, threshold := r.threshold,
    stall := r.stallTime, thresholdArmed := r.thresholdArmed, counters := r.counters, landmarks := r.landmarks,
    landmarkOverflow := r.landmarkOverflow }

/-- The record that has an id, CLOSED ones last (R165). -/
def StreamState.named (t : StreamState) (id : Nat) : Option Nat :=
  (t.find id).orElse (fun _ => (List.range 4).find? (fun r => (recordAt t.records r {}).id = some id))

/-- STREAM_QUERY at its owner (R165). -/
def ownStreamQuery (tag id : Nat) (s : State) : State :=
  if !idInRange id then reply 0x95 tag .badParam s
  else
    match s.stream.named id with
    | none => reply 0x95 tag .noSuch s
    | some n =>
      let r := s.record n
      replyWith 0x95 tag .ok (if r.mode = .closed then .streamClosed r.closing else .stream (streamView r)) s

/-- STREAM_QUERY (R165). -/
def execStreamQuery (tag : Nat) (b : Body Nat) (s : State) : Host.Outcome State Fault Refusal :=
  .next (takeCommand (.streamQuery tag b) 0x95 tag b (ownStreamQuery tag) s)

/-- DRAIN_SELECT (R164). -/
def execDrainSelect (tag : Nat) (b : Body Nat) (s : State) : Host.Outcome State Fault Refusal :=
  .next (takeCommand (.drainSelect tag b) 0x96 tag b (fun id =>
    withStream 0x96 tag id (fun _ s =>
      reply 0x96 tag .ok (s.onLink (fun l => { l with selection := some id })))) s)

/-! ### The payload write and the stall timer -/

/-- The record whose payload is being written. -/
def StreamState.writing (t : StreamState) : Option Nat :=
  (List.range 4).find? (fun r => (recordAt t.records r {}).flight.isSome)

/-- The payload reaches its staging blocks: stream byte position p lies at run offset head + p - drained (R157, R158; log 25). -/
def storePayload (r : StreamRecord) (m : Memory) : Memory :=
  match r.flight with
  | none => m
  | some w => m.writeRun r.blocks (r.head + (w.start - r.counters.drained)) w.payload

/-- PAYLOAD_WRITE_DONE: the bytes are in place, and the port has its answer TAKEN (R158, R143). -/
def execPayloadWriteDone (s : State) : Host.Outcome State Fault Refusal :=
  .next (
    match s.stream.writing with
    | none => s
    | some n =>
      let s := s.onMem (storePayload (s.record n))
      lateAnswer .taken (onRecord n (fun r => { r with flight := none }) s))

/-- STALL_TIMER_EXPIRE, while the record's stall timer runs (R161). -/
def execStallTimerExpire (n : Nat) (s : State) : Host.Outcome State Fault Refusal :=
  .next (
    let r := s.record n
    if r.stall.isSome && r.mode = .running then pauseStream n .stall (.streamStall (r.id.getD 0) r.expected) s else s)

end Sys2Proof.Machine
end

