-- ==== Sys2Proof/Machine/Reset.lean ====
section
/-! DEFINITION. The three resets: ENGINE_RESET (R187), and power-on and pin reset (R188), with each block's part in them. -/

namespace Sys2Proof.Machine

/-! ### Engine reset -/

/-- An entry that is being read out no longer stands in the queue (R181). -/
def unqueued (t : Transaction) : Transaction :=
  match t with
  | .readMessage (some (e, _)) => .readMessage (some (e, false))
  | .readMessage none => t
  | .none => t
  | .unserved => t
  | .begun => t
  | .writing _ => t
  | .ignored => t
  | .readDrain _ => t

/-- The queue is emptied; an entry that is being read out is no longer in it (R181, R187). -/
def emptyQueue (s : State) : State :=
  recount (s.onLink (fun l => { l with queue := [], transaction := unqueued l.transaction }))

/-- The rectangles of the DRIVING lanes that a pin or engine reset adds to the uncertain list (R62), in lane number order: R62
gives them no order (DESIGN CHOICE, log 50; R59 orders only those of a rail fault). -/
def drivingRects (e : EngineState) : List Rect := (e.lanes.toList.filter (fun l => l.state = .driving)).map Lane.rect

/-- One lane is freed by an engine reset; a host lane reports RESET, a turn lane is dropped without notice (R62). -/
def resetLane (n : Nat) (s : State) : State :=
  let l := s.lane n
  if l.state = .free then s
  else
    let s := freeLane false n s
    match l.origin with
    | .host => raise (.updateDone l.tag .reset l.promoted) s
    | .turn => s

/-- One pending entry is removed by an engine reset (R62, R40). -/
def resetEntry (e : PendingEntry) (s : State) : State :=
  let s := unuseSource e.source (unuseSlot e.slot s)
  match e.origin with
  | .host => raise (.updateDone e.tag .reset false) s
  | .turn => s

/-- The update engine's engine reset (R62). -/
def resetEngine (s : State) : State :=
  let drove := drivingRects s.engine
  let entries := s.engine.pending
  let s := eachLane resetLane s
  let s := entries.foldl (fun s e => resetEntry e s) (s.onEngine (fun g => { g with pending := [] }))
  stopScan (drove.foldl (fun s r => addUncertain r s) s)

/-- The page cache's engine reset (R103). -/
def resetCache (s : State) : State :=
  let filling := s.cache.leaves.filter (fun l => l.mode = .filling)
  let s := filling.foldl (fun s l => removeLeaf l s) s
  s.onCache (fun c => { c.showNone with flight := none, deferred := none })

/-- An input at an engine reset: an enabled key is enabled afresh (R118). -/
def KeyInput.engineReset (i : KeyInput) : KeyInput :=
  let i := { i with holdTimer := none, repeatTimer := none, sense := .none }
  if i.config.enabled then i.enable else i

/-- The key unit's engine reset (R118). -/
def resetKeys (k : KeyState) : KeyState := { k with latch := none, inputs := k.inputs.map KeyInput.engineReset }

/-- The radio port's engine reset: flushed, the assembler in HUNT, a waiting handover released (R148). -/
def resetRadio (r : RadioState) : RadioState :=
  let q := r.setFifo []
  { q with fillHold := false }.toHunt.rehold

/-- The stream engine's engine reset: every stream closed, staging released, an owed answer withdrawn, signals off (R167). -/
def resetStreams (s : State) : State :=
  let s := releaseBlocks (s.pool.ownedBy Owner.isStage) s
  let s := s.onStream (fun t => { t with records := t.records.map (fun r => r.close .closedByReset) })
  let s := s.onRadio (fun r => { r with released := false })
  let s := s.onLink (fun l => { l with transaction := (List.range 4).foldl forgetRecord l.transaction })
  handSignals s

/-- ENGINE_RESET at its owner: the queue is emptied, the reply queued, and every block takes its reset (R187; the order of the
blocks is log 36). -/
def resetAll (tag : Nat) (s : State) : State :=
  let s := reply 0xB4 tag .ok (emptyQueue s)
  let s := resetEngine (abandonLoad s)
  let s := resetCache s
  let s := (s.onKeys resetKeys).onRadio resetRadio
  engineNotify (resetStreams s)

/-- ENGINE_RESET: a well-formed one needs no reserved place; a faulty one is answered like any command (R187, R191). -/
def execEngineReset (tag : Nat) (b : Body Unit) (s : State) : Host.Outcome State Fault Refusal :=
  .next (
    match b with
    | .fields _ => takePacket (.engineReset tag b) (resetAll tag) s
    | .badLength => takeCommand (.engineReset tag b) 0xB4 tag b (fun _ => resetAll tag) s
    | .badParam => takeCommand (.engineReset tag b) 0xB4 tag b (fun _ => resetAll tag) s)

/-! ### Power-on and pin reset -/

/-- The transaction after a power-on or pin reset: one in progress is ignored until its release (R188). -/
def abandonedTransaction (t : Transaction) : Transaction := if t = .none then .none else .ignored

/-- Every block at its power-on values, with the input levels sampled, and the queue of waiting rows kept (R16, R35, R62, R74,
R80, R103, R118, R133, R148, R167, R179, R188). -/
def freshState (inputs : InputLevels) (s : State) : State :=
  let b : BudgetState := { lowbat := inputs.lowbat }
  { State.reset with
    pending := s.pending
    rail := { powerGood := inputs.powerGood }
    budget := b.recompute
    light := { allowance := b.recompute.allowance }
    keys := { inputs := Vector.ofFn (fun k => { raw := inputs.keys[k] }) }
    link := { transaction := abandonedTransaction s.link.transaction } }

/-- RESET_DONE, followed by LOW_BATTERY where LOWBAT is asserted (R188, R76). -/
def announceReset (k : ResetKind) (s : State) : State :=
  let s := raise (.resetDone k) s
  if s.budget.lowbat then reportLowBattery s else s

/-- POWER_ON_RESET (R188). The contents of page memory are lost (log 5). -/
def execPowerOnReset (inputs : InputLevels) (s : State) : Host.Outcome State Fault Refusal :=
  .next (announceReset .powerOn (freshState inputs s))

/-- The pool after a pin reset: geometry and planes kept, leaves and staging released (R16). -/
def pinPool (p : PoolState) : PoolState :=
  { p.release (p.ownedBy (fun o => !o.isPlane)) with reserve := 32, refresh := .awake }

/-- PIN_RESET: as power-on, but geometry, planes and the uncertain region list are kept, and the rectangles of DRIVING lanes join
the list (R188, R16, R62). -/
def execPinReset (inputs : InputLevels) (s : State) : Host.Outcome State Fault Refusal :=
  .next (
    let t := freshState inputs s
    let t := handPool ((t.onPool (fun _ => pinPool s.pool)).onMem (fun _ => s.mem))
    let t := t.onEngine (fun e => { e with uncertain := s.engine.uncertain, whole := s.engine.whole })
    announceReset .pin ((drivingRects s.engine).foldl (fun t r => addUncertain r t) t))

end Sys2Proof.Machine
end

