-- ==== Sys2Proof/Machine/Wave.lean ====
section
/-! DEFINITION. The commands and events of chapter 2: loading a table (R20 to R25) and the panel temperature (R28, R34). -/

namespace Sys2Proof.Machine

/-- Numbers in strictly ascending order. -/
def ascending : List Int → Bool
  | [] => true
  | [_] => true
  | a :: b :: r => a < b && ascending (b :: r)

/-- A bound in the range of a temperature (R20). -/
def boundInRange (t : Int) : Bool := -400 ≤ t && t ≤ 850

/-- A header WAVE_LOAD admits, in its last check (R20). -/
def headerGood (a : WaveLoadArgs) : Bool :=
  1 ≤ a.bandCount && a.bandCount ≤ 8 && a.uppers.length = a.bandCount && a.frames.length = a.bandCount
    && a.frames.all (fun f => 1 ≤ f && f ≤ 255) && boundInRange a.lower && a.uppers.all boundInRange
    && ascending a.uppers && a.lower ≤ a.uppers.headD 0 && a.partner.all (fun p => p ≤ 5 && p ≠ a.slot)

/-- A load is opened (R21). -/
def openLoad (a : WaveLoadArgs) (s : State) : State :=
  (onSlot a.slot (fun x =>
    { x with
      state := .loading, kind := a.kind, partner := a.partner, lower := a.lower, uppers := a.uppers,
      frames := a.frames, band := none, outside := false }) s).onWave
    (fun w => { w with load := some ⟨a.slot, 64 * a.frames.sum, 0, false⟩ })

/-- WAVE_LOAD at its owner (R20). -/
def ownWaveLoad (tag : Nat) (a : WaveLoadArgs) (s : State) : State :=
  let s := abandonLoad s
  if 5 < a.slot then reply 0x20 tag .badParam s
  else if 0 < (s.slot a.slot).useCount then reply 0x20 tag .slotBusy s
  else if !headerGood a then reply 0x20 tag .badParam s
  else reply 0x20 tag .accepted (openLoad a s)

/-- WAVE_LOAD (R20, R21). -/
def execWaveLoad (tag : Nat) (b : Body WaveLoadArgs) (s : State) : Host.Outcome State Fault Refusal :=
  .next (takeCommand (.waveLoad tag b) 0x20 tag b (ownWaveLoad tag) s)

/-- WAVE_ABORT (R24). -/
def execWaveAbort (tag : Nat) (b : Body Unit) (s : State) : Host.Outcome State Fault Refusal :=
  .next (takeCommand (.waveAbort tag b) 0x21 tag b (fun _ s =>
    match s.wave.load with
    | none => reply 0x21 tag .state s
    | some _ => reply 0x21 tag .ok (abandonLoad s)) s)

/-- A slot gives up its table; a load of it is abandoned (R25). -/
def dropSlot (n : Nat) (s : State) : State :=
  match (s.slot n).state with
  | .loading => abandonLoad s
  | .valid => onSlot n (fun _ => {}) s
  | .empty => s

/-- WAVE_DROP at its owner (R25). -/
def ownWaveDrop (tag n : Nat) (s : State) : State :=
  if 5 < n then reply 0x22 tag .badParam s
  else if 0 < (s.slot n).useCount then reply 0x22 tag .slotBusy s
  else reply 0x22 tag .ok (dropSlot n s)

/-- WAVE_DROP (R25). -/
def execWaveDrop (tag : Nat) (b : Body Nat) (s : State) : Host.Outcome State Fault Refusal :=
  .next (takeCommand (.waveDrop tag b) 0x22 tag b (ownWaveDrop tag) s)

/-- The sample timer after TEMP_SETUP: reloaded, unless the restart's reading is still due (R34). -/
def reloadTimer (t : SampleTimer) (period : Nat) : SampleTimer :=
  match t with
  | .stopped => .stopped
  | .running _ => .running period
  | .due => .due

/-- TEMP_SETUP at its owner (R34). -/
def ownTempSetup (tag : Nat) (a : TempArgs) (s : State) : State :=
  let p := clampNat 1 60 a.period
  reply 0x23 tag .ok
    (s.onWave (fun w => { w with period := p, hyst := clampNat 0 50 a.hyst, timer := reloadTimer w.timer p }))

/-- TEMP_SETUP (R34). -/
def execTempSetup (tag : Nat) (b : Body TempArgs) (s : State) : Host.Outcome State Fault Refusal :=
  .next (takeCommand (.tempSetup tag b) 0x23 tag b (ownTempSetup tag) s)

/-- A body byte holds a code that is no drive code (R22, R26). -/
def badCode (b : Byte) : Bool := [0, 1, 2, 3].any (fun p => codeBits b p = 3)

/-- A load whose received count has reached its expected length is judged (R23). -/
def completeLoad (l : Load) (s : State) : State :=
  let s := s.onWave (fun w => { w with load := none })
  if l.invalid then raise (.tableBad l.slot) (onSlot l.slot (fun _ => {}) s)
  else raise (.tableDone l.slot) (onSlot l.slot (fun x => { x with state := .valid }) s)

/-- A TABLE packet at the waveform unit (R22). -/
def ownTable (body : List Byte) (s : State) : State :=
  match s.wave.load with
  | none => raise (.packetRefused 3 .state) s
  | some l =>
    if l.expected < l.received + body.length then raise (.packetRefused 3 .badLength) s
    else
      let s := s.onMem (fun m => m.splice (bodyBase l.slot + l.received) body)
      let l := { l with received := l.received + body.length, invalid := l.invalid || body.any badCode }
      if l.received = l.expected then completeLoad l s else s.onWave (fun w => { w with load := some l })

/-- TABLE (R22, R23). -/
def execTable (body : List Byte) (s : State) : Host.Outcome State Fault Refusal :=
  .next (takePacket (.table body) (ownTable body) s)

/-- TEMP_SAMPLE: the sample timer, running or due, expires (R28 to R33). -/
def execTempSample (reading : Int) (s : State) : Host.Outcome State Fault Refusal :=
  .next (if s.wave.timer = .stopped then s else engineNotify (answerHeld (takeReading reading s)))

end Sys2Proof.Machine
end

