-- ==== Sys2Proof/Machine/Dispatch.lean ====
section
/-! DEFINITION. The effect of each row of spec/opcode_table.json on everything but the queue: one arm per constructor. -/

namespace Sys2Proof.Machine

def exec (i : Instr) (s : State) : Host.Outcome State Fault Refusal :=
  match i with
  | .panelSetup tag b => Sys2Proof.Machine.execPanelSetup tag b s
  | .poolSetup tag b => Sys2Proof.Machine.execPoolSetup tag b s
  | .waveLoad tag b => Sys2Proof.Machine.execWaveLoad tag b s
  | .waveAbort tag b => Sys2Proof.Machine.execWaveAbort tag b s
  | .waveDrop tag b => Sys2Proof.Machine.execWaveDrop tag b s
  | .tempSetup tag b => Sys2Proof.Machine.execTempSetup tag b s
  | .update tag b => Sys2Proof.Machine.execUpdate tag b s
  | .updateCancel tag b => Sys2Proof.Machine.execUpdateCancel tag b s
  | .scanSetup tag b => Sys2Proof.Machine.execScanSetup tag b s
  | .railSetup tag b => Sys2Proof.Machine.execRailSetup tag b s
  | .railClear tag b => Sys2Proof.Machine.execRailClear tag b s
  | .budgetSetup tag b => Sys2Proof.Machine.execBudgetSetup tag b s
  | .leafFill tag b => Sys2Proof.Machine.execLeafFill tag b s
  | .leafClose tag b => Sys2Proof.Machine.execLeafClose tag b s
  | .leafDrop tag b => Sys2Proof.Machine.execLeafDrop tag b s
  | .showLeaf tag b => Sys2Proof.Machine.execShowLeaf tag b s
  | .showLeafDeclare tag a => Sys2Proof.Machine.execShowLeafDeclare tag a s
  | .cacheSetup tag b => Sys2Proof.Machine.execCacheSetup tag b s
  | .cacheQuery tag b => Sys2Proof.Machine.execCacheQuery tag b s
  | .keySetup tag b => Sys2Proof.Machine.execKeySetup tag b s
  | .keyQuery tag b => Sys2Proof.Machine.execKeyQuery tag b s
  | .lightCurve tag b => Sys2Proof.Machine.execLightCurve tag b s
  | .lightSet tag b => Sys2Proof.Machine.execLightSet tag b s
  | .lightSetup tag b => Sys2Proof.Machine.execLightSetup tag b s
  | .radioSetup tag b => Sys2Proof.Machine.execRadioSetup tag b s
  | .streamOpen tag b => Sys2Proof.Machine.execStreamOpen tag b s
  | .segmentAdd tag b => Sys2Proof.Machine.execSegmentAdd tag b s
  | .streamPause tag b => Sys2Proof.Machine.execStreamPause tag b s
  | .streamResume tag b => Sys2Proof.Machine.execStreamResume tag b s
  | .streamClose tag b => Sys2Proof.Machine.execStreamClose tag b s
  | .streamQuery tag b => Sys2Proof.Machine.execStreamQuery tag b s
  | .drainSelect tag b => Sys2Proof.Machine.execDrainSelect tag b s
  | .doze tag b => Sys2Proof.Machine.execDoze tag b s
  | .sleep tag b => Sys2Proof.Machine.execSleep tag b s
  | .wakeMask tag b => Sys2Proof.Machine.execWakeMask tag b s
  | .status tag b => Sys2Proof.Machine.execStatus tag b s
  | .identify tag b => Sys2Proof.Machine.execIdentify tag b s
  | .linkSetup tag b => Sys2Proof.Machine.execLinkSetup tag b s
  | .setupEnd tag b => Sys2Proof.Machine.execSetupEnd tag b s
  | .engineReset tag b => Sys2Proof.Machine.execEngineReset tag b s
  | .unknownCommand b => Sys2Proof.Machine.execUnknownCommand b s
  | .tileTarget b => Sys2Proof.Machine.execTileTarget b s
  | .tileLeaf leaf rect pixels => Sys2Proof.Machine.execTileLeaf leaf rect pixels s
  | .table body => Sys2Proof.Machine.execTable body s
  | .unknownPacketKind kind => Sys2Proof.Machine.execUnknownPacketKind kind s
  | .chipSelectAssert => Sys2Proof.Machine.execChipSelectAssert s
  | .write bytes => Sys2Proof.Machine.execWrite bytes s
  | .readMessage => Sys2Proof.Machine.execReadMessage s
  | .readDrain => Sys2Proof.Machine.execReadDrain s
  | .voidTransaction => Sys2Proof.Machine.execVoidTransaction s
  | .chipSelectRelease whole => Sys2Proof.Machine.execChipSelectRelease whole s
  | .linkStallExpire => Sys2Proof.Machine.execLinkStallExpire s
  | .radioCharacter start mark data => Sys2Proof.Machine.execRadioCharacter start mark data s
  | .radioLineReturn => Sys2Proof.Machine.execRadioLineReturn s
  | .radioBreak => Sys2Proof.Machine.execRadioBreak s
  | .fifoTake => Sys2Proof.Machine.execFifoTake s
  | .gapTimerExpire => Sys2Proof.Machine.execGapTimerExpire s
  | .radioBreakWake => Sys2Proof.Machine.execRadioBreakWake s
  | .payloadWriteDone => Sys2Proof.Machine.execPayloadWriteDone s
  | .stallTimerExpire record => Sys2Proof.Machine.execStallTimerExpire record s
  | .tempSample reading => Sys2Proof.Machine.execTempSample reading s
  | .preparingEnd lane => Sys2Proof.Machine.execPreparingEnd lane s
  | .frameEvent => Sys2Proof.Machine.execFrameEvent s
  | .powerGoodArrive => Sys2Proof.Machine.execPowerGoodArrive s
  | .powerGoodLost => Sys2Proof.Machine.execPowerGoodLost s
  | .riseTimerExpire => Sys2Proof.Machine.execRiseTimerExpire s
  | .holdTimerExpire => Sys2Proof.Machine.execHoldTimerExpire s
  | .fallTimerExpire => Sys2Proof.Machine.execFallTimerExpire s
  | .lowbatChange asserted => Sys2Proof.Machine.execLowbatChange asserted s
  | .keyInputChange key level => Sys2Proof.Machine.execKeyInputChange key level s
  | .debounceExpire key => Sys2Proof.Machine.execDebounceExpire key s
  | .keyHoldExpire key => Sys2Proof.Machine.execKeyHoldExpire key s
  | .keyRepeatExpire key => Sys2Proof.Machine.execKeyRepeatExpire key s
  | .rampStep => Sys2Proof.Machine.execRampStep s
  | .dwellExpire => Sys2Proof.Machine.execDwellExpire s
  | .standbyDelayExpire => Sys2Proof.Machine.execStandbyDelayExpire s
  | .selfRefreshEntered => Sys2Proof.Machine.execSelfRefreshEntered s
  | .wakingComplete => Sys2Proof.Machine.execWakingComplete s
  | .powerOnReset inputs => Sys2Proof.Machine.execPowerOnReset inputs s
  | .pinReset inputs => Sys2Proof.Machine.execPinReset inputs s
  | .breakEnd => Sys2Proof.Machine.execBreakEnd s

end Sys2Proof.Machine
end

