-- ==== Sys2Proof/Machine/Step.lean ====
section
/-! DEFINITION. One step: the row at the front of the queue runs; with an empty queue the part takes its oldest packet, or else
a millisecond passes (DESIGN CHOICE, log 2). -/

namespace Sys2Proof.Machine

/-- What the part does with no row waiting (log 2). -/
def idleStep (s : State) : Host.Outcome State Fault Refusal :=
  match nextPacket s with
  | some i => exec i s
  | none => .next (tickMillisecond s)

/-- One step of the part. -/
def step (s : State) : Host.Outcome State Fault Refusal :=
  match s.pending with
  | [] => idleStep s
  | i :: rest => exec i { s with pending := rest }

/-- The state with the command a table word spells put at the front of its queue; no row gives bits, so none is (log 1). -/
def State.withFetchWord (s : State) (nbits w : Nat) : State :=
  match Sys2Proof.decodeTableWord nbits w with
  | some i => { s with pending := i :: s.pending }
  | none => s

end Sys2Proof.Machine
end

