-- ==== Sys2Proof/Machine/Wire.lean ====
section
/-! DEFINITION. The bytes the part sends on the host link (R189, R193): queue entries, with the state fields of every reply in the
order of the owning rules, and drain chunks. Widths that R189 does not list are DEDUCED (log 9); a presence byte of more
than eight fields and a number without a range are free values (log 8). -/

namespace Sys2Proof.Machine

/-- A number in `n` bytes, least significant first (R189). -/
def leBytes : Nat → Nat → List Byte
  | 0, _ => []
  | n + 1, v => BitVec.ofNat 8 v :: leBytes n (v / 256)

/-- A temperature in two bytes of two's complement (R189). -/
def tempBytes (t : Int) : List Byte := leBytes 2 ((t + 65536) % 65536).toNat

/-- Yes and No (R189), and, sent alike, a mark or flag that is set or clear (DEDUCED, log 9). -/
def flagByte (b : Bool) : List Byte := leBytes 1 (if b then 1 else 0)

/-- An enumerated value, numbered from 0 in the order of the list (R189). -/
def enumByte {α : Type} [DecidableEq α] (order : List α) (v : α) : List Byte := leBytes 1 (order.idxOf v)

/-- A value of two that its rule lists with the asserted or the on one first: that one is 0, the other 1 (R189). -/
def listedByte (b : Bool) : List Byte := enumByte [true, false] b

/-- A direction: 0x01 for +1, 0xFF for -1 (R189). -/
def dirByte (d : TurnDir) : List Byte :=
  match d with
  | .next => [0x01]
  | .prev => [0xFF]

/-- The number of a status, in the order of section 11.3 (R193). -/
def statusNumber (st : Status) : Nat :=
  [Status.ok, .accepted, .badParam, .badLength, .unknown, .locked, .busy, .notIdle, .queueFull, .noSpace, .slotInvalid,
   .slotBusy, .regionBusy, .noSuch, .railFault, .state].idxOf st

/-- The number of an update's outcome, in the order of R38. -/
def outcomeNumber (o : UpdateOutcome) : Nat :=
  [UpdateOutcome.done, .cancelled, .railFault, .uncertain, .reset].idxOf o

/-- The number of a TURN_MISS cause (R189). -/
def missNumber (c : MissCause) : Nat :=
  [MissCause.sleep, .noCurrent, .absent, .filling, .slot, .rail, .queue, .uncertain].idxOf c

/-- The number of a LINK_ERROR cause (R189). -/
def linkErrorNumber (c : LinkErrorCause) : Nat :=
  [LinkErrorCause.selector, .overflow, .long, .short, .stall].idxOf c

/-- The number of a RADIO_ERROR kind, in the order of R144. -/
def radioErrorNumber (k : RadioErrorKind) : Nat :=
  [RadioErrorKind.framing, .noise, .overrun, .truncated, .gap, .header, .crc].idxOf k

/-- The number of a rail state, in the order of R63. -/
def railNumber (m : RailMode) : Nat := [RailMode.off, .rising, .on, .hold, .falling, .fault].idxOf m

/-- The number of a fault cause; none is 0 (R63). -/
def faultNumber (c : FaultCause) : Nat :=
  match c with
  | .riseTimeout => 1
  | .powerLost => 2

/-- The number of a key event's kind (R108, R109). -/
def keyEventNumber (e : KeyEvent) : Nat := [KeyEvent.press, .release, .again].idxOf e

/-- The number of a stream state, in the order of R149 (R193). -/
def streamModeNumber (m : StreamMode) : Nat :=
  [StreamMode.closed, .opened, .running, .paused, .ended, .failed].idxOf m

/-- The bytes of a wake cause: KEY, COVER, RADIO, LINK (R168); a key's number follows. -/
def wakeBytes (c : WakeCause) : List Byte :=
  match c with
  | .key k => leBytes 1 0 ++ leBytes 1 k
  | .cover k => leBytes 1 1 ++ leBytes 1 k
  | .radio => leBytes 1 2
  | .link => leBytes 1 3

/-- A slot that may be unset: 0xFF is unset (R189). -/
def slotByte (s : Option Nat) : List Byte := leBytes 1 (s.getD 255)

/-! ### Fields, some of them optional -/

/-- Fields one after another: which of the optional ones are there, in order, and the bytes of those that are there (R189). -/
structure Fields where
  present : List Bool
  bytes : List Byte
  deriving DecidableEq, Repr

/-- A field that is always there. -/
def must (bs : List Byte) : Fields := ⟨[], bs⟩

/-- An optional field; absent it takes no bytes (R189). -/
def may (o : Option (List Byte)) : Fields := ⟨[o.isSome], o.getD []⟩

/-- Fields in order. -/
def Fields.join (fs : List Fields) : Fields := ⟨fs.flatMap Fields.present, fs.flatMap Fields.bytes⟩

/-- A presence byte: bit i is set where the i-th optional field is there (R189; log 8). -/
def presenceByte (present : List Bool) : List Byte :=
  if present.length ≤ 8 then leBytes 1 (bitsOf present) else Config.widePresence present

/-- The presence byte, then the fields (R189, R193). -/
def Fields.contents (f : Fields) : List Byte := presenceByte f.present ++ f.bytes

/-- A list: one count byte, then the items (R189). -/
def countedBytes (items : List (List Byte)) : List Byte := leBytes 1 items.length ++ items.flatten

/-! ### Reports -/

/-- The PROMOTED mark of a report, left out where it is not set (R38, R95, R193; log 9). -/
def promotedField (p : Bool) : Fields := may (if p then some (flagByte true) else none)

/-- The contents of a report, in the order its name lists them (R193). -/
def reportFields (r : Report) : List Fields :=
  match r with
  | .resetDone k => [must (enumByte [.powerOn, .pin] k)]
  | .updateDone tag o p => [must (leBytes 1 tag), must (leBytes 1 (outcomeNumber o)), promotedField p]
  | .turnDone n d k p =>
    [must (leBytes 3 n), must (dirByte d), must (enumByte [.full, .partialTurn] k), promotedField p]
  | .turnMiss d n c => [must (dirByte d), may (n.map (leBytes 3)), must (leBytes 1 (missNumber c))]
  | .turnEdge n d => [must (leBytes 3 n), must (dirByte d)]
  | .cacheLow n d k => [must (leBytes 3 n), must (dirByte d), must (leBytes 1 k)]
  | .leafEvicted n => [must (leBytes 3 n)]
  | .tableDone n => [must (leBytes 1 n)]
  | .tableBad n => [must (leBytes 1 n)]
  | .tempOutside n e t => [must (leBytes 1 n), must (enumByte [.low, .high] e), must (tempBytes t)]
  | .railFault c m => [must (leBytes 1 (faultNumber c)), must (leBytes 1 (railNumber m))]
  | .lowBattery => []
  | .key k e t => [must (leBytes 1 k), must (leBytes 1 (keyEventNumber e)), must (leBytes 2 t)]
  | .lightLevel l w => [must (leBytes 1 l), must (leBytes 1 w)]
  | .radioError k => [must (leBytes 1 (radioErrorNumber k))]
  | .streamGap id e r => [must (leBytes 1 id), must (leBytes 2 e), must (leBytes 2 r)]
  | .streamFull id c => [must (leBytes 1 id), must (enumByte [.limit, .pool] c)]
  | .streamStarved id n r => [must (leBytes 1 id), must (leBytes 2 n), must (leBytes 2 r)]
  | .streamStall id e => [must (leBytes 1 id), must (leBytes 2 e)]
  | .segmentDone id o n c => [must (leBytes 1 id), must (leBytes 4 o), must (leBytes 4 n), must (leBytes 4 c.toNat)]
  | .segmentBad id o e c => [must (leBytes 1 id), must (leBytes 4 o), must (leBytes 4 e.toNat), must (leBytes 4 c.toNat)]
  | .streamFailed id c => [must (leBytes 1 id), must (enumByte [.crc, .overrun] c)]
  | .streamEnded id o => [must (leBytes 1 id), must (leBytes 4 o)]
  | .streamStaged id b n => [must (leBytes 1 id), must (leBytes 2 b), must (leBytes 8 n)]
  | .wake c => [must (wakeBytes c)]
  | .radioWake => []
  | .packetRefused k st => [must (leBytes 1 k), must (leBytes 1 (statusNumber st))]
  | .linkError c => [must (leBytes 1 (linkErrorNumber c))]

/-! ### The state fields of replies -/

/-- The pool's contribution: free count, reserve, plane size, and the blocks under FREE, PLANE, WAVE, LEAF and STAGE (R2). -/
def poolFields (p : PoolStatus) : List Fields :=
  [p.free, p.reserve, p.planeSize, p.free, p.planeBlocks, p.waveBlocks, p.leafBlocks, p.stageBlocks].map
    (fun n => must (leBytes 2 n))

/-- The waveform unit's contribution (R17); a load's two byte counts take the 8 bytes of a byte counter (R189). -/
def waveFields (w : WaveStatus) : List Fields :=
  w.slots.flatMap (fun x => [must (enumByte [.empty, .loading, .valid] x.1), may (x.2.map (leBytes 1))]) ++
  [must (slotByte w.openSlot), may (w.loadCounts.map (fun c => leBytes 8 c.1 ++ leBytes 8 c.2)),
   must (tempBytes w.lastRaw), may (w.filtered.map tempBytes), must (leBytes 1 w.samples), must (flagByte w.saturated)]

/-- A rectangle: x, y, w, h (R189). -/
def rectBytes (r : Rect) : List Byte := leBytes 2 r.x ++ leBytes 2 r.y ++ leBytes 2 r.w ++ leBytes 2 r.h

/-- The update engine's contribution (R36). -/
def engineFields (e : EngineStatus) : List Fields :=
  e.lanes.flatMap (fun l =>
    [must (enumByte [.free, .preparing, .armed, .driving] l.1),
     may (l.2.map (fun x => leBytes 1 x.1 ++ enumByte [.host, .turn] x.2))]) ++
  [must (leBytes 1 e.pending), must (countedBytes (e.uncertain.map rectBytes)), must (flagByte e.whole),
   must (leBytes 2 e.framePeriod), must (flagByte e.scanning), must (leBytes 4 e.load)]

/-- The rail controller's contribution (R63). Power-good is sent 1 where it is present (DESIGN CHOICE, log 51). -/
def railFields (r : RailStatus) : List Fields :=
  [must (leBytes 1 (railNumber r.mode)), must (leBytes 1 ((r.cause.map faultNumber).getD 0)), must (flagByte r.powerGood),
   must (leBytes 1 r.armed), must (leBytes 2 r.rise), must (leBytes 2 r.fall), must (leBytes 1 r.hold)]

/-- The budget unit's contribution (R75). LOWBAT is sent 1 where it is asserted (DESIGN CHOICE, log 51). -/
def budgetFields (b : BudgetStatus) : List Fields :=
  [must (leBytes 2 b.normal), must (leBytes 2 b.low), must (leBytes 2 b.base), must (leBytes 2 b.coeff),
   must (flagByte b.lowbat), must (leBytes 2 b.effective), must (leBytes 4 b.load), must (leBytes 2 b.panel),
   must (leBytes 2 b.allowance), must (flagByte b.budgetOver)]

/-- The page cache's contribution (R81). -/
def cacheFields (c : CacheStatus) : List Fields :=
  [must (leBytes 1 c.leaves), may (c.current.map (leBytes 3)), may (c.anchor.map (leBytes 3)), must (flagByte c.turning),
   must (leBytes 1 c.counter)]

/-- A debounced level (R105). -/
def debouncedByte (d : Debounced) : List Byte := enumByte [.active, .inactive, .unknown] d

/-- The key unit's contribution (R105). -/
def keyFields (k : KeyStatus) : List Fields :=
  k.inputs.flatMap (fun i => [must (debouncedByte i.1), must (flagByte i.2)]) ++ [must (leBytes 2 k.timestamp)]

/-- The light unit's contribution (R119). -/
def lightFields (l : LightStatus) : List Fields :=
  [must (leBytes 1 l.setLevel), must (leBytes 1 l.warmth), must (leBytes 1 l.level), must (leBytes 1 l.target),
   must (flagByte l.dimmed), must (flagByte l.dark), must (flagByte l.hold), must (leBytes 2 l.allowance),
   must (leBytes 2 l.warmOut), must (leBytes 2 l.coolOut), must (flagByte l.limited)]

/-- The thirteen counts, in the order of R144. -/
def countFields (c : RadioCounts) : List Fields :=
  [c.framing, c.noise, c.overrun, c.brk, c.truncated, c.gap, c.header, c.crc, c.broken, c.frames, c.orphan, c.holdOn,
   c.wake].map (fun n => must (leBytes 2 n))

/-- The radio port's contribution (R134). HOLD is listed asserted, released (R134), so 0 is asserted (R189).
Which of the conditions of R145 hold is sent as five marks of one byte each, in the order of R145 (DESIGN CHOICE, log 52). -/
def radioFields (r : RadioStatus) : List Fields :=
  [must (flagByte r.enabled), must (enumByte [.b115200, .b460800, .b921600, .b1843200, .b3000000] r.rate),
   must (leBytes 2 r.gap), must (flagByte r.wake), must (enumByte [.hunt, .header, .payload, .check] r.asm),
   must (leBytes 1 r.fill), must (listedByte r.hold)] ++
  r.conditions.map (fun c => must (flagByte c)) ++ countFields r.counts

/-- A pause cause (R149). -/
def pauseByte (c : PauseCause) : List Byte := enumByte [.gap, .full, .starved, .stall, .host, .sleep] c

/-- A fail cause (R149). -/
def failByte (c : FailCause) : List Byte := enumByte [.crc, .overrun] c

/-- The stream engine's contribution (R149). The running signal is listed on or off (R168), so 0 is on (R189); the
headroom signal is sent the same way (DESIGN CHOICE, log 51). -/
def streamFields (t : StreamStatus) : List Fields :=
  t.records.flatMap (fun r =>
    [may (r.id.map (leBytes 1)), must (leBytes 1 (streamModeNumber r.mode)), may (r.pause.map pauseByte),
     may (r.fail.map failByte), must (leBytes 2 r.blocks), must (leBytes 8 r.staged)]) ++
  [must (listedByte t.headroom), must (listedByte t.running)]

/-- The power controller's contribution (R168). The wake mask is sent as a counted list of the numbers of the kinds whose mark is set,
in the order of R193 (DESIGN CHOICE, log 53). The running signal is listed on or off (R168), so 0 is on (R189). -/
def powerFields (p : PowerStatus) : List Fields :=
  [must (enumByte [.active, .doze, .settling, .standby, .waking] p.mode), may (p.lastCause.map wakeBytes),
   must (leBytes 1 p.delay), must (flagByte p.timerRuns), must (flagByte p.engineIdle), must (flagByte p.railsOff),
   must (flagByte p.lightDark), must (listedByte p.running), must (leBytes 1 p.wakeCount),
   must (countedBytes (p.mask.map (fun k => leBytes 1 (kindNumber k))))]

/-- The host link unit's contribution (R180). -/
def linkFields (l : LinkStatus) : List Fields :=
  [must (leBytes 1 l.packets), must (leBytes 1 l.entries), must (leBytes 1 l.reports), must (flagByte l.overflow),
   must (flagByte l.locked), must (leBytes 2 l.timeout), may (l.selection.map (leBytes 1))]

/-- The contributions of the blocks in chapter order, each in the order its rule lists it (R193). -/
def statusFields (r : StatusReply) : List Fields :=
  poolFields r.pool ++ waveFields r.wave ++ engineFields r.engine ++ railFields r.rail ++ budgetFields r.budget ++
  cacheFields r.cache ++ keyFields r.keys ++ lightFields r.light ++ radioFields r.radio ++ streamFields r.stream ++
  powerFields r.power ++ linkFields r.link

/-- IDENTIFY: part code, revision, block count, lock (R185). -/
def identifyFields (r : IdentifyReply) : List Fields :=
  [must (leBytes 2 r.partCode), must (leBytes 1 r.revision), must (leBytes 2 r.blocks), must (flagByte r.locked)]

/-- One leaf record, with its own presence byte as an item of a list (R101; log 9). -/
def leafItem (l : LeafView) : List Byte :=
  (Fields.join [must (leBytes 3 l.number), must (enumByte [.filling, .ready, .shown] l.mode), must (leBytes 1 l.background),
    must (leBytes 1 l.useCount), may (l.turnSlot.map (leBytes 1)), may (l.edge.map (enumByte [.first, .last])),
    must (leBytes 2 l.written)]).contents

/-- CACHE_QUERY (R101). -/
def cacheQueryFields (c : CacheReply) : List Fields :=
  [must (leBytes 1 c.settings.lowWater), must (leBytes 1 c.settings.cadence), must (leBytes 1 c.settings.guardDist),
   must (slotByte c.settings.partialSlot), must (slotByte c.settings.fullSlot),
   may (c.current.map (leBytes 3)), may (c.anchor.map (leBytes 3)), must (leBytes 1 c.counter),
   may (c.flight.map (fun f => leBytes 3 f.leaf ++ dirByte f.dir ++ enumByte [.full, .partialTurn] f.kind)),
   may (c.deferred.map (fun d => dirByte d.dir ++ leBytes 1 d.count)), must (countedBytes (c.leaves.map leafItem))]

/-- A key level (R104). -/
def levelName (l : Level) : List Byte := enumByte [.low, .high] l

/-- One input's configuration, in the order of KEY_SETUP (R116). -/
def keyConfigBytes (c : KeyConfig) : List Byte :=
  flagByte c.enabled ++ levelName c.active ++ enumByte [.edge, .level] c.mode ++ leBytes 2 c.debounce ++ leBytes 1 c.hold
    ++ leBytes 1 c.period
    ++ enumByte [.none, .report, .turnNext, .turnPrev, .lightUp, .lightDown, .sleep, .cover] c.action
    ++ leBytes 1 c.lightStep ++ flagByte c.wakeEnable

/-- One input's live state (R117). -/
def keyLiveBytes (i : KeyView) : List Byte :=
  levelName i.raw ++ debouncedByte i.debounced ++ flagByte i.armed ++ flagByte i.held ++ flagByte i.debounceRuns
    ++ flagByte i.holdRuns ++ flagByte i.repeatRuns

/-- KEY_QUERY: the timestamp, every configuration, every live state (R117). -/
def keyQueryFields (k : KeyReply) : List Fields :=
  must (leBytes 2 k.timestamp) :: k.inputs.map (fun i => must (keyConfigBytes i.config)) ++
    k.inputs.map (fun i => must (keyLiveBytes i))

/-- One descriptor, with its own presence byte as an item of a list (R165; log 9). -/
def segmentItem (g : SegmentView) : List Byte :=
  (Fields.join [must (leBytes 4 g.ordinal), must (leBytes 4 g.count), must (enumByte [.waiting, .active, .done, .failed] g.state),
    must (leBytes 8 g.accepted), must (leBytes 8 g.drained), may (g.crc.map (fun c => leBytes 4 c.toNat)),
    must (enumByte [.notify, .chain, .halt] g.action)]).contents

/-- The counters of a stream; no rule bounds the three frame counters (R149; log 8). -/
def counterFields (c : StreamCounters) : List Fields :=
  [must (Config.unboundedNumber c.frames), must (Config.unboundedNumber c.duplicates), must (Config.unboundedNumber c.gaps),
   must (leBytes 8 c.accepted), must (leBytes 8 c.drained)]

/-- STREAM_QUERY of a record that is not CLOSED; the optional fields are pause, fail and closing cause (R165). -/
def streamQueryFields (r : StreamView) : List Fields :=
  [must (leBytes 1 (streamModeNumber r.mode)), may (r.pause.map pauseByte), may (r.fail.map failByte), may none,
   must (leBytes 2 r.expected), must (countedBytes (r.segments.map segmentItem)), must (leBytes 2 r.blocks),
   must (leBytes 2 r.tail), must (leBytes 2 r.head), must (leBytes 2 r.limit), must (leBytes 2 r.threshold),
   must (leBytes 1 r.stall), must (flagByte r.thresholdArmed)] ++
  counterFields r.counters ++
  [must (countedBytes (r.landmarks.map (fun e => leBytes 4 e.1 ++ leBytes 4 e.2))), must (flagByte r.landmarkOverflow)]

/-- STREAM_QUERY of a CLOSED record that keeps the id (R165). -/
def closedFields (c : Option ClosingCause) : List Fields :=
  [must (leBytes 1 (streamModeNumber .closed)), may none, may none, may (c.map (enumByte [.host, .closedByReset]))]

/-- The state fields of a reply (R193). -/
def replyFields (st : ReplyState) : List Fields :=
  match st with
  | .none => []
  | .status r => statusFields r
  | .identify r => identifyFields r
  | .cache r => cacheQueryFields r
  | .keys r => keyQueryFields r
  | .stream r => streamQueryFields r
  | .streamClosed c => closedFields c

/-! ### Entries and chunks -/

/-- An entry header, then the entry body (R193). -/
def entryFrame (kind : Nat) (body : List Byte) : List Byte := leBytes 1 kind ++ leBytes 2 body.length ++ body

/-- The bytes of a queue entry (R193). -/
def entryBytes (e : Entry) : List Byte :=
  match e with
  | .reply r =>
    entryFrame 1 (leBytes 1 r.code ++ leBytes 1 r.tag ++ leBytes 1 (statusNumber r.status)
      ++ (Fields.join (replyFields r.state)).contents)
  | .report r => entryFrame 2 (leBytes 1 (kindNumber r.kind) ++ (Fields.join (reportFields r)).contents)

/-- The bytes of a drain chunk (R193). -/
def chunkBytes (c : Chunk) : List Byte :=
  leBytes 1 (c.id.getD 0) ++ leBytes 1 (streamModeNumber c.mode) ++ leBytes 4 c.ordinal ++ leBytes 4 c.offset
    ++ leBytes 2 c.bytes.length
    ++ leBytes 1 ((if c.segmentEnd then 1 else 0) + (if c.overflow then 2 else 0))
    ++ leBytes 1 c.landmarks.length ++ c.landmarks.flatMap (fun e => leBytes 4 e.1 ++ leBytes 4 e.2) ++ c.bytes

/-- The bytes a transaction sends (R181, R193). -/
def sentBytes (t : Transaction) : List Byte :=
  match t with
  | .readMessage none => entryFrame 0 []
  | .readMessage (some (e, _)) => entryBytes e
  | .readDrain c => chunkBytes c
  | .none => []
  | .unserved => []
  | .begun => []
  | .writing _ => []
  | .ignored => []

/-- The first `n` bytes the host clocks out of a transaction: what it sends, and filler, 0xFF, after it (R181, R193). A transaction that
sends nothing gives filler from its first byte on; the rules say so of a void one, and of the others (a WRITE, one that is ignored to
its end, one whose selector has not been taken) it is the model's (DESIGN CHOICE, log 59). -/
def clockedBytes (t : Transaction) (n : Nat) : List Byte :=
  (sentBytes t).take n ++ List.replicate (n - (sentBytes t).length) 0xFF

end Sys2Proof.Machine
end

