-- ==== Sys2Proof/Safety.lean ====
section
/-! DEFINITION. The vocabulary of the statements: the state a taken command leaves, frames block by block, and the properties
that every step is to keep. -/

namespace Sys2Proof.Machine

/-! ### Taking a command -/

/-- A command is executed: the link takes packets, and the reply's place can be reserved (R183, R184). -/
def State.serves (s : State) : Prop := servingMode s.power.mode = true ∧ s.link.roomForReply = true

/-- The packet buffer once the row `i` has been taken: a head packet that spells the row has left it (R183; log 1). -/
def bufferAfter (i : Instr) (q : List Packet) : List Packet :=
  match q with
  | [] => []
  | p :: rest => if decodePacket p.kind p.body = i then rest else p :: rest

/-- `s` with the packet of row `i` taken. -/
def State.taken (s : State) (i : Instr) : State := { s with link := { s.link with buffer := bufferAfter i s.link.buffer } }

/-- `s` with the packet of row `i` taken and a reply's place held for it (R183, R184). -/
def State.placed (s : State) (i : Instr) : State :=
  { s with link := { s.link with buffer := bufferAfter i s.link.buffer, reserved := true } }

/-- `s` with an entry queued: it stands at the tail, the wake-worthy count is taken afresh and reaches the power controller,
whose standby delay timer follows its five conditions in DOZE (R169, R175, R184). -/
def State.withEntry (s : State) (e : Entry) : State :=
  let n := worthyCount s.power.mask (s.link.queue ++ [e])
  { s with
    link := { s.link with queue := s.link.queue ++ [e], wakeCount := n }
    power := { s.power with wakeCount := n }.recheckDoze }

/-- `s` with its message queue replaced: the wake-worthy count is taken afresh and reaches the power controller (R169, R184). -/
def State.withQueue (s : State) (q : List Entry) : State :=
  let n := worthyCount s.power.mask q
  { s with
    link := { s.link with queue := q, wakeCount := n }
    power := { s.power with wakeCount := n }.recheckDoze }

/-- `s` with the packet of row `i` taken and its reply queued: nothing but the packet buffer, the message queue with its counts,
and in DOZE the standby delay timer differs from `s`. -/
def State.answered (s : State) (i : Instr) (r : Reply) : State :=
  let t := (s.taken i).withEntry (.reply r)
  { t with link := { t.link with reserved := false } }

/-- A reply that carries no state. -/
def plainReply (code tag : Nat) (status : Status) : Reply := ⟨code, tag, status, .none⟩

/-- The reply with which the parsing of R191 answers a faulty body; none for a body it hands to the owner. -/
def faultReply {α : Type} (code tag : Nat) (b : Body α) : Option Reply :=
  match b with
  | .fields _ => none
  | .badLength => some (plainReply code tag .badLength)
  | .badParam => some (plainReply code tag .badParam)

/-- The code, the tag and the fault reply, if any, of a COMMAND packet that names a command; none for every other row. -/
def commandOf (i : Instr) : Option (Nat × Nat × Option Reply) :=
  match i with
  | .panelSetup t b => some (0x10, t, faultReply 0x10 t b)
  | .poolSetup t b => some (0x11, t, faultReply 0x11 t b)
  | .waveLoad t b => some (0x20, t, faultReply 0x20 t b)
  | .waveAbort t b => some (0x21, t, faultReply 0x21 t b)
  | .waveDrop t b => some (0x22, t, faultReply 0x22 t b)
  | .tempSetup t b => some (0x23, t, faultReply 0x23 t b)
  | .update t b => some (0x30, t, faultReply 0x30 t b)
  | .updateCancel t b => some (0x31, t, faultReply 0x31 t b)
  | .scanSetup t b => some (0x32, t, faultReply 0x32 t b)
  | .railSetup t b => some (0x40, t, faultReply 0x40 t b)
  | .railClear t b => some (0x41, t, faultReply 0x41 t b)
  | .budgetSetup t b => some (0x42, t, faultReply 0x42 t b)
  | .leafFill t b => some (0x50, t, faultReply 0x50 t b)
  | .leafClose t b => some (0x51, t, faultReply 0x51 t b)
  | .leafDrop t b => some (0x52, t, faultReply 0x52 t b)
  | .showLeaf t b => some (0x53, t, faultReply 0x53 t b)
  | .showLeafDeclare t _ => some (0x53, t, none)
  | .cacheSetup t b => some (0x54, t, faultReply 0x54 t b)
  | .cacheQuery t b => some (0x55, t, faultReply 0x55 t b)
  | .keySetup t b => some (0x60, t, faultReply 0x60 t b)
  | .keyQuery t b => some (0x61, t, faultReply 0x61 t b)
  | .lightCurve t b => some (0x70, t, faultReply 0x70 t b)
  | .lightSet t b => some (0x71, t, faultReply 0x71 t b)
  | .lightSetup t b => some (0x72, t, faultReply 0x72 t b)
  | .radioSetup t b => some (0x80, t, faultReply 0x80 t b)
  | .streamOpen t b => some (0x90, t, faultReply 0x90 t b)
  | .segmentAdd t b => some (0x91, t, faultReply 0x91 t b)
  | .streamPause t b => some (0x92, t, faultReply 0x92 t b)
  | .streamResume t b => some (0x93, t, faultReply 0x93 t b)
  | .streamClose t b => some (0x94, t, faultReply 0x94 t b)
  | .streamQuery t b => some (0x95, t, faultReply 0x95 t b)
  | .drainSelect t b => some (0x96, t, faultReply 0x96 t b)
  | .doze t b => some (0xA0, t, faultReply 0xA0 t b)
  | .sleep t b => some (0xA1, t, faultReply 0xA1 t b)
  | .wakeMask t b => some (0xA2, t, faultReply 0xA2 t b)
  | .status t b => some (0xB0, t, faultReply 0xB0 t b)
  | .identify t b => some (0xB1, t, faultReply 0xB1 t b)
  | .linkSetup t b => some (0xB2, t, faultReply 0xB2 t b)
  | .setupEnd t b => some (0xB3, t, faultReply 0xB3 t b)
  | .engineReset t b => some (0xB4, t, faultReply 0xB4 t b)
  | _ => none

/-- A well-formed ENGINE_RESET, which needs no reserved place (R187). -/
def isEngineReset (i : Instr) : Bool :=
  match i with
  | .engineReset _ (.fields _) => true
  | _ => false

/-- A row that takes a packet (R183). -/
def isPacketRow (i : Instr) : Bool :=
  (commandOf i).isSome ||
    match i with
    | .unknownCommand _ => true
    | .tileTarget _ => true
    | .tileLeaf _ _ _ => true
    | .table _ => true
    | .unknownPacketKind _ => true
    | _ => false

/-- A power-on or pin reset. -/
def isReset (i : Instr) : Bool :=
  match i with
  | .powerOnReset _ => true
  | .pinReset _ => true
  | _ => false

/-! ### Frames -/

/-- The parts of State, the queue of waiting rows apart. -/
inductive Block
  | mem | pool | wave | engine | rail | budget | cache | keys | light | radio | stream | power | link
  deriving DecidableEq, Repr

/-- Nothing in a part of State differs between two states; of page memory, every byte reads as before. -/
def State.sameBlock (s t : State) (b : Block) : Prop :=
  match b with
  | .mem => ∀ a, Memory.read t.mem a = Memory.read s.mem a
  | .pool => t.pool = s.pool
  | .wave => t.wave = s.wave
  | .engine => t.engine = s.engine
  | .rail => t.rail = s.rail
  | .budget => t.budget = s.budget
  | .cache => t.cache = s.cache
  | .keys => t.keys = s.keys
  | .light => t.light = s.light
  | .radio => t.radio = s.radio
  | .stream => t.stream = s.stream
  | .power => t.power = s.power
  | .link => t.link = s.link

/-- Of the parts of State only those listed may differ. -/
def SameExcept (bs : List Block) (s t : State) : Prop :=
  t.pending = s.pending ∧ ∀ b, b ∉ bs → s.sameBlock t b

/-- Every byte of page memory outside the addresses that satisfy `p` reads as before. -/
def SameBytesExcept (p : Nat → Prop) (s t : State) : Prop :=
  ∀ a, ¬ p a → Memory.read t.mem a = Memory.read s.mem a

/-- The parts that an entry to STANDBY changes (R176). -/
def standbyBlocks : List Block := [.pool, .wave, .budget, .cache, .keys, .light, .radio, .stream, .power, .link]

/-- The frame of an event that may end a SETTLING: outside SETTLING only the parts listed differ; in SETTLING also those that
an entry to STANDBY changes, and the part is then in STANDBY or still in SETTLING. -/
def FrameOf (bs : List Block) (s t : State) : Prop :=
  if s.power.mode = .settling then
    SameExcept (bs ++ standbyBlocks) s t ∧ (t.power.mode = .settling ∨ t.power.mode = .standby)
  else SameExcept bs s t ∧ t.power.mode = s.power.mode

/-! ### Sleep -/

/-- What a sleep request taken in ACTIVE or DOZE leaves (R172, R173, R176): SETTLING, or STANDBY at once where the engine is idle,
the rails are OFF and the held light is dark; the light held at target 0, every OPEN and RUNNING stream paused, HOLD
asserted. -/
def SleepTaken (hostAsked : Bool) (s t : State) : Prop :=
  (if s.power.engineIdle && s.power.railsOff && s.light.settle.isDark then
    t.power.mode = .standby ∧ t.pool.refresh = .entering ∧ t.cache.sleepMark = false ∧ t.wave.timer = .stopped ∧
      t.light.dwell = none ∧ t.radio.fifo = [] ∧ t.radio.receiver = .stopped
  else
    t.power.mode = .settling ∧ t.power.leftMode = some s.power.mode ∧ t.power.hostAsked = hostAsked ∧
      t.cache.sleepMark = true ∧ t.pool = s.pool ∧ t.wave = s.wave ∧ t.keys = s.keys) ∧
  t.power.timer = none ∧ t.light.hold = true ∧ t.light.target = 0 ∧ t.light.setLevel = s.light.setLevel ∧
  t.stream.sleepHold = true ∧ t.stream.running = false ∧
  (∀ r ∈ t.stream.records.toList, r.mode ≠ .opened ∧ r.mode ≠ .running) ∧
  t.radio.hold = true ∧ t.link.powerCopy = t.power.mode ∧ t.radio.powerCopy = t.power.mode ∧
  t.budget.power = t.power.mode

/-- The end of the sleep holds: no sleep mark, no light hold, no stream hold, and no stream still paused for sleep (R174,
R178). -/
def HoldsReleased (t : State) : Prop :=
  t.light.hold = false ∧ t.stream.sleepHold = false ∧
    ∀ r ∈ t.stream.records.toList, ¬(r.mode = .paused ∧ r.pause = some .sleep)

/-! ### Properties that every step is to keep -/

/-- The message queue is within its bounds, and between steps no reply's place is held (R184). -/
def State.queueBounded (s : State) : Prop :=
  s.link.queue.length ≤ Config.queueSize ∧ reportCount s.link.queue ≤ Config.maxReports ∧ s.link.reserved = false

/-- The rectangles of any two lanes that are not FREE share no pixel (R41), and only a lane in PREPARING waits for a band (R33). -/
def State.lanesApart (s : State) : Prop :=
  (∀ a b, a < 8 → b < 8 → a ≠ b → (s.lane a).state ≠ .free → (s.lane b).state ≠ .free →
    rectOverlaps (s.lane a).rect (s.lane b).rect = false) ∧
  ∀ a, a < 8 → (s.lane a).bandHeld = true → (s.lane a).state = .preparing

/-- No lane that works with CHANGED selection overlaps the uncertain region list (R42, R57). -/
def State.uncertainDrivenWhole (s : State) : Prop :=
  ∀ a, a < 8 → (s.lane a).state ≠ .free → (s.lane a).selection = .changed →
    s.engine.whole = false ∧ ∀ u ∈ s.engine.uncertain, rectOverlaps u (s.lane a).rect = false

/-- The pending queue and the uncertain region list are within their bounds (R40, R56). -/
def State.engineBounded (s : State) : Prop :=
  s.engine.pending.length ≤ Config.maxPending ∧ s.engine.uncertain.length ≤ Config.maxUncertain

/-- Leaf records stand in ascending order of number, at most twelve of them, and only the current leaf is SHOWN (R81, R82). -/
def State.leavesSound (s : State) : Prop :=
  List.Pairwise (fun a b : Leaf => a.number < b.number) s.cache.leaves ∧ s.cache.leaves.length ≤ Config.maxLeaves ∧
    ∀ l ∈ s.cache.leaves, l.mode = .shown → s.cache.current = some l.number

/-- The blocks of the pool's table that stand for an owner, in the table's order. -/
def State.blocksOf (s : State) (f : Owner → Bool) : List Nat := s.pool.ownedBy f

/-- The owner is leaf `n`. -/
def Owner.isLeafOf (n : Nat) (o : Owner) : Bool :=
  match o with
  | .plane _ => false
  | .leaf m _ => m == n
  | .stage _ => false

/-- The owner is stream record `r`. -/
def Owner.isStageOf (r : Nat) (o : Owner) : Bool :=
  match o with
  | .plane _ => false
  | .leaf _ _ => false
  | .stage q => q == r

/-- The pool's books: entries in ascending order of block, none in the waveform store, the free count what is left; a set
geometry is one of R1; the planes lie as R6 places them; every leaf holds, in ascending order, exactly the P blocks that the table
gives it, every stream record exactly its staging blocks, and no block belongs to a leaf or record that is not there (R2 to R6,
R12, R81, R149). -/
def State.poolSound (s : State) : Prop :=
  List.Pairwise (fun a b : BlockEntry => a.block < b.block) s.pool.table ∧
  (∀ e ∈ s.pool.table, e.block < Config.waveBase) ∧
  s.pool.freeCount + s.pool.table.length = Config.waveBase ∧
  (∀ p, s.pool.geometry = some p →
    64 ≤ p.width ∧ p.width ≤ 2048 ∧ p.width % 8 = 0 ∧ 64 ≤ p.height ∧ p.height ≤ 1536) ∧
  s.blocksOf (fun o => o == .plane 0) = shownBlocks s.pool.geometry ∧
  s.blocksOf (fun o => o == .plane 1) = targetBlocks s.pool.geometry ∧
  (∀ e ∈ s.pool.table, ∀ i, e.owner = .plane i → i < 2) ∧
  (∀ l ∈ s.cache.leaves, l.blocks = s.blocksOf (Owner.isLeafOf l.number) ∧
    l.blocks.length = planeSize s.pool.geometry) ∧
  (∀ e ∈ s.pool.table, ∀ n w, e.owner = .leaf n w → (s.cache.leaf n).isSome = true) ∧
  (∀ r, r < 4 → List.Perm (s.record r).blocks (s.blocksOf (Owner.isStageOf r)) ∧
    ((s.record r).mode = .closed → (s.record r).blocks = [])) ∧
  (∀ e ∈ s.pool.table, ∀ r, e.owner = .stage r → r < 4)

/-- The values that the limits lock holds fast (R186). -/
structure Limits where
  geometry : Option PanelArgs
  rise : Nat
  fall : Nat
  hold : Nat
  normal : Nat
  low : Nat
  base : Nat
  coeff : Nat
  warmCeiling : Nat
  coolCeiling : Nat
  floor : Nat
  deriving DecidableEq, Repr

/-- The limits of a state (R186). -/
def State.limits (s : State) : Limits :=
  { geometry := s.pool.geometry, rise := s.rail.riseTime, fall := s.rail.fallTime, hold := s.rail.holdTime,
    normal := s.budget.normal, low := s.budget.low, base := s.budget.base, coeff := s.budget.coeff,
    warmCeiling := s.light.warmCeiling, coolCeiling := s.light.coolCeiling, floor := s.light.floor }

/-- What an engine reset keeps (R187, R16, R62, R103, R118, R133, R148, R167): the limits and their lock, the settings of every
block, the temperature, the counters, and the flags that wait for a STATUS read-out; the rails stay in their state, but that lanes
leave them (R74). -/
def SettingsKept (s t : State) : Prop :=
  t.limits = s.limits ∧ t.link.locked = s.link.locked ∧ t.link.timeout = s.link.timeout ∧
  t.link.selection = s.link.selection ∧ t.pool.reserve = s.pool.reserve ∧
  t.wave.period = s.wave.period ∧ t.wave.hyst = s.wave.hyst ∧ t.wave.lastRaw = s.wave.lastRaw ∧
  t.wave.filtered = s.wave.filtered ∧ t.wave.samples = s.wave.samples ∧ t.wave.saturated = s.wave.saturated ∧
  t.engine.framePeriod = s.engine.framePeriod ∧
  t.rail.powerGood = s.rail.powerGood ∧ t.rail.cause = s.rail.cause ∧ (s.rail.mode ≠ .on → t.rail.mode = s.rail.mode) ∧
  t.budget.lowbat = s.budget.lowbat ∧ t.budget.reported = s.budget.reported ∧
  t.cache.anchor = s.cache.anchor ∧ t.cache.counter = s.cache.counter ∧ t.cache.settings = s.cache.settings ∧
  (∀ k, k < 6 → (t.key k).config = (s.key k).config ∧ (t.key k).raw = (s.key k).raw) ∧
  t.keys.timestamp = s.keys.timestamp ∧
  t.radio.enabled = s.radio.enabled ∧ t.radio.rate = s.radio.rate ∧ t.radio.gapTime = s.radio.gapTime ∧
  t.radio.wake = s.radio.wake ∧ t.radio.marks = s.radio.marks ∧ t.stream.sleepHold = s.stream.sleepHold ∧
  t.power.delay = s.power.delay ∧ t.power.mask = s.power.mask ∧ t.power.cause = s.power.cause

/-- The light's outputs draw no more than the allowance at their ceilings (R122). -/
def LightState.withinAllowance (l : LightState) : Prop :=
  l.warmOut * l.warmCeiling + l.coolOut * l.coolCeiling ≤ l.allowance * 4095

/-- The light unit between steps: the duties are those that level, warmth, ceilings and allowance give (R120 to R122), the
target is the one R123 names, and the ramp runs exactly while the level is not the target (R124). -/
def LightState.sound (l : LightState) : Prop :=
  l.formDuties = l ∧ l.target = l.wanted ∧ (l.ramp = none ↔ l.level = l.target)

/-- What one block tells another agrees with it between steps: the power controller's view of the engine, the rails, the light
and the streams (R168), the power state at the port, the link and the budget unit, the free count and reserve at the port
(R2, R9), the headroom and running signals (R150), the budget unit's copies (R75), the wake-worthy count (R169, R180), and
HOLD as its five conditions give it (R145). -/
def State.coherent (s : State) : Prop :=
  s.power.engineIdle = s.engine.idle ∧
  s.power.railsOff = decide (s.rail.mode = .off) ∧
  s.power.lightDark = s.light.isDark ∧
  s.power.running = s.stream.running ∧
  s.stream.running = s.stream.anyRunning ∧
  s.stream.headroom = s.stream.wantsHeadroom ∧
  s.radio.headroomCopy = s.stream.headroom ∧
  s.radio.freeCopy = s.pool.freeCount ∧
  s.radio.reserveCopy = s.pool.reserve ∧
  s.radio.powerCopy = s.power.mode ∧
  s.link.powerCopy = s.power.mode ∧
  s.budget.power = s.power.mode ∧
  s.budget.rail = s.rail.mode ∧
  s.budget.load = s.engine.load ∧
  s.budget.floor = s.light.floor ∧
  s.light.allowance = s.budget.allowance ∧
  s.link.wakeCount = worthyCount s.power.mask s.link.queue ∧
  s.power.wakeCount = s.link.wakeCount ∧
  s.radio.hold = s.radio.holdConditions.any id ∧
  s.light.sound

/-! ### Key events -/

/-- The input of a key after an event (R108, R109). -/
def eventInput (e : KeyEvent) (i : KeyInput) : KeyInput :=
  match e with
  | .press => { i with
      debounced := .active
      held := true
      holdTimer := if i.config.mode = .level ∧ 0 < i.config.hold then some i.config.hold else i.holdTimer }
  | .release => { i with debounced := .inactive, held := false, holdTimer := none, repeatTimer := none }
  | .again => { i with holdTimer := none, repeatTimer := some i.config.period }

/-- A key's own part in an event and, outside STANDBY and WAKING, the activity of the light, of whose darkness the power
controller hears (R108 to R110, R125, R126). -/
def State.noted (s : State) (k : Nat) (e : KeyEvent) : State :=
  let x := { s with keys := { s.keys with inputs := withRecord s.keys.inputs k (eventInput e) } }
  if servingMode s.power.mode then
    { x with
      light := s.light.activity
      power := if s.light.activity.isDark = s.power.lightDark then s.power
        else { s.power with lightDark := s.light.activity.isDark }.recheckDoze }
  else x

/-- SETTLING is cancelled by a key into the state it was entered from: the sleep mark and the sleep holds are gone (R174). -/
def SettlingCancelled (u w : State) : Prop :=
  u.power.leftMode.getD .active ≠ .settling →
    w.power.mode = u.power.leftMode.getD .active ∧ w.power.leftMode = none ∧ w.power.hostAsked = false ∧
    w.cache = { u.cache with sleepMark := false } ∧ HoldsReleased w ∧ w.link.queue = u.link.queue ∧
    w.light.setLevel = u.light.setLevel ∧ SameExcept [.budget, .cache, .light, .radio, .stream, .power, .link] u w

/-- The notice of a key event: a sleep request for the PRESS of a SLEEP or COVER key, a cover-open notice for the RELEASE of a
COVER key, an activity notice for the PRESS of another wake-enabled key, and otherwise none (R112, R172, R174, R175). -/
def KeyNoticed (c : KeyConfig) (e : KeyEvent) (u w : State) : Prop :=
  if e = .press ∧ (c.action = .sleep ∨ c.action = .cover) then
    (u.power.mode = .active ∨ u.power.mode = .doze →
      SleepTaken false u w ∧ w.link.queue = u.link.queue ∧ SameExcept standbyBlocks u w) ∧
    (u.power.mode ≠ .active → u.power.mode ≠ .doze → w = u)
  else if e = .release ∧ c.action = .cover then
    (u.power.mode = .settling → SettlingCancelled u w) ∧ (u.power.mode ≠ .settling → w = u)
  else if e = .press ∧ c.wakeEnable = true then
    (u.power.mode = .settling → SettlingCancelled u w) ∧
    (u.power.mode = .doze →
      w = { u with power := { u.power with timer := u.power.timer.map (fun _ => u.power.delay) } }) ∧
    (u.power.mode ≠ .settling → u.power.mode ≠ .doze → w = u)
  else w = u

/-- A turn request has been taken by the page cache, and the power controller has heard of the engine (R91, R36). -/
def TurnAsked (d : TurnDir) (w t : State) : Prop :=
  t.cache = (turnRequest d w).cache ∧ t.engine = (turnRequest d w).engine ∧ t.wave = (turnRequest d w).wave ∧
    t.light = (turnRequest d w).light ∧ t.link.queue = (turnRequest d w).link.queue ∧ t.power.mode = w.power.mode ∧
    t.power.engineIdle = t.engine.idle ∧ SameExcept [.wave, .engine, .cache, .light, .power, .link] w t

/-- A level request has been taken by the light unit: a new level is set and reported (R129). -/
def LevelAsked (level : Nat) (w t : State) : Prop :=
  (level = w.light.setLevel → t = w) ∧
  (level ≠ w.light.setLevel → ∃ x, FrameOf [.light, .power] w x ∧ x.light.setLevel = level ∧
    x.light.warmth = w.light.warmth ∧ (w.light.sound → x.light.sound) ∧ x.link.queue = w.link.queue ∧
    t = raise (.lightLevel level w.light.warmth) x)

/-- The request of a key's action: a turn or a light level at PRESS and REPEAT (R111). -/
def KeyRequested (c : KeyConfig) (e : KeyEvent) (w t : State) : Prop :=
  if e = .release then t = w
  else
    match c.action with
    | .turnNext => TurnAsked .next w t
    | .turnPrev => TurnAsked .prev w t
    | .lightUp => LevelAsked (min (w.light.setLevel + c.lightStep) 100) w t
    | .lightDown => LevelAsked (w.light.setLevel - c.lightStep) w t
    | .none => t = w
    | .report => t = w
    | .sleep => t = w
    | .cover => t = w

/-- An event of key `k` has been handed out: activity, the KEY report of REPORT at every event and of COVER at PRESS and RELEASE, the
notice, the request, in this order (R110 to R112). -/
def KeyEventTaken (k : Nat) (e : KeyEvent) (time : Nat) (s t : State) : Prop :=
  ∃ u w : State,
    u = (if (s.key k).config.action = .report ∨ ((s.key k).config.action = .cover ∧ e ≠ .again)
      then raise (.key k e time) (s.noted k e) else s.noted k e) ∧
    KeyNoticed (s.key k).config e u w ∧ KeyRequested (s.key k).config e w t

/-- An input after the resample at the end of WAKING (R115). -/
def resampled (i : KeyInput) : KeyInput :=
  if i.config.enabled = true ∧ i.debounced ≠ (if i.raw = i.config.active then Debounced.active else .inactive)
  then { i with debounce := some (i.config.debounce, i.raw) } else i

/-! ### Turns -/

/-- The leaf that a deferred turn of `count` steps from leaf `n` wants: the nearest leaf on the way that ends the book, or the
leaf `count` steps away, held within the range (R96). -/
def DeferredWants (c : CacheState) (d : TurnDir) (count n w : Nat) : Prop :=
  let far := jumpLeaf n count d
  let onTheWay := fun l : Leaf => l.edge = some (edgeOf d) ∧
    ((d = .next ∧ n < l.number ∧ l.number ≤ far) ∨ (d = .prev ∧ far ≤ l.number ∧ l.number < n))
  (w = far ∧ ∀ l ∈ c.leaves, ¬ onTheWay l) ∨
  ∃ l ∈ c.leaves, onTheWay l ∧ w = l.number ∧
    ∀ x ∈ c.leaves, onTheWay x → (d = .next ∧ w ≤ x.number) ∨ (d = .prev ∧ x.number ≤ w)

/-- What a deferred turn comes to when the turn in flight completes with the rails ON and nothing pending: the reports it gives,
and the turn in flight it leaves; the first case of R96, R91 and R93 that applies. -/
def DeferredResolves (c : CacheState) (s : State) (extra : List Report) (next : Option TurnFlight) : Prop :=
  (c.deferred = none → extra = [] ∧ next = none) ∧
  ∀ q, c.deferred = some q →
    (c.sleepMark = true → extra = [.turnMiss q.dir none .sleep] ∧ next = none) ∧
    (c.sleepMark = false → c.current = none → extra = [.turnMiss q.dir none .noCurrent] ∧ next = none) ∧
    (∀ n, c.sleepMark = false → c.current = some n →
      ((∃ l, c.leaf n = some l ∧ l.edge = some (edgeOf q.dir)) ∨ stepLeaf n q.dir = none →
        extra = [.turnEdge n q.dir] ∧ next = none) ∧
      ((∀ l, c.leaf n = some l → l.edge ≠ some (edgeOf q.dir)) → stepLeaf n q.dir ≠ none →
        ∃ w, DeferredWants c q.dir q.count n w ∧
          (c.leaf w = none → extra = [.turnMiss q.dir (some w) .absent] ∧ next = none) ∧
          (∀ l, c.leaf w = some l →
            (l.mode = .filling → extra = [.turnMiss q.dir (some w) .filling] ∧ next = none) ∧
            (l.mode ≠ .filling →
              (∀ kind slot sel, c.turnChoice l.turnSlot = (kind, some slot, sel) → (s.slot slot).state = .valid →
                extra = [] ∧ next = some ⟨w, q.dir, kind⟩) ∧
              (∀ kind slot sel, c.turnChoice l.turnSlot = (kind, some slot, sel) → (s.slot slot).state ≠ .valid →
                extra = [.turnMiss q.dir (some w) .slot] ∧ next = none) ∧
              (∀ kind sel, c.turnChoice l.turnSlot = (kind, none, sel) →
                extra = [.turnMiss q.dir (some w) .slot] ∧ next = none)))))

end Sys2Proof.Machine
end

