-- ==== Sys2Proof/Certificates/Slice0/Obligations.lean ====
section
/-! DEFINITION. The statements for the provers, family by family. A clause that rests on a choice of the model names its log entry. -/

open Sys2Proof Sys2Proof.Machine

/-! ### Steps, packets and the message queue -/

/-- A step takes the row at the front of the queue and runs it on the state with the queue's rest, for every row. -/
def Obligations.StepRunsFrontRow : Prop :=
  ∀ (c : Instr) (rest : List Instr) (s : State),
    step { s with pending := c :: rest } = exec c { s with pending := rest }

/-- A COMMAND packet that R191 finds faulty is answered with the status it names, from its own place, and changes nothing
else: BAD_LENGTH or BAD_PARAM with its code and tag, UNKNOWN with the unknown code and the tag, BAD_LENGTH with code 0 and
tag 0 for a body of fewer than 2 bytes. That a WAVE_LOAD found faulty there leaves an open load open, where R20 has a WAVE_LOAD
abandon it whatever its outcome, is the model's choice (log 40). -/
def Obligations.FaultyCommandBodiesAreAnswered : Prop :=
  (∀ (i : Instr) (code tag : Nat) (r : Reply) (s : State), commandOf i = some (code, tag, some r) → s.serves →
    exec i s = .next (s.answered i r)) ∧
  (∀ s : State, s.serves →
    exec (.unknownCommand .short) s = .next (s.answered (.unknownCommand .short) (plainReply 0 0 .badLength))) ∧
  (∀ (code tag : Nat) (s : State), s.serves →
    exec (.unknownCommand (.code code tag)) s =
      .next (s.answered (.unknownCommand (.code code tag)) (plainReply code tag .unknown)))

/-- No packet is taken in STANDBY or WAKING: the row of a packet leaves everything as it is there (R183).

A command for whose reply no place can be reserved leaves the buffer unexecuted and sets OVERFLOW; a well-formed
ENGINE_RESET is the exception (R183, R184).

With no row waiting, the part takes the oldest packet of its buffer where it takes packets (R183); otherwise the
timestamp counter counts one millisecond (R105) and nothing else changes. That the empty queue stands for these two is the
model's choice (log 2). -/
def Obligations.PacketsAreTakenOnlyWhereTheyCanBeAnswered : Prop :=
  (∀ (i : Instr) (s : State), isPacketRow i = true → s.power.mode = .standby ∨ s.power.mode = .waking →
     exec i s = .next s) ∧
  (∀ (i : Instr) (s : State), ((commandOf i).isSome = true ∨ ∃ b, i = .unknownCommand b) → isEngineReset i = false →
     servingMode s.power.mode = true → s.link.roomForReply = false →
     exec i s = .next { s with link := { s.link with
       buffer := bufferAfter i s.link.buffer
       overflow := ⟨true, s.link.overflow.sets + 1⟩ } }) ∧
  (∀ s : State, s.pending = [] →
     (∀ p rest, servingMode s.power.mode = true → s.link.buffer = p :: rest →
       step s = exec (decodePacket p.kind p.body) s) ∧
     (servingMode s.power.mode = false ∨ s.link.buffer = [] →
       step s = .next { s with keys := { s.keys with timestamp := (s.keys.timestamp + 1) % 65536 } }))

/-- A report joins the tail of the queue while fewer than 28 reports are held and the entries with a reserved place number
fewer than 32; otherwise it is dropped and OVERFLOW is set (R184). That STANDBY drops it without a trace is the model's
reading of R176 (log 21).

A packet of no kind, and a tile or table that its owner refuses, leaves the buffer and raises PACKET_REFUSED with its kind
and the status; nothing else happens. A tile is refused by the first condition of R55 or R85 that fits: no geometry STATE, a
destination or rectangle out of range BAD_PARAM, a wrong length BAD_LENGTH, ground at work REGION_BUSY, a leaf that is not
there NO_SUCH, a leaf that is not FILLING STATE; under none of them it is taken (R183, R192, R55, R85, R22). -/
def Obligations.ReportsQueueOrOverflowAndRefusalsAreReported : Prop :=
  (∀ (r : Report) (s : State),
     (s.power.mode ≠ .standby → reportCount s.link.queue < 28 →
       s.link.queue.length + (if s.link.reserved then 1 else 0) < 32 → raise r s = s.withEntry (.report r)) ∧
     (s.power.mode ≠ .standby →
       28 ≤ reportCount s.link.queue ∨ 32 ≤ s.link.queue.length + (if s.link.reserved then 1 else 0) →
       raise r s = { s with link := { s.link with overflow := ⟨true, s.link.overflow.sets + 1⟩ } }) ∧
     (s.power.mode = .standby → raise r s = s)) ∧
  (∀ s : State, servingMode s.power.mode = true →
     (∀ kind, exec (.unknownPacketKind kind) s =
       .next (raise (.packetRefused kind .unknown) (s.taken (.unknownPacketKind kind)))) ∧
     exec (.tileTarget .short) s = .next (raise (.packetRefused 2 .badLength) (s.taken (.tileTarget .short))) ∧
     (∀ dest r pixels st,
       (s.pool.geometry = none ∧ st = .state) ∨
       (∃ p, s.pool.geometry = some p ∧ st = .badParam ∧
         (dest ≠ 0 ∨ r.w = 0 ∨ r.h = 0 ∨ p.width < r.x + r.w ∨ p.height < r.y + r.h)) ∨
       (∃ p, s.pool.geometry = some p ∧ dest = 0 ∧ 0 < r.w ∧ 0 < r.h ∧ r.x + r.w ≤ p.width ∧ r.y + r.h ≤ p.height ∧
         ((pixels.length ≠ r.h * ((r.w + 1) / 2) ∧ st = .badLength) ∨
           (pixels.length = r.h * ((r.w + 1) / 2) ∧ st = .regionBusy ∧
             ((∃ n, n < 8 ∧ (s.lane n).state ≠ .free ∧ rectOverlaps (s.lane n).rect r = true) ∨
               ∃ e ∈ s.engine.pending, e.source = .target ∧ rectOverlaps e.rect r = true)))) →
       exec (.tileTarget (.tile dest r pixels)) s =
         .next (raise (.packetRefused 2 st) (s.taken (.tileTarget (.tile dest r pixels))))) ∧
     (∀ r pixels p, s.pool.geometry = some p → 0 < r.w → 0 < r.h → r.x + r.w ≤ p.width → r.y + r.h ≤ p.height →
       pixels.length = r.h * ((r.w + 1) / 2) →
       (∀ n, n < 8 → (s.lane n).state ≠ .free → rectOverlaps (s.lane n).rect r = false) →
       (∀ e ∈ s.engine.pending, e.source = .target → rectOverlaps e.rect r = false) →
       tileCheck (.tile 0 r pixels) s = none) ∧
     (∀ n r pixels st,
       (s.pool.geometry = none ∧ st = .state) ∨
       (∃ p, s.pool.geometry = some p ∧ st = .badParam ∧
         (16777215 < n ∨ r.w = 0 ∨ r.h = 0 ∨ p.width < r.x + r.w ∨ p.height < r.y + r.h)) ∨
       (∃ p, s.pool.geometry = some p ∧ n ≤ 16777215 ∧ 0 < r.w ∧ 0 < r.h ∧ r.x + r.w ≤ p.width ∧ r.y + r.h ≤ p.height ∧
         ((pixels.length ≠ r.h * ((r.w + 1) / 2) ∧ st = .badLength) ∨
           (pixels.length = r.h * ((r.w + 1) / 2) ∧
             ((s.cache.leaf n = none ∧ st = .noSuch) ∨
               ∃ l, s.cache.leaf n = some l ∧ l.mode ≠ .filling ∧ st = .state)))) →
       exec (.tileLeaf n r pixels) s = .next (raise (.packetRefused 2 st) (s.taken (.tileLeaf n r pixels)))) ∧
     (∀ n r pixels p l, s.pool.geometry = some p → n ≤ 16777215 → 0 < r.w → 0 < r.h → r.x + r.w ≤ p.width →
       r.y + r.h ≤ p.height → pixels.length = r.h * ((r.w + 1) / 2) → s.cache.leaf n = some l → l.mode = .filling →
       leafTileCheck n r pixels s = none) ∧
     (∀ body, s.wave.load = none →
       exec (.table body) s = .next (raise (.packetRefused 3 .state) (s.taken (.table body)))) ∧
     (∀ body l, s.wave.load = some l → l.expected < l.received + body.length →
       exec (.table body) s = .next (raise (.packetRefused 3 .badLength) (s.taken (.table body)))))

/-- STATUS, IDENTIFY, CACHE_QUERY, KEY_QUERY and STREAM_QUERY are answered OK with the state they name, field by field, and change
nothing (R185, R101, R117, R165; the contributions to STATUS are those of R2, R17, R36, R63, R75, R81, R105, R119, R134, R149,
R168 and R180, and the latest raw reading is always there, log 41); STREAM_QUERY of an id no record has is answered NO_SUCH,
outside 1..254 BAD_PARAM. -/
def Obligations.QueriesReplyAndChangeNothing : Prop :=
  ∀ (tag : Nat) (s : State), s.serves →
    exec (.status tag (.fields ())) s = .next (s.answered (.status tag (.fields ()))
      ⟨0xB0, tag, .ok, .status
        { pool :=
            { free := s.pool.freeCount, reserve := s.pool.reserve, planeSize := planeSize s.pool.geometry
              planeBlocks := (s.pool.table.filter (fun e => e.owner.isPlane)).length, waveBlocks := 192
              leafBlocks := (s.pool.table.filter (fun e => e.owner.isLeaf)).length
              stageBlocks := (s.pool.table.filter (fun e => e.owner.isStage)).length }
          wave :=
            { slots := s.wave.slots.toList.map (fun x => (x.state, x.band)), openSlot := s.wave.load.map Load.slot
              loadCounts := s.wave.load.map (fun l => (l.expected, l.received)), lastRaw := s.wave.lastRaw
              filtered := s.wave.filtered, samples := s.wave.samples, saturated := s.wave.saturated.isSet }
          engine :=
            { lanes := s.engine.lanes.toList.map (fun l =>
                (l.state, if l.state = .free then none else some (l.tag, l.origin)))
              pending := s.engine.pending.length, uncertain := s.engine.uncertain, whole := s.engine.whole
              framePeriod := s.engine.framePeriod, scanning := s.engine.scan.isSome, load := s.engine.load }
          rail :=
            { mode := s.rail.mode, cause := s.rail.cause, powerGood := s.rail.powerGood, armed := s.rail.armed
              rise := s.rail.riseTime, fall := s.rail.fallTime, hold := s.rail.holdTime }
          budget :=
            { normal := s.budget.normal, low := s.budget.low, base := s.budget.base, coeff := s.budget.coeff
              lowbat := s.budget.lowbat, effective := s.budget.effective, load := s.budget.load, panel := s.budget.panel
              allowance := s.budget.allowance, budgetOver := s.budget.budgetOver.isSet }
          cache :=
            { leaves := s.cache.leaves.length, current := s.cache.current, anchor := s.cache.anchor
              turning := s.cache.flight.isSome, counter := s.cache.counter }
          keys :=
            { inputs := s.keys.inputs.toList.map (fun i => (i.debounced, i.held)), timestamp := s.keys.timestamp }
          light :=
            { setLevel := s.light.setLevel, warmth := s.light.warmth, level := s.light.level, target := s.light.target
              dimmed := s.light.dimmed, dark := s.light.dark, hold := s.light.hold, allowance := s.light.allowance
              warmOut := s.light.warmOut, coolOut := s.light.coolOut, limited := s.light.limited }
          radio :=
            { enabled := s.radio.enabled, rate := s.radio.rate, gap := s.radio.gapTime, wake := s.radio.wake
              asm := s.radio.asm, fill := fifoFill s.radio.fifo, hold := s.radio.hold
              conditions := [!s.radio.enabled, !(s.radio.powerCopy = .active || s.radio.powerCopy = .doze),
                s.radio.fillHold, s.radio.freeCopy ≤ s.radio.reserveCopy, s.radio.headroomCopy]
              counts := s.radio.counts }
          stream :=
            { records := s.stream.records.toList.map (fun r =>
                ⟨r.id, r.mode, r.pause, r.fail, r.blocks.length, r.counters.accepted - r.counters.drained⟩)
              headroom := s.stream.headroom, running := s.stream.running }
          power :=
            { mode := s.power.mode, lastCause := s.power.cause, delay := s.power.delay
              timerRuns := s.power.timer.isSome, engineIdle := s.power.engineIdle, railsOff := s.power.railsOff
              lightDark := s.power.lightDark, running := s.power.running, wakeCount := s.power.wakeCount
              mask := s.power.mask }
          link :=
            { packets := (bufferAfter (.status tag (.fields ())) s.link.buffer).length
              entries := s.link.queue.length, reports := reportCount s.link.queue, overflow := s.link.overflow.isSet
              locked := s.link.locked, timeout := s.link.timeout, selection := s.link.selection }
          marks := ⟨s.link.overflow.sets, s.budget.budgetOver.sets, s.wave.saturated.sets⟩ }⟩) ∧
    exec (.identify tag (.fields ())) s = .next (s.answered (.identify tag (.fields ()))
      ⟨0xB1, tag, .ok, .identify ⟨0x0E46, 1, 4096, s.link.locked⟩⟩) ∧
    exec (.cacheQuery tag (.fields ())) s = .next (s.answered (.cacheQuery tag (.fields ()))
      ⟨0x55, tag, .ok, .cache
        { settings := s.cache.settings, current := s.cache.current, anchor := s.cache.anchor, counter := s.cache.counter,
          flight := s.cache.flight, deferred := s.cache.deferred,
          leaves := s.cache.leaves.map (fun l =>
            ⟨l.number, l.mode, l.background, l.useCount, l.turnSlot, l.edge,
              (l.blocks.filter s.pool.written).length⟩) }⟩) ∧
    exec (.keyQuery tag (.fields ())) s = .next (s.answered (.keyQuery tag (.fields ()))
      ⟨0x61, tag, .ok, .keys ⟨s.keys.timestamp, s.keys.inputs.toList.map (fun i =>
        ⟨i.config, i.raw, i.debounced, i.armed, i.held, i.debounce.isSome, i.holdTimer.isSome, i.repeatTimer.isSome⟩)⟩⟩) ∧
    (∀ id n, 1 ≤ id → id ≤ 254 → s.stream.named id = some n →
      ((s.record n).mode = .closed →
        exec (.streamQuery tag (.fields id)) s = .next (s.answered (.streamQuery tag (.fields id))
          ⟨0x95, tag, .ok, .streamClosed (s.record n).closing⟩)) ∧
      ((s.record n).mode ≠ .closed →
        exec (.streamQuery tag (.fields id)) s = .next (s.answered (.streamQuery tag (.fields id))
          ⟨0x95, tag, .ok, .stream
            { mode := (s.record n).mode, pause := (s.record n).pause, fail := (s.record n).fail
              expected := (s.record n).expected
              segments := (s.record n).segments.map (fun g =>
                ⟨g.ordinal, g.count, g.state, g.accepted, g.drained, g.crc, g.action⟩)
              blocks := (s.record n).blocks.length, tail := (s.record n).tail, head := (s.record n).head
              limit := (s.record n).limit, threshold := (s.record n).threshold, stall := (s.record n).stallTime
              thresholdArmed := (s.record n).thresholdArmed, counters := (s.record n).counters
              landmarks := (s.record n).landmarks, landmarkOverflow := (s.record n).landmarkOverflow }⟩))) ∧
    (∀ id, 1 ≤ id → id ≤ 254 → s.stream.named id = none →
      exec (.streamQuery tag (.fields id)) s =
        .next (s.answered (.streamQuery tag (.fields id)) (plainReply 0x95 tag .noSuch))) ∧
    (∀ id, id = 0 ∨ 254 < id →
      exec (.streamQuery tag (.fields id)) s =
        .next (s.answered (.streamQuery tag (.fields id)) (plainReply 0x95 tag .badParam)))

/-- POOL_SETUP, TEMP_SETUP, SCAN_SETUP, RAIL_SETUP (lock open), CACHE_SETUP, LINK_SETUP, SETUP_END and DRAIN_SELECT replace
their values, clamped where their rules clamp, are answered OK, and change nothing else (R9, R34, R61, R73, R100, R185, R186,
R164). The new reserve reaches the radio port with HOLD formed afresh; a sample timer that runs is reloaded.

The refusals of POOL_SETUP above 256, CACHE_SETUP out of range, SETUP_END without a geometry and DRAIN_SELECT of no stream
change nothing (R9, R100, R186, R164).

While the limits lock is set, PANEL_SETUP, RAIL_SETUP, BUDGET_SETUP and a LIGHT_SETUP that gives a ceiling or the floor are
answered LOCKED and change nothing (R186, R7, R73, R79, R132). -/
def Obligations.SettingsCommandsReplaceTheirValues : Prop :=
  (∀ (tag : Nat) (s : State), s.serves →
     (∀ r, r ≤ 256 → exec (.poolSetup tag (.fields r)) s = .next ({ s with
       pool := { s.pool with reserve := r }
       radio := { s.radio with freeCopy := s.pool.freeCount, reserveCopy := r }.rehold }.answered
         (.poolSetup tag (.fields r)) (plainReply 0x11 tag .ok))) ∧
     (∀ a : TempArgs, exec (.tempSetup tag (.fields a)) s = .next ({ s with
       wave := { s.wave with
         period := clampNat 1 60 a.period
         hyst := clampNat 0 50 a.hyst
         timer := reloadTimer s.wave.timer (clampNat 1 60 a.period) } }.answered
         (.tempSetup tag (.fields a)) (plainReply 0x23 tag .ok))) ∧
     (∀ p, exec (.scanSetup tag (.fields p)) s = .next ({ s with
       engine := { s.engine with framePeriod := clampNat 500 5000 p } }.answered
         (.scanSetup tag (.fields p)) (plainReply 0x32 tag .ok))) ∧
     (∀ a : RailArgs, s.link.locked = false → exec (.railSetup tag (.fields a)) s = .next ({ s with
       rail := { s.rail with
         riseTime := clampNat 1 50 a.rise
         fallTime := clampNat 1 50 a.fall
         holdTime := clampNat 0 255 a.hold } }.answered
         (.railSetup tag (.fields a)) (plainReply 0x40 tag .ok))) ∧
     (∀ a : CacheArgs, cacheGood a = true → exec (.cacheSetup tag (.fields a)) s = .next ({ s with
       cache := { s.cache with settings := a } }.answered
         (.cacheSetup tag (.fields a)) (plainReply 0x54 tag .ok))) ∧
     (∀ t, exec (.linkSetup tag (.fields t)) s = .next ({ s with
       link := { s.link with timeout := clampNat 1 64 t } }.answered
         (.linkSetup tag (.fields t)) (plainReply 0xB2 tag .ok))) ∧
     (s.pool.geometry.isSome = true → exec (.setupEnd tag (.fields ())) s = .next ({ s with
       link := { s.link with locked := true } }.answered
         (.setupEnd tag (.fields ())) (plainReply 0xB3 tag .ok))) ∧
     (∀ id, 1 ≤ id → id ≤ 254 → (s.stream.find id).isSome = true →
       exec (.drainSelect tag (.fields id)) s = .next ({ s with
         link := { s.link with selection := some id } }.answered
           (.drainSelect tag (.fields id)) (plainReply 0x96 tag .ok)))) ∧
  (∀ (tag : Nat) (s : State), s.serves →
     (∀ r, 256 < r → exec (.poolSetup tag (.fields r)) s =
       .next (s.answered (.poolSetup tag (.fields r)) (plainReply 0x11 tag .badParam))) ∧
     (∀ a : CacheArgs,
       a.lowWater = 0 ∨ 8 < a.lowWater ∨ a.cadence = 0 ∨ 63 < a.cadence ∨ 4 < a.guardDist
         ∨ (∃ n, a.partialSlot = some n ∧ 5 < n) ∨ (∃ n, a.fullSlot = some n ∧ 5 < n) →
       exec (.cacheSetup tag (.fields a)) s =
         .next (s.answered (.cacheSetup tag (.fields a)) (plainReply 0x54 tag .badParam))) ∧
     (s.pool.geometry = none → exec (.setupEnd tag (.fields ())) s =
       .next (s.answered (.setupEnd tag (.fields ())) (plainReply 0xB3 tag .state))) ∧
     (∀ id, id = 0 ∨ 254 < id → exec (.drainSelect tag (.fields id)) s =
       .next (s.answered (.drainSelect tag (.fields id)) (plainReply 0x96 tag .badParam))) ∧
     (∀ id, 1 ≤ id → id ≤ 254 → s.stream.find id = none → exec (.drainSelect tag (.fields id)) s =
       .next (s.answered (.drainSelect tag (.fields id)) (plainReply 0x96 tag .noSuch)))) ∧
  (∀ (tag : Nat) (s : State), s.serves → s.link.locked = true →
     (∀ a, exec (.panelSetup tag (.fields a)) s =
       .next (s.answered (.panelSetup tag (.fields a)) (plainReply 0x10 tag .locked))) ∧
     (∀ a, exec (.railSetup tag (.fields a)) s =
       .next (s.answered (.railSetup tag (.fields a)) (plainReply 0x40 tag .locked))) ∧
     (∀ a, exec (.budgetSetup tag (.fields a)) s =
       .next (s.answered (.budgetSetup tag (.fields a)) (plainReply 0x42 tag .locked))) ∧
     (∀ a : LightSetupArgs, a.warmCeiling.isSome = true ∨ a.coolCeiling.isSome = true ∨ a.floor.isSome = true →
       exec (.lightSetup tag (.fields a)) s =
         .next (s.answered (.lightSetup tag (.fields a)) (plainReply 0x72 tag .locked))))

/-! ### Power states -/

/-- DOZE sets a given standby delay, clamped to 1..255, and by state becomes DOZE, stays DOZE, or is answered STATE; the new
state reaches the radio port's HOLD, the link and the budget unit, and the standby delay timer follows its conditions
(R171, R168, R175).

WAKE_MASK with numbers 1..28 makes exactly the listed kinds wake-worthy and counts the queue afresh; a number outside
changes nothing (R169, R193). -/
def Obligations.DozeAndWakeMaskSetThePowerController : Prop :=
  (∀ (tag : Nat) (d : Option Nat) (s : State), s.serves →
     (s.power.mode = .active →
       exec (.doze tag (.fields d)) s = .next ({ s with
         power := { s.power with mode := .doze, delay := givenOr s.power.delay (clampNat 1 255) d }.recheckDoze
         radio := { s.radio with powerCopy := .doze }.rehold
         link := { s.link with powerCopy := .doze }
         budget := { s.budget with power := .doze } }.answered (.doze tag (.fields d)) (plainReply 0xA0 tag .ok))) ∧
     (s.power.mode = .doze →
       exec (.doze tag (.fields d)) s = .next ({ s with
         power := { s.power with delay := givenOr s.power.delay (clampNat 1 255) d } }.answered
           (.doze tag (.fields d)) (plainReply 0xA0 tag .ok))) ∧
     (s.power.mode = .settling →
       exec (.doze tag (.fields d)) s = .next ({ s with
         power := { s.power with delay := givenOr s.power.delay (clampNat 1 255) d } }.answered
           (.doze tag (.fields d)) (plainReply 0xA0 tag .state)))) ∧
  (∀ (tag : Nat) (ks : List Nat) (s : State), s.serves →
     ((∀ k ∈ ks, 1 ≤ k ∧ k ≤ 28) → ∃ mask : List ReportKind,
       (∀ k, k ∈ mask ↔ kindNumber k ∈ ks) ∧
       exec (.wakeMask tag (.fields ks)) s = .next ({ s with power := { s.power with mask := mask } }.answered
         (.wakeMask tag (.fields ks)) (plainReply 0xA2 tag .ok))) ∧
     ((∃ k ∈ ks, k = 0 ∨ 28 < k) →
       exec (.wakeMask tag (.fields ks)) s =
         .next (s.answered (.wakeMask tag (.fields ks)) (plainReply 0xA2 tag .badParam))))

/-- SLEEP in ACTIVE or DOZE, and the expiry of the standby delay timer in DOZE, take the part to SETTLING, and to STANDBY in the
same event where it is idle; lanes, pending updates, the rails and page memory go on as they were. SLEEP in SETTLING is
answered OK and changes nothing (R171, R172, R173, R175, R176). -/
def Obligations.SleepRequestsSettleThePart : Prop :=
  ∀ s : State,
    (∀ tag, s.serves → s.power.mode = .active ∨ s.power.mode = .doze →
      ∃ t, exec (.sleep tag (.fields ())) s = .next t ∧ SleepTaken true s t ∧
        t.link.queue = s.link.queue ++ [.reply (plainReply 0xA1 tag .ok)] ∧
        t.link.buffer = bufferAfter (.sleep tag (.fields ())) s.link.buffer ∧
        SameExcept [.pool, .wave, .budget, .cache, .keys, .light, .radio, .stream, .power, .link] s t) ∧
    (∀ tag, s.serves → s.power.mode = .settling →
      exec (.sleep tag (.fields ())) s = .next (s.answered (.sleep tag (.fields ())) (plainReply 0xA1 tag .ok))) ∧
    (s.power.mode = .doze → s.power.timer.isSome = true →
      ∃ t, exec .standbyDelayExpire s = .next t ∧ SleepTaken false s t ∧ t.link.queue = s.link.queue ∧
        t.link.buffer = s.link.buffer ∧
        SameExcept [.pool, .wave, .budget, .cache, .keys, .light, .radio, .stream, .power, .link] s t) ∧
    (¬(s.power.mode = .doze ∧ s.power.timer.isSome = true) → exec .standbyDelayExpire s = .next s)

/-- The assertion of the chip select reaches the power controller first: in ACTIVE nothing, in DOZE the state becomes ACTIVE, in
SETTLING the sleep is cancelled unless the host asked for it; the transaction then begins. In STANDBY it begins WAKING with
cause LINK, and in WAKING it sets the end state ACTIVE; there it is not served. A second assertion within a transaction is
no event (R171, R174, R177; that it is none is log 4).

A break on the watched line in STANDBY raises BREAK and WAKE by one, ends the watch and begins WAKING with cause RADIO towards
DOZE, with RADIO_WAKE raised; without a watch, or in another state, it is no wake (R147, R177). -/
def Obligations.LinkAndRadioWakeThePart : Prop :=
  (∀ s : State,
     (s.link.transaction ≠ .none → exec .chipSelectAssert s = .next s) ∧
     (s.link.transaction = .none →
       (s.power.mode = .active ∨ (s.power.mode = .settling ∧ s.power.hostAsked = true) →
         exec .chipSelectAssert s = .next { s with link := { s.link with transaction := .begun } }) ∧
       (s.power.mode = .doze →
         exec .chipSelectAssert s = .next { s with
           power := { s.power with mode := .active, timer := none }
           radio := { s.radio with powerCopy := .active }.rehold
           link := { s.link with powerCopy := .active, transaction := .begun }
           budget := { s.budget with power := .active } }) ∧
       (s.power.mode = .settling → s.power.hostAsked = false →
         ∃ t, exec .chipSelectAssert s = .next t ∧ t.power.mode = .active ∧ t.link.transaction = .begun ∧
           t.cache.sleepMark = false ∧ HoldsReleased t ∧ t.link.queue = s.link.queue ∧
           SameExcept [.budget, .cache, .light, .radio, .stream, .power, .link] s t) ∧
       (s.power.mode = .standby →
         ∃ t, exec .chipSelectAssert s = .next t ∧ t.power.mode = .waking ∧ t.power.cause = some .link ∧
           t.power.wakeEnd = some .active ∧ t.power.linkDuringWake = false ∧ t.link.transaction = .unserved ∧
           (∀ i ∈ t.keys.inputs.toList, i.sense = .none) ∧ t.radio.watching = false ∧
           (s.pool.refresh = .entering → t.pool.refresh = .enteringWakeAsked) ∧
           (s.pool.refresh ≠ .entering → t.pool.refresh = .leaving) ∧
           (s.link.roomForReport = true → t.link.queue = s.link.queue ++ [.report (.wake .link)]) ∧
           SameExcept [.pool, .budget, .keys, .radio, .power, .link] s t) ∧
       (s.power.mode = .waking →
         ∃ t, exec .chipSelectAssert s = .next t ∧ t.power.mode = .waking ∧ t.power.linkDuringWake = true ∧
           (s.power.linkDuringWake = false → t.power.wakeEnd = some .active) ∧ t.link.transaction = .unserved ∧
           SameExcept [.power, .link] s t))) ∧
  (∀ s : State,
     (s.power.mode = .standby → s.radio.watching = true →
       ∃ t, exec .radioBreakWake s = .next t ∧ t.power.mode = .waking ∧ t.power.cause = some .radio ∧
         t.power.wakeEnd = some .doze ∧ t.power.linkDuringWake = false ∧ t.radio.watching = false ∧
         t.radio.counts.brk = bumpCount s.radio.counts.brk ∧ t.radio.counts.wake = bumpCount s.radio.counts.wake ∧
         (∀ i ∈ t.keys.inputs.toList, i.sense = .none) ∧ t.keys.latch = s.keys.latch ∧
         (s.link.roomForReport = true → t.link.queue = s.link.queue ++ [.report .radioWake]) ∧
         SameExcept [.pool, .budget, .keys, .radio, .power, .link] s t) ∧
     (¬(s.power.mode = .standby ∧ s.radio.watching = true) → exec .radioBreakWake s = .next s))

/-- The pool's answers: memory asked into self-refresh is in it once no payload write is in flight, and comes out at once where a
wake already waits; a ready answer in WAKING ends WAKING, and every other answer is no event (R15, R178; log 29).

WAKING completes into its end state: page memory is ready, the radio receiver starts on an empty FIFO, the streams leave
their sleep pauses, the filter restarts, the light leaves its hold and stays dark only after a radio wake, and the latch is
emptied (R178, R128, R147, R166, R30). A latched key's events follow (R115); they may ask for sleep again, so the state
they leave is claimed where the latch is empty.

WAKING completes with what waited through it. A LOWBAT assertion left unreported gives LOW_BATTERY while it still stands (R76).
The latched key is delivered in the state entered: a COVER key's RELEASE, any other key's PRESS, at the latched time, and at once
the opposite event where its raw level has gone back; every other enabled input is then resampled, unless the key has put the part
back into STANDBY (R115; log 22). -/
def Obligations.WakingCompletesAndMemoryAnswers : Prop :=
  (∀ s : State,
     ((∀ r ∈ s.stream.records.toList, r.flight = none) →
       (s.pool.refresh = .entering →
         exec .selfRefreshEntered s = .next { s with pool := { s.pool with refresh := .inRefresh } }) ∧
       (s.pool.refresh = .enteringWakeAsked →
         exec .selfRefreshEntered s = .next { s with pool := { s.pool with refresh := .leaving } }) ∧
       (s.pool.refresh ≠ .entering → s.pool.refresh ≠ .enteringWakeAsked → exec .selfRefreshEntered s = .next s)) ∧
     ((∃ r ∈ s.stream.records.toList, r.flight ≠ none) → exec .selfRefreshEntered s = .next s) ∧
     (¬(s.power.mode = .waking ∧ s.pool.refresh = .leaving) → exec .wakingComplete s = .next s)) ∧
  (∀ (s : State) (m : PowerMode), s.power.mode = .waking → s.pool.refresh = .leaving →
     s.power.wakeEnd = some m → m = .active ∨ m = .doze →
     ∃ t, exec .wakingComplete s = .next t ∧ t.wave.filtered = none ∧ t.wave.samples = 0 ∧ t.keys.latch = none ∧
       SameBytesExcept (fun _ => False) s t ∧
       (s.keys.latch = none →
         t.power.mode = m ∧ t.pool.refresh = .awake ∧ t.wave.timer = .due ∧ t.radio.fifo = [] ∧
           t.radio.receiver = (if s.radio.enabled then .seekHigh else .stopped) ∧ HoldsReleased t ∧
           t.light.dimmed = false ∧
           t.light.dark = (s.power.cause = some .radio && !s.power.linkDuringWake) ∧
           t.link.powerCopy = m ∧ t.radio.powerCopy = m ∧ t.budget.power = m ∧
           SameExcept [.pool, .wave, .budget, .keys, .light, .radio, .stream, .power, .link] s t)) ∧
  (∀ (s : State) (m : PowerMode), s.coherent → s.power.mode = .waking → s.pool.refresh = .leaving →
     s.power.wakeEnd = some m → m = .active ∨ m = .doze → s.link.roomForReport = true →
     ∃ a t : State, exec .wakingComplete s = .next t ∧
       a.power.mode = m ∧ a.keys = { s.keys with latch := none } ∧ a.cache = s.cache ∧ a.engine = s.engine ∧
       a.rail = s.rail ∧ a.link.queue = s.link.queue ++
         (if s.budget.lowbat = true ∧ s.budget.reported = false then [.report .lowBattery] else []) ∧
       a.budget = { s.budget with
         power := m, reported := s.budget.reported || s.budget.lowbat } ∧
       HoldsReleased a ∧ a.light.setLevel = s.light.setLevel ∧ a.light.dimmed = false ∧
       a.light.dark = (s.power.cause = some .radio && !s.power.linkDuringWake) ∧
       (s.keys.latch = none → t.link.queue = a.link.queue ∧ ∀ j, j < 6 → t.key j = resampled (s.key j)) ∧
       (∀ k time, s.keys.latch = some (k, time) → k < 6 → ∃ b : State,
         ((s.key k).config.action ≠ .cover → (s.key k).raw = (s.key k).config.active →
           KeyEventTaken k .press time a b) ∧
         ((s.key k).config.action ≠ .cover → (s.key k).raw ≠ (s.key k).config.active →
           ∃ c, KeyEventTaken k .press time a c ∧ KeyEventTaken k .release s.keys.timestamp c b) ∧
         ((s.key k).config.action = .cover → (s.key k).raw ≠ (s.key k).config.active →
           KeyEventTaken k .release time a b) ∧
         ((s.key k).config.action = .cover → (s.key k).raw = (s.key k).config.active →
           ∃ c, KeyEventTaken k .release time a c ∧ KeyEventTaken k .press s.keys.timestamp c b) ∧
         t.key k = b.key k ∧ t.link.queue = b.link.queue ∧ t.cache = b.cache ∧ t.engine = b.engine ∧ t.light = b.light ∧
         t.power.mode = b.power.mode ∧ t.keys.latch = none ∧
         (servingMode b.power.mode = true → ∀ j, j < 6 → j ≠ k → t.key j = resampled (s.key j)) ∧
         (b.power.mode = .standby → t.keys = b.keys)))

/-! ### The link's transactions -/

/-- Bytes of a WRITE gather until kind, length and body are whole, in one row or several; the packet then joins the buffer, and
what follows in the transaction is ignored. Until then they only gather, and the stall timer restarts (R182, R190).

A WRITE ends in LINK_ERROR with OVERFLOW where four packets wait, with LONG where its length exceeds 4096, with SHORT where chip
select is released before it is whole, and with STALL where the stall timer expires; a selector that names no transaction
gives SELECTOR. Nothing reaches the buffer, and the rest of the transaction is ignored (R181, R182). -/
def Obligations.WritesBecomePacketsOrErrors : Prop :=
  (∀ (s : State) (got more : List Byte),
     s.link.transaction = .writing got ∨ (s.link.transaction = .begun ∧ got = [] ∧ s.link.buffer.length < 4) →
     (∀ (k l0 l1 : Byte) (body extra : List Byte), got ++ more = k :: l0 :: l1 :: (body ++ extra) →
       l0.toNat + 256 * l1.toNat = body.length → body.length ≤ 4096 → got.length < 3 + body.length →
       exec (.write more) s = .next { s with link := { s.link with
         transaction := .ignored, stall := none, buffer := s.link.buffer ++ [⟨k.toNat, body⟩] } }) ∧
     ((got ++ more).length < 3 ∨ (∃ (k l0 l1 : Byte) (part : List Byte), got ++ more = k :: l0 :: l1 :: part ∧
         part.length < l0.toNat + 256 * l1.toNat ∧ l0.toNat + 256 * l1.toNat ≤ 4096) →
       more ≠ [] →
       exec (.write more) s = .next { s with link := { s.link with
         transaction := .writing (got ++ more), stall := some s.link.timeout } })) ∧
  (∀ s : State,
     (∀ bytes, s.link.transaction = .begun → 4 ≤ s.link.buffer.length →
       exec (.write bytes) s = .next (raise (.linkError .overflow)
         { s with link := { s.link with transaction := .ignored, stall := none } })) ∧
     (∀ (got more rest : List Byte) (k l0 l1 : Byte),
       s.link.transaction = .writing got ∨ (s.link.transaction = .begun ∧ got = [] ∧ s.link.buffer.length < 4) →
       got.length < 3 → got ++ more = k :: l0 :: l1 :: rest → 4096 < l0.toNat + 256 * l1.toNat →
       exec (.write more) s = .next (raise (.linkError .long)
         { s with link := { s.link with transaction := .ignored, stall := none } })) ∧
     (∀ got whole, s.link.transaction = .writing got →
       exec (.chipSelectRelease whole) s = .next (raise (.linkError .short)
         { s with link := { s.link with transaction := .none, stall := none } })) ∧
     (s.link.stall.isSome = true →
       exec .linkStallExpire s = .next (raise (.linkError .stall)
         { s with link := { s.link with transaction := .ignored, stall := none } })) ∧
     (s.link.stall = none → exec .linkStallExpire s = .next s) ∧
     (s.link.transaction = .begun →
       exec .voidTransaction s = .next (raise (.linkError .selector)
         { s with link := { s.link with transaction := .ignored } })) ∧
     (s.link.transaction ≠ .begun → exec .voidTransaction s = .next s) ∧
     (∀ bytes, s.link.transaction ≠ .begun → (∀ got, s.link.transaction ≠ .writing got) →
       exec (.write bytes) s = .next s))

/-- The first byte of a served transaction selects its row: 0xA1 WRITE, 0xB2 READ-MESSAGE, 0xB4 READ-DRAIN, any other none; and what
the host clocks out is what the transaction sends, then 0xFF (R190, R181, R193); that a WRITE and an ignored transaction send 0xFF
throughout is log 59.

READ-MESSAGE fixes the entry at the head of the queue, READ-DRAIN the chunk of the selected stream, and nothing else changes;
in a transaction begun in STANDBY or WAKING the answer is EMPTY, or a chunk of length 0 with no id and state CLOSED (R181, R164,
R177; the id, the state and the clear overflow mark are log 49). An EMPTY answer is the entry type 0x00 and the length 0 (R193).

The chunk READ-DRAIN offers. It has length 0 without a selected stream that is there or with nothing to offer. Otherwise it
begins at the drained count of the oldest descriptor with undrained bytes and runs to the first of that descriptor's last accepted
byte, the last byte before the write in flight (staged bytes reach memory as log 25 says) and 1024 bytes, as page memory holds
them from the head offset on; it carries the segment-end mark where it ends a finished descriptor, every landmark up to its last
byte, and the overflow mark (R164). A chunk of length 0 carries the stream's overflow mark too (R160); what else it carries is
log 47. -/
def Obligations.ReadsFixTheirAnswer : Prop :=
  ((∀ bytes, transactionRow 0xA1 bytes = .write bytes ∧ transactionRow 0xB2 bytes = .readMessage ∧
     transactionRow 0xB4 bytes = .readDrain) ∧
   (∀ b bytes, b ≠ 0xA1#8 → b ≠ 0xB2#8 → b ≠ 0xB4#8 → transactionRow b bytes = .voidTransaction) ∧
   (∀ (t : Transaction) (n : Nat), (clockedBytes t n).length = n ∧
     ∀ i, i < n → (clockedBytes t n).getD i 0 = (sentBytes t).getD i 0xFF)) ∧
  ((∀ s : State,
     (s.link.transaction = .begun →
       exec .readMessage s = .next { s with link := { s.link with
         transaction := .readMessage (s.link.queue.head?.map (fun e => (e, true))) } } ∧
       exec .readDrain s = .next { s with link := { s.link with transaction := .readDrain (makeChunk s) } }) ∧
     (s.link.transaction = .unserved →
       exec .readMessage s = .next { s with link := { s.link with transaction := .readMessage none } } ∧
       exec .readDrain s = .next { s with link := { s.link with
         transaction := .readDrain ⟨none, none, .closed, 0, 0, [], false, [], false⟩ } }) ∧
     (s.link.transaction ≠ .begun → s.link.transaction ≠ .unserved →
       exec .readMessage s = .next s ∧ exec .readDrain s = .next s)) ∧
   sentBytes (.readMessage none) = [0x00, 0x00, 0x00]) ∧
  (∀ s : State,
     (s.link.selection = none → makeChunk s = ⟨none, none, .closed, 0, 0, [], false, [], false⟩) ∧
     (∀ id, s.link.selection = some id → s.stream.find id = none →
       makeChunk s = ⟨none, some id, .closed, 0, 0, [], false, [], false⟩) ∧
     (∀ id n, s.link.selection = some id → s.stream.find id = some n →
       ((∀ g ∈ (s.record n).segments, g.accepted ≤ g.drained) →
         makeChunk s = ⟨none, some id, (s.record n).mode, 0, 0, [], false, [], (s.record n).landmarkOverflow⟩) ∧
       (∀ front g back len, (s.record n).segments = front ++ g :: back → (∀ x ∈ front, x.accepted ≤ x.drained) →
         g.drained < g.accepted →
         len = min (min (g.accepted - g.drained) (match (s.record n).flight with
           | none => (s.record n).counters.accepted - (s.record n).counters.drained
           | some w => w.start - (s.record n).counters.drained)) 1024 →
         (len = 0 →
           makeChunk s = ⟨none, some id, (s.record n).mode, 0, 0, [], false, [], (s.record n).landmarkOverflow⟩) ∧
         (0 < len → makeChunk s =
           { record := some n, id := some id, mode := (s.record n).mode, ordinal := g.ordinal, offset := g.drained
             bytes := (List.range len).map (fun i =>
               Memory.read s.mem (imageAddr (s.record n).blocks ((s.record n).head + i)))
             segmentEnd := decide (g.drained + len = g.accepted ∧ (g.state = .done ∨ g.state = .failed ∨
               (s.record n).mode = .ended ∨ (s.record n).mode = .failed))
             landmarks := (s.record n).landmarks.filter (fun e =>
               e.1 < g.ordinal || (e.1 == g.ordinal && e.2 ≤ g.drained + len - 1))
             overflow := (s.record n).landmarkOverflow }))))

/-- Where the chip select is released after an entry has been clocked out whole, that entry leaves the queue, and for a STATUS
reply the flags it carried are cleared unless they have been set again, the radio counts fall by the values carried and the
report marks are cleared. A read cut short, and any other transaction but a WRITE, only ends (R181, R185, R144). -/
def Obligations.ReadOutMessageLeavesQueue : Prop :=
  ∀ s : State,
    (∀ e queued, s.link.transaction = .readMessage (some (e, queued)) → (∀ r x, e = .reply r → r.state ≠ .status x) →
      exec (.chipSelectRelease true) s = .next (
        if queued then { s with link := { s.link with transaction := .none, stall := none } }.withQueue s.link.queue.tail
        else { s with link := { s.link with transaction := .none, stall := none } })) ∧
    (∀ r x, s.link.transaction = .readMessage (some (.reply r, true)) → r.state = .status x →
      exec (.chipSelectRelease true) s = .next ({ s with
        link := { s.link with
          transaction := .none
          stall := none
          overflow := if x.link.overflow && s.link.overflow.sets == x.marks.overflow
            then ⟨false, s.link.overflow.sets⟩ else s.link.overflow }
        budget := { s.budget with
          budgetOver := if x.budget.budgetOver && s.budget.budgetOver.sets == x.marks.budgetOver
            then ⟨false, s.budget.budgetOver.sets⟩ else s.budget.budgetOver }
        wave := { s.wave with
          saturated := if x.wave.saturated && s.wave.saturated.sets == x.marks.saturated
            then ⟨false, s.wave.saturated.sets⟩ else s.wave.saturated }
        radio := { s.radio with
          counts := lowerCounts s.radio.counts x.radio.counts
          marks := [] } }.withQueue s.link.queue.tail)) ∧
    (∀ e, s.link.transaction = .readMessage e →
      exec (.chipSelectRelease false) s = .next { s with link := { s.link with transaction := .none, stall := none } }) ∧
    (∀ c, s.link.transaction = .readDrain c →
      exec (.chipSelectRelease false) s = .next { s with link := { s.link with transaction := .none, stall := none } }) ∧
    (∀ whole, s.link.transaction = .none ∨ s.link.transaction = .unserved ∨ s.link.transaction = .begun ∨
        s.link.transaction = .ignored ∨ s.link.transaction = .readMessage none →
      exec (.chipSelectRelease whole) s = .next { s with link := { s.link with transaction := .none, stall := none } })

/-- A drain chunk clocked out whole is committed: its bytes count as drained by the stream and by its descriptor, finished
descriptors that are drained leave, the head blocks they emptied return to the pool (all blocks, once an ended or failed stream is
drained) with the head offset beginning afresh, the landmarks it carried leave the list with the overflow mark of an emptied one,
a fallen block count may arm the threshold again, and the headroom signal follows; every other record, and page memory, stay as
they were (R164, R4, R151, R160, R163, R150). A chunk of length 0 commits nothing: a stream that failed with nothing staged keeps its
drained block (log 58). -/
def Obligations.DrainedChunkIsCommitted : Prop :=
  ∀ (s : State) (c : Chunk), s.coherent → s.link.transaction = .readDrain c →
    (c.record = none →
      exec (.chipSelectRelease true) s = .next { s with link := { s.link with transaction := .none, stall := none } }) ∧
    (∀ n, n < 4 → c.record = some n →
      ∃ (t : State) (k : Nat) (rest : List Nat), exec (.chipSelectRelease true) s = .next t ∧
        k = (if ((s.record n).mode = .ended ∨ (s.record n).mode = .failed) ∧
            (s.record n).counters.accepted ≤ (s.record n).counters.drained + c.bytes.length
          then (s.record n).blocks.length
          else min (((s.record n).head + c.bytes.length) / 4096) (s.record n).blocks.length) ∧
        rest = (s.record n).blocks.drop k ∧
        t.record n = { s.record n with
          counters := { (s.record n).counters with drained := (s.record n).counters.drained + c.bytes.length }
          segments := ((s.record n).segments.map (fun g =>
              if g.ordinal = c.ordinal then { g with drained := g.drained + c.bytes.length } else g)).filter (fun g =>
                !((g.state = .done || g.state = .failed || (s.record n).mode = .ended || (s.record n).mode = .failed)
                  && g.drained == g.accepted))
          blocks := rest
          head := if rest = [] then 0 else (s.record n).head + c.bytes.length - 4096 * k
          tail := if rest = [] then 0 else (s.record n).tail
          landmarks := (s.record n).landmarks.drop c.landmarks.length
          landmarkOverflow := (s.record n).landmarkOverflow &&
            decide ((s.record n).landmarks.drop c.landmarks.length ≠ [])
          thresholdArmed := (s.record n).thresholdArmed ||
            (decide (0 < k) && decide (2 * rest.length < (s.record n).threshold)) } ∧
        t.pool = s.pool.release ((s.record n).blocks.take k) ∧
        (∀ m, m ≠ n → t.record m = s.record m) ∧
        (t.stream.headroom = true ↔ ∃ m, m < 4 ∧ ((t.record m).mode = .opened ∨ (t.record m).mode = .running) ∧
          (t.record m).limit < (t.record m).blocks.length + 2) ∧
        t.stream.running = s.stream.running ∧ t.stream.sleepHold = s.stream.sleepHold ∧
        t.radio.headroomCopy = t.stream.headroom ∧ t.radio.freeCopy = t.pool.freeCount ∧
        t.link = { s.link with transaction := .none, stall := none } ∧
        SameExcept [.pool, .radio, .stream, .link] s t)

/-! ### Resets -/

/-- What the part holds right after a power-on reset, as the reset tables of the chapters give it; the three sampled inputs and the
blank page memory are the model's choice (logs 5, 6).

A power-on reset leaves the state of the reset tables with the sampled levels: power-good, LOWBAT with the budget and the
allowance it brings, and the six key levels; the queue holds RESET_DONE(POWER_ON), and LOW_BATTERY behind it where LOWBAT is
asserted. A transaction in progress is ignored until its end; rows that wait stay (R188, R74, R76, R80, R105, R118). That page
memory then reads blank and that the latest raw reading is 0 before the first sample are the model's choices (logs 5, 41), and the
fields without meaning then are the empty record's (log 31). -/
def Obligations.PowerOnResetLeavesTheResetTables : Prop :=
  ((State.reset.pool.freeCount = 3904 ∧ State.reset.pool.table = [] ∧ State.reset.pool.reserve = 32 ∧
     State.reset.pool.geometry = none ∧ State.reset.pool.refresh = .awake) ∧
   ((∀ n, n < 6 → (State.reset.slot n).state = .empty ∧ (State.reset.slot n).useCount = 0) ∧
     State.reset.wave.load = none ∧ State.reset.wave.filtered = none ∧ State.reset.wave.samples = 0 ∧
     State.reset.wave.timer = .due ∧ State.reset.wave.period = 1 ∧ State.reset.wave.hyst = 10 ∧
     State.reset.wave.saturated.isSet = false) ∧
   ((∀ n, n < 8 → (State.reset.lane n).state = .free) ∧ State.reset.engine.pending = [] ∧
     State.reset.engine.uncertain = [] ∧ State.reset.engine.whole = false ∧ State.reset.engine.framePeriod = 1180 ∧
     State.reset.engine.scan = none) ∧
   (State.reset.rail.mode = .off ∧ State.reset.rail.riseTime = 10 ∧ State.reset.rail.fallTime = 8 ∧
     State.reset.rail.holdTime = 50 ∧ State.reset.rail.cause = none) ∧
   (State.reset.budget.normal = 300 ∧ State.reset.budget.low = 150 ∧ State.reset.budget.base = 25 ∧
     State.reset.budget.coeff = 300 ∧ State.reset.budget.allowance = 300 ∧ State.reset.budget.reported = true) ∧
   (State.reset.cache.leaves = [] ∧ State.reset.cache.current = none ∧ State.reset.cache.anchor = none ∧
     State.reset.cache.counter = 0 ∧ State.reset.cache.settings = ⟨2, 6, 1, none, none⟩) ∧
   ((∀ n, n < 6 → (State.reset.key n).config = ⟨false, .low, .edge, 10, 0, 25, .none, 5, false⟩ ∧
     (State.reset.key n).debounced = .unknown) ∧ State.reset.keys.timestamp = 0 ∧ State.reset.keys.latch = none) ∧
   (State.reset.light.setLevel = 0 ∧ State.reset.light.warmth = 50 ∧ State.reset.light.rampInterval = 8 ∧
     State.reset.light.dim = 20 ∧ State.reset.light.dwellTime = 0 ∧ State.reset.light.warmCeiling = 20 ∧
     State.reset.light.coolCeiling = 20 ∧ State.reset.light.floor = 10 ∧
     State.reset.light.curve = [0, 205, 410, 614, 819, 1024, 1229, 1433, 1638, 1843, 2048] ++
       [2252, 2457, 2662, 2867, 3071, 3276, 3481, 3686, 3890, 4095]) ∧
   (State.reset.radio.enabled = false ∧ State.reset.radio.rate = .b115200 ∧ State.reset.radio.gapTime = 20 ∧
     State.reset.radio.wake = false ∧ State.reset.radio.fifo = [] ∧ State.reset.radio.asm = .hunt ∧
     State.reset.radio.hold = true ∧ State.reset.radio.counts = {}) ∧
   ((∀ n, n < 4 → (State.reset.record n).mode = .closed ∧ (State.reset.record n).id = none) ∧
     State.reset.stream.headroom = false ∧ State.reset.stream.running = false ∧ State.reset.stream.sleepHold = false) ∧
   (State.reset.power.mode = .active ∧ State.reset.power.delay = 20 ∧ State.reset.power.cause = none ∧
     State.reset.power.timer = none ∧ State.reset.power.mask.length = 16) ∧
   (State.reset.link.queue = [.report (.resetDone .powerOn)] ∧ State.reset.link.buffer = [] ∧
     State.reset.link.timeout = 8 ∧ State.reset.link.locked = false ∧ State.reset.link.selection = none)) ∧
  (∀ (inputs : InputLevels) (s : State),
     exec (.powerOnReset inputs) s = .next { State.reset with
       pending := s.pending
       rail := { powerGood := inputs.powerGood }
       budget := if inputs.lowbat then { lowbat := true, effective := 150, allowance := 150 } else {}
       light := if inputs.lowbat then { allowance := 150 } else {}
       keys := { inputs := Vector.ofFn (fun k => { raw := inputs.keys[k] }) }
       power := if inputs.lowbat then { wakeCount := 1 } else {}
       link := {
         transaction := if s.link.transaction = .none then .none else .ignored
         queue := .report (.resetDone .powerOn) :: (if inputs.lowbat then [.report .lowBattery] else [])
         wakeCount := if inputs.lowbat then 1 else 0 } })

/-- The invariants of this file hold in the state right after reset. -/
def Obligations.InvariantsHoldAtReset : Prop :=
  Memory.wf State.reset.mem ∧ State.reset.queueBounded ∧ State.reset.engineBounded ∧ State.reset.lanesApart ∧
    State.reset.uncertainDrivenWhole ∧ State.reset.leavesSound ∧ State.reset.poolSound ∧ State.reset.coherent

/-- A pin reset keeps page memory, the geometry and the planes, and the uncertain region list with the rectangles of DRIVING lanes
added; leaves and staging blocks return to the pool, whose free count is 3904 - 2P; every other block is as after power-on with
the sampled levels, and RESET_DONE(PIN) leads the queue (R188, R16, R35, R62, R74, R80, R103, R118, R133, R148, R167, R179; values
the tables do not give are logs 6, 31 and 41). -/
def Obligations.PinResetKeepsThePanel : Prop :=
  ∀ (inputs : InputLevels) (s : State),
    ∃ t, exec (.pinReset inputs) s = .next t ∧ t.pending = s.pending ∧ t.mem = s.mem ∧
      t.pool.geometry = s.pool.geometry ∧ t.pool.reserve = 32 ∧ t.pool.refresh = .awake ∧
      (∀ e ∈ t.pool.table, e ∈ s.pool.table ∧ e.owner.isPlane = true) ∧
      (∀ e ∈ s.pool.table, e.owner.isPlane = true → (∀ x ∈ s.pool.table, x.block = e.block → x = e) → e ∈ t.pool.table) ∧
      (s.poolSound → t.pool.freeCount = 3904 - 2 * planeSize s.pool.geometry) ∧
      t.engine = { uncertain := t.engine.uncertain, whole := t.engine.whole } ∧
      ((∀ n, n < 8 → (s.lane n).state ≠ .driving) →
        t.engine.uncertain = s.engine.uncertain ∧ t.engine.whole = s.engine.whole) ∧
      (∀ n, n < 8 → (s.lane n).state = .driving →
        t.engine.whole = true ∨ ∃ u ∈ t.engine.uncertain, rectContains u (s.lane n).rect = true) ∧
      (∀ u ∈ s.engine.uncertain,
        t.engine.whole = true ∨ ∃ v ∈ t.engine.uncertain, rectContains v u = true) ∧
      (s.engine.whole = true → t.engine.whole = true) ∧
      t.wave = State.reset.wave ∧ t.rail = { powerGood := inputs.powerGood } ∧ t.cache = State.reset.cache ∧
      t.stream = State.reset.stream ∧ t.keys = { inputs := Vector.ofFn (fun k => { raw := inputs.keys[k] }) } ∧
      t.budget = (if inputs.lowbat then { lowbat := true, effective := 150, allowance := 150 } else {}) ∧
      t.light = (if inputs.lowbat then { allowance := 150 } else {}) ∧
      t.radio = { freeCopy := t.pool.freeCount } ∧
      t.power = (if inputs.lowbat then { wakeCount := 1 } else {}) ∧
      t.link = {
        transaction := if s.link.transaction = .none then .none else .ignored
        queue := .report (.resetDone .pin) :: (if inputs.lowbat then [.report .lowBattery] else [])
        wakeCount := if inputs.lowbat then 1 else 0 }

/-- A well-formed ENGINE_RESET is taken whatever the queue holds. It empties the queue and queues its reply first, then RESET for
each host lane in lane order and each host entry from the oldest; it frees the lanes and the pending queue, stops the scan, adds
the rectangles of DRIVING lanes to the uncertain list, abandons an open load, lowers the use counts, drops every FILLING leaf,
lets no leaf be shown, enables the enabled keys afresh, closes the streams and returns their blocks, and flushes the radio port
(R187, R62, R24, R103, R118, R148, R167). That the slot of an abandoned load is then the empty record is log 31: R24 and R35 give
its state EMPTY alone. -/
def Obligations.EngineResetClearsTheWork : Prop :=
  ∀ (tag : Nat) (s : State), servingMode s.power.mode = true → s.coherent → s.engineBounded →
    ∃ t, exec (.engineReset tag (.fields ())) s = .next t ∧
      t.link.queue = .reply (plainReply 0xB4 tag .ok) ::
        ((s.engine.lanes.toList.filter (fun l => l.state ≠ .free && l.origin = .host)).map
            (fun l => .report (.updateDone l.tag .reset l.promoted)) ++
          (s.engine.pending.filter (fun e => e.origin = .host)).map
            (fun e => .report (.updateDone e.tag .reset false))) ∧
      (∀ n, n < 8 → (t.lane n).state = .free) ∧ t.engine.pending = [] ∧ t.engine.scan = none ∧ t.engine.load = 0 ∧
      t.budget.load = 0 ∧
      ((∀ n, n < 8 → (s.lane n).state ≠ .driving) →
        t.engine.uncertain = s.engine.uncertain ∧ t.engine.whole = s.engine.whole) ∧
      (∀ n, n < 8 → (s.lane n).state = .driving →
        t.engine.whole = true ∨ ∃ u ∈ t.engine.uncertain, rectContains u (s.lane n).rect = true) ∧
      t.wave.load = none ∧ (∀ l, s.wave.load = some l → l.slot < 6 → t.slot l.slot = {}) ∧
      (∀ n, n < 6 → s.wave.load.map Load.slot ≠ some n → t.slot n = { s.slot n with
        useCount := (s.slot n).useCount -
          ((s.engine.lanes.toList.filter (fun l => l.state ≠ .free && l.slot = n)).length +
            (s.engine.pending.filter (fun e => e.slot = n)).length) }) ∧
      (s.leavesSound → t.cache.leaves = (s.cache.leaves.filter (fun l => l.mode ≠ .filling)).map (fun l => { l with
        mode := .ready
        useCount := l.useCount -
          ((s.engine.lanes.toList.filter (fun x => x.state ≠ .free && x.source = .leaf l.number)).length +
            (s.engine.pending.filter (fun e => e.source = .leaf l.number)).length) })) ∧
      t.cache.current = none ∧ t.cache.flight = none ∧ t.cache.deferred = none ∧
      (s.leavesSound → s.poolSound → ∀ e, e ∈ t.pool.table ↔ e ∈ s.pool.table ∧ e.owner.isStage = false ∧
        ∀ n w, e.owner = .leaf n w → ∃ l, s.cache.leaf n = some l ∧ l.mode ≠ .filling) ∧
      t.keys.latch = none ∧
      (t.power.mode ≠ .standby → ∀ k, k < 6 → t.key k = (if (s.key k).config.enabled = true
        then { s.key k with
          debounced := .unknown, armed := false, held := false, holdTimer := none, repeatTimer := none, sense := .none
          debounce := some ((s.key k).config.debounce, (s.key k).raw) }
        else { s.key k with holdTimer := none, repeatTimer := none, sense := .none })) ∧
      (∀ r ∈ t.stream.records.toList, r.mode = .closed) ∧ t.stream.running = false ∧ t.stream.headroom = false ∧
      t.pool.ownedBy Owner.isStage = [] ∧ t.radio.fifo = [] ∧ t.radio.asm = .hunt ∧ t.radio.waiting = false ∧
      t.radio.frame = none ∧ t.radio.fillHold = false ∧ t.radio.released = false ∧ t.radio.gap = none ∧
      SameBytesExcept (fun _ => False) s t ∧ SettingsKept s t ∧ t.light = { s.light with
        dwell := t.light.dwell, allowance := t.budget.allowance }.formDuties ∧
      (t.power.mode ≠ .standby → t.light.dwell = s.light.dwell) ∧
      t.link.buffer = bufferAfter (.engineReset tag (.fields ())) s.link.buffer ∧
      t.link.overflow = s.link.overflow ∧ t.link.stall = s.link.stall ∧
      ((∀ e, s.link.transaction ≠ .readMessage e) → (∀ c, s.link.transaction ≠ .readDrain c) →
        t.link.transaction = s.link.transaction) ∧
      (s.power.mode ≠ .settling → t.power.mode = s.power.mode)

/-! ### What every step keeps -/

/-- Page memory keeps its canonical form through every step. -/
def Obligations.MemoryStaysCanonical : Prop :=
  ∀ s t : State, Memory.wf s.mem → step s = .next t → Memory.wf t.mem

/-- The message queue never holds more than 32 entries or more than 28 reports, and no reply's place stays reserved: every step
keeps it so (R184).

The pending queue never holds more than 16 entries, nor the uncertain region list more than 8 (R40, R56). -/
def Obligations.QueueAndEngineListsStayBounded : Prop :=
  (∀ s t : State, s.queueBounded → step s = .next t → t.queueBounded) ∧
  (∀ s t : State, s.engineBounded → step s = .next t → t.engineBounded)

/-- While the limits lock is set, no step but a power-on or pin reset changes a limit or opens the lock (R186). -/
def Obligations.LimitsHoldUnderLock : Prop :=
  ∀ s t : State, s.link.locked = true → (∀ i rest, s.pending = i :: rest → isReset i = false) → step s = .next t →
    t.limits = s.limits ∧ t.link.locked = true

/-- The rectangles of two busy lanes never overlap: every step keeps them apart (R41). -/
def Obligations.LanesStayApart : Prop :=
  ∀ s t : State, s.lanesApart → step s = .next t → t.lanesApart

/-- No lane with CHANGED selection works over uncertain ground: every step keeps it so (R42, R57). -/
def Obligations.UncertainGroundIsDrivenWhole : Prop :=
  ∀ s t : State, s.lanesApart → s.uncertainDrivenWhole → step s = .next t → t.uncertainDrivenWhole

/-- Leaf records stay in ascending order, at most twelve, and only the current leaf is SHOWN (R81, R82). -/
def Obligations.LeafRecordsStaySound : Prop :=
  ∀ s t : State, s.leavesSound → step s = .next t → t.leavesSound

/-- The pool's books stay sound: the waveform store is nobody else's, the free count is exact, planes lie where R6 puts them, and
leaves and streams hold exactly the blocks the table gives them (R2 to R6, R12). -/
def Obligations.PoolBooksStaySound : Prop :=
  ∀ s t : State, s.leavesSound → s.poolSound → step s = .next t → t.poolSound

/-- Between steps every block's copy of another's state agrees with it, HOLD is as its five conditions give it, and the light's
duties, target and ramp are those of R120 to R124 (R2, R75, R145, R150, R168, R169). -/
def Obligations.CopiesStayInStep : Prop :=
  ∀ s t : State, s.coherent → step s = .next t → t.coherent

/-! ### The block pool and the planes -/

/-- The plane size P is W x H / 2 / 4096 rounded up, 0 while no geometry is set; the shown plane holds blocks 0..P-1 and the
target plane P..2P-1; byte k of an image lies at offset k mod 4096 of block k / 4096 of the holder's list, and holds pixels 2k
and 2k + 1 (R6). Which of the two stands in the upper half of the byte is the model's choice (log 24).

An allocation takes the lowest-numbered FREE blocks in ascending order and lowers the free count by their number; a release of
any blocks takes their entries out of the table and raises the count by as many; page memory keeps its contents (R3, R4). Each
change of the free count reaches the radio port, which forms HOLD afresh (R2, R145).

A staging allocation takes the lowest-numbered FREE block where one and the reserve are free; otherwise the page cache names one
leaf or none: with none it fails; a named leaf goes with LEAF_EVICTED and its blocks, and the free count is tested once more, the
eviction standing where that fails too (R10, R11). -/
def Obligations.PlanesAndLowestFreeBlocks : Prop :=
  (planeSize none = 0 ∧
   (∀ p : PanelArgs, p.width % 8 = 0 →
     p.width * p.height ≤ 2 * 4096 * planeSize (some p) ∧ 2 * 4096 * planeSize (some p) < p.width * p.height + 2 * 4096) ∧
   (∀ g k, k ∈ shownBlocks g ↔ k < planeSize g) ∧
   (∀ g k, k ∈ targetBlocks g ↔ planeSize g ≤ k ∧ k < 2 * planeSize g) ∧
   (∀ (m : Memory) (blocks : List Nat) (k b : Nat), blocks[k / 4096]? = some b →
     Memory.pixel m blocks (2 * k) = (Memory.read m (4096 * b + k % 4096)).toNat / 16 ∧
     Memory.pixel m blocks (2 * k + 1) = (Memory.read m (4096 * b + k % 4096)).toNat % 16)) ∧
  ((∀ (k : Nat) (o : Owner) (s : State),
     s.pool.held.Nodup → (∀ b ∈ s.pool.held, b < 3904) → k + s.pool.held.length ≤ 3904 →
     ∃ bs : List Nat, bs.length = k ∧ List.Pairwise (· < ·) bs ∧ s.pool.lowestFree k = bs ∧
       (∀ b ∈ bs, b < 3904 ∧ b ∉ s.pool.held) ∧
       (∀ b c, b ∈ bs → c ∉ bs → c < 3904 → c ∉ s.pool.held → b < c) ∧
       (∀ e, e ∈ (allocate k o s).pool.table ↔ e ∈ s.pool.table ∨ ∃ b ∈ bs, e = ⟨b, o⟩) ∧
       (allocate k o s).pool.freeCount = s.pool.freeCount - k ∧
       (allocate k o s).radio.freeCopy = (allocate k o s).pool.freeCount ∧
       SameExcept [.pool, .radio] s (allocate k o s) ∧
       (∀ e, e ∈ (releaseBlocks bs (allocate k o s)).pool.table ↔ e ∈ s.pool.table) ∧
       (k ≤ s.pool.freeCount → (releaseBlocks bs (allocate k o s)).pool.freeCount = s.pool.freeCount) ∧
       SameExcept [.pool, .radio] s (releaseBlocks bs (allocate k o s))) ∧
   (∀ (bs : List Nat) (s : State), ∃ p : PoolState,
     p = { s.pool with
       table := s.pool.table.filter (fun e => !bs.contains e.block)
       freeCount := s.pool.freeCount + (s.pool.table.filter (fun e => bs.contains e.block)).length } ∧
     (releaseBlocks bs s).pool = p ∧ (releaseBlocks bs s).radio.freeCopy = p.freeCount ∧
     (releaseBlocks bs s).radio.reserveCopy = p.reserve ∧
     (releaseBlocks bs s).radio.hold = (releaseBlocks bs s).radio.holdConditions.any id ∧
     (releaseBlocks bs s).radio.fifo = s.radio.fifo ∧ (releaseBlocks bs s).radio.frame = s.radio.frame ∧
     SameExcept [.pool, .radio] s (releaseBlocks bs s))) ∧
  (∀ (r : Nat) (s : State),
     (s.pool.reserve ≤ s.pool.freeCount - 1 → 0 < s.pool.freeCount →
       allocateStaging r s = ((s.pool.lowestFree 1).head?, allocate 1 (.stage r) s)) ∧
     (s.pool.freeCount = 0 ∨ s.pool.freeCount - 1 < s.pool.reserve →
       (s.cache.stagingVictim = none → allocateStaging r s = (none, s)) ∧
       (∀ v e, s.cache.stagingVictim = some v →
         e = releaseBlocks v.blocks { raise (.leafEvicted v.number) s with cache := { s.cache with
           leaves := s.cache.leaves.filter (fun x : Leaf => x.number ≠ v.number) } } →
         (s.pool.reserve + 1 ≤ e.pool.freeCount →
           allocateStaging r s = ((e.pool.lowestFree 1).head?, allocate 1 (.stage r) e)) ∧
         (e.pool.freeCount < s.pool.reserve + 1 → allocateStaging r s = (none, e)))))

/-- PANEL_SETUP with the lock open: BAD_PARAM outside the ranges of R1; OK with no effect for the geometry in force; NOT_IDLE
for a change while a leaf, a busy lane, a pending entry or a staging block exists; otherwise OK, with both planes at blocks
0..2P-1 filled with level 15 and the uncertain region list WHOLE (R7, R8). That the fill takes the blocks whole, the bytes that
hold no pixel with them, is log 54. -/
def Obligations.PanelSetupReplacesThePlanes : Prop :=
  ∀ (tag : Nat) (a : PanelArgs) (s : State), s.serves → s.link.locked = false →
    (a.width < 64 ∨ 2048 < a.width ∨ a.width % 8 ≠ 0 ∨ a.height < 64 ∨ 1536 < a.height →
      exec (.panelSetup tag (.fields a)) s =
        .next (s.answered (.panelSetup tag (.fields a)) (plainReply 0x10 tag .badParam))) ∧
    (64 ≤ a.width ∧ a.width ≤ 2048 ∧ a.width % 8 = 0 ∧ 64 ≤ a.height ∧ a.height ≤ 1536 →
      (s.pool.geometry = some a →
        exec (.panelSetup tag (.fields a)) s =
          .next (s.answered (.panelSetup tag (.fields a)) (plainReply 0x10 tag .ok))) ∧
      (s.pool.geometry ≠ some a →
        s.cache.leaves ≠ [] ∨ (∃ n, n < 8 ∧ (s.lane n).state ≠ .free) ∨ s.engine.pending ≠ [] ∨
          (∃ e ∈ s.pool.table, e.owner.isStage = true) →
        exec (.panelSetup tag (.fields a)) s =
          .next (s.answered (.panelSetup tag (.fields a)) (plainReply 0x10 tag .notIdle))) ∧
      (s.pool.geometry ≠ some a → s.cache.leaves = [] → (∀ n, n < 8 → (s.lane n).state = .free) →
        s.engine.pending = [] → (∀ e ∈ s.pool.table, e.owner.isPlane = true) →
        ∃ t, exec (.panelSetup tag (.fields a)) s = .next t ∧
          t.pool.geometry = some a ∧ t.pool.reserve = s.pool.reserve ∧
          (∀ e, e ∈ t.pool.table ↔ ∃ b, b < 2 * planeSize (some a) ∧
            e = ⟨b, .plane (if b < planeSize (some a) then 0 else 1)⟩) ∧
          t.radio.freeCopy = t.pool.freeCount ∧
          t.engine = { s.engine with uncertain := [⟨0, 0, a.width, a.height⟩], whole := true } ∧
          (∀ x, x < 2 * planeSize (some a) * 4096 → Memory.read t.mem x = 0xFF) ∧
          SameBytesExcept (fun x => x < 2 * planeSize (some a) * 4096) s t ∧
          t.link.queue = s.link.queue ++ [.reply (plainReply 0x10 tag .ok)] ∧
          t.power.mode = s.power.mode ∧
          SameExcept [.mem, .pool, .engine, .radio, .power, .link] s t))

/-! ### Waveform tables and the temperature -/

/-- WAVE_LOAD first abandons an open load. Then it is BAD_PARAM for a slot above 5, SLOT_BUSY for a slot in use, BAD_PARAM for a
faulty header, and otherwise ACCEPTED: the slot takes the header, becomes LOADING, and a load of 64 bytes a frame is open
(R20, R21, R24). In these three an EMPTY slot is the empty record, where the rules give its state alone (log 31).

WAVE_ABORT abandons the open load and its slot becomes EMPTY, or is answered STATE where none is open (R24).

WAVE_DROP: BAD_PARAM outside 0..5, SLOT_BUSY for a slot in use with nothing changed, OK with the load abandoned for a LOADING
slot, OK with the slot made EMPTY for a VALID slot, OK with nothing changed for an EMPTY slot (R25). -/
def Obligations.WaveCommandsActOnTheirSlot : Prop :=
  (∀ (tag : Nat) (a : WaveLoadArgs) (s u : State), s.serves →
     u = { s with wave := { s.wave with
       load := none
       slots := (match s.wave.load with
         | none => s.wave.slots
         | some l => withRecord s.wave.slots l.slot (fun _ => {})) } } →
     (5 < a.slot → exec (.waveLoad tag (.fields a)) s =
       .next (u.answered (.waveLoad tag (.fields a)) (plainReply 0x20 tag .badParam))) ∧
     (a.slot ≤ 5 → 0 < (u.slot a.slot).useCount → exec (.waveLoad tag (.fields a)) s =
       .next (u.answered (.waveLoad tag (.fields a)) (plainReply 0x20 tag .slotBusy))) ∧
     (a.slot ≤ 5 → (u.slot a.slot).useCount = 0 →
       a.bandCount = 0 ∨ 8 < a.bandCount ∨ a.uppers.length ≠ a.bandCount ∨ a.frames.length ≠ a.bandCount ∨
         (∃ f ∈ a.frames, f = 0 ∨ 255 < f) ∨ (∃ x ∈ a.lower :: a.uppers, x < -400 ∨ 850 < x) ∨
         ¬ List.Pairwise (· < ·) a.uppers ∨ a.uppers.headD 0 < a.lower ∨
         (∃ p, a.partner = some p ∧ (5 < p ∨ p = a.slot)) →
       exec (.waveLoad tag (.fields a)) s =
         .next (u.answered (.waveLoad tag (.fields a)) (plainReply 0x20 tag .badParam))) ∧
     (a.slot ≤ 5 → (u.slot a.slot).useCount = 0 → headerGood a = true →
       exec (.waveLoad tag (.fields a)) s = .next ({ u with wave := { u.wave with
         load := some ⟨a.slot, 64 * a.frames.sum, 0, false⟩
         slots := withRecord u.wave.slots a.slot (fun x => { x with
           state := .loading, kind := a.kind, partner := a.partner, lower := a.lower, uppers := a.uppers,
           frames := a.frames, band := none, outside := false }) } }.answered
         (.waveLoad tag (.fields a)) (plainReply 0x20 tag .accepted)))) ∧
  (∀ (tag : Nat) (s : State), s.serves →
     (s.wave.load = none → exec (.waveAbort tag (.fields ())) s =
       .next (s.answered (.waveAbort tag (.fields ())) (plainReply 0x21 tag .state))) ∧
     (∀ l, s.wave.load = some l → exec (.waveAbort tag (.fields ())) s =
       .next ({ s with wave := { s.wave with load := none, slots := withRecord s.wave.slots l.slot (fun _ => {}) } }.answered
         (.waveAbort tag (.fields ())) (plainReply 0x21 tag .ok)))) ∧
  (∀ (tag n : Nat) (s : State), s.serves →
     (5 < n → exec (.waveDrop tag (.fields n)) s =
       .next (s.answered (.waveDrop tag (.fields n)) (plainReply 0x22 tag .badParam))) ∧
     (n ≤ 5 → 0 < (s.slot n).useCount → exec (.waveDrop tag (.fields n)) s =
       .next (s.answered (.waveDrop tag (.fields n)) (plainReply 0x22 tag .slotBusy))) ∧
     (n ≤ 5 → (s.slot n).useCount = 0 →
       (∀ l, (s.slot n).state = .loading → s.wave.load = some l → l.slot = n →
         exec (.waveDrop tag (.fields n)) s =
           .next ({ s with wave := { s.wave with
             load := none, slots := withRecord s.wave.slots n (fun _ => {}) } }.answered
               (.waveDrop tag (.fields n)) (plainReply 0x22 tag .ok))) ∧
       ((s.slot n).state = .valid →
         exec (.waveDrop tag (.fields n)) s =
           .next ({ s with wave := { s.wave with slots := withRecord s.wave.slots n (fun _ => {}) } }.answered
             (.waveDrop tag (.fields n)) (plainReply 0x22 tag .ok))) ∧
       ((s.slot n).state = .empty →
         exec (.waveDrop tag (.fields n)) s =
           .next (s.answered (.waveDrop tag (.fields n)) (plainReply 0x22 tag .ok)))))

/-- A taken TABLE packet's bytes stand at body offsets from the received count on in the slot's 32 blocks, no other byte of page
memory changes, and the received count rises by their number; a code of 3 marks the load. At the expected length the slot
becomes VALID with TABLE_DONE, or, where a code of 3 was seen, EMPTY with TABLE_BAD (R22, R23, R26); that the EMPTY slot is the
empty record is log 31. -/
def Obligations.TableBytesReachTheStore : Prop :=
  ∀ (body : List Byte) (l : Load) (s : State), servingMode s.power.mode = true → s.wave.load = some l →
    l.received + body.length ≤ l.expected →
    ∃ (m : Memory) (bad : Bool),
      (∀ i, i < body.length →
        Memory.read m ((3904 + 32 * l.slot) * 4096 + l.received + i) = body.getD i 0) ∧
      (∀ x, x < (3904 + 32 * l.slot) * 4096 + l.received ∨
          (3904 + 32 * l.slot) * 4096 + l.received + body.length ≤ x → Memory.read m x = Memory.read s.mem x) ∧
      (bad = true ↔ l.invalid = true ∨ ∃ b ∈ body, b.toNat % 4 = 3 ∨ b.toNat / 4 % 4 = 3 ∨ b.toNat / 16 % 4 = 3 ∨
        b.toNat / 64 % 4 = 3) ∧
      (l.received + body.length < l.expected →
        exec (.table body) s = .next { s.taken (.table body) with
          mem := m
          wave := { s.wave with load := some { l with received := l.received + body.length, invalid := bad } } }) ∧
      (l.received + body.length = l.expected → bad = false →
        exec (.table body) s = .next (raise (.tableDone l.slot) { s.taken (.table body) with
          mem := m
          wave := { s.wave with
            load := none, slots := withRecord s.wave.slots l.slot (fun x => { x with state := .valid }) } })) ∧
      (l.received + body.length = l.expected → bad = true →
        exec (.table body) s = .next (raise (.tableBad l.slot) { s.taken (.table body) with
          mem := m
          wave := { s.wave with load := none, slots := withRecord s.wave.slots l.slot (fun _ => {}) } }))

/-- TEMP_SAMPLE: while the sample timer runs, the reading clamped to -400..850 goes through the filter, the saturated flag is set
at either limit, and every VALID slot selects its band; the timer reloads unless the part has just gone to STANDBY. A stopped
timer gives no reading (R28, R29, R31).

A new filtered temperature moves a slot's band as R31 says: to band(T) where the band is unset or band(T) is not below it, and
otherwise to band(T + H), or not at all where that is above it; band(T) is the smallest j with T at most U_j, or the last. The
excursion mark follows R32, and an excursion that begins is reported. That a fall below L also goes to band(T + H), where R32
has band 0, is the model's choice (log 60). -/
def Obligations.TempSampleFiltersAndSelectsBands : Prop :=
  (∀ (reading : Int) (s : State),
     (s.wave.timer = .stopped → exec (.tempSample reading) s = .next s) ∧
     (s.wave.timer ≠ .stopped → ∃ (t : State) (raw tf : Int) (n : Nat),
       exec (.tempSample reading) s = .next t ∧
       raw = max (-400) (min reading 850) ∧
       n = min (s.wave.samples + 1) 8 ∧
       tf = (match s.wave.filtered with
         | none => raw
         | some x => if n = 1 then raw else x + (raw - x).tdiv n) ∧
       t.wave.lastRaw = raw ∧ t.wave.samples = n ∧ t.wave.filtered = some tf ∧
       (raw = -400 ∨ raw = 850 → t.wave.saturated.isSet = true) ∧
       (raw ≠ -400 → raw ≠ 850 → t.wave.saturated = s.wave.saturated) ∧
       t.wave.period = s.wave.period ∧ t.wave.hyst = s.wave.hyst ∧ t.wave.load = s.wave.load ∧
       (s.coherent → (∀ k, k < 8 → (s.lane k).bandHeld = false) →
         t.wave.timer = .running s.wave.period ∧
         (∀ k, k < 6 →
           ((s.slot k).state ≠ .valid → t.slot k = s.slot k) ∧
           ((s.slot k).state = .valid → t.slot k = { s.slot k with
             band := some (nextBand (s.slot k).uppers s.wave.hyst (s.slot k).band tf)
             outside := nextOutside (s.slot k) s.wave.hyst tf })) ∧
         SameExcept [.wave, .power, .link] s t ∧ t.power.mode = s.power.mode))) ∧
  (∀ (uppers : List Int) (hyst : Nat) (t : Int), uppers ≠ [] →
     bandOf uppers t < uppers.length ∧
     (∀ j, j < bandOf uppers t → uppers.getD j 0 < t) ∧
     (t ≤ uppers.getD (bandOf uppers t) 0 ∨ (bandOf uppers t + 1 = uppers.length ∧ ∀ u ∈ uppers, u < t)) ∧
     nextBand uppers hyst none t = bandOf uppers t ∧
     (∀ b, b ≤ bandOf uppers t → nextBand uppers hyst (some b) t = bandOf uppers t) ∧
     (∀ b, bandOf uppers t < b → nextBand uppers hyst (some b) t = min (bandOf uppers (t + hyst)) b) ∧
     (∀ (n : Nat) (s : Slot), s.uppers = uppers → s.outside = false →
       (t < s.lower → nextOutside s hyst t = true ∧ excursionReport n s t = [.tempOutside n .low t]) ∧
       (s.lower ≤ t → uppers.getLastD 0 < t →
         nextOutside s hyst t = true ∧ excursionReport n s t = [.tempOutside n .high t]) ∧
       (s.lower ≤ t → t ≤ uppers.getLastD 0 → nextOutside s hyst t = false ∧ excursionReport n s t = [])) ∧
     (∀ (n : Nat) (s : Slot), s.uppers = uppers → s.outside = true →
       excursionReport n s t = [] ∧
       (nextOutside s hyst t = false ↔ s.lower + hyst < t ∧ t < uppers.getLastD 0 - hyst)))

/-! ### Updates and lanes -/

/-- An UPDATE is refused by the first condition of R37 that
fits, in its order, and a refusal changes nothing. -/
def Obligations.UpdatesAreRefusedInOrder : Prop :=
  ∀ (tag : Nat) (a : UpdateArgs) (s : State), s.serves →
    (s.pool.geometry = none →
      exec (.update tag (.fields a)) s = .next (s.answered (.update tag (.fields a)) (plainReply 0x30 tag .state))) ∧
    (∀ p, s.pool.geometry = some p →
      (5 < a.slot ∨ (∃ n, a.source = .leaf n ∧ 16777215 < n) ∨ (∃ n, a.shows = some n ∧ 16777215 < n) ∨
          a.rect.w = 0 ∨ a.rect.h = 0 ∨ p.width < a.rect.x + a.rect.w ∨ p.height < a.rect.y + a.rect.h →
        exec (.update tag (.fields a)) s = .next (s.answered (.update tag (.fields a)) (plainReply 0x30 tag .badParam))) ∧
      (a.slot ≤ 5 → (∀ n, a.source = .leaf n → n ≤ 16777215) → (∀ n, a.shows = some n → n ≤ 16777215) →
          0 < a.rect.w → 0 < a.rect.h → a.rect.x + a.rect.w ≤ p.width → a.rect.y + a.rect.h ≤ p.height →
        ((s.slot a.slot).state ≠ .valid →
          exec (.update tag (.fields a)) s =
            .next (s.answered (.update tag (.fields a)) (plainReply 0x30 tag .slotInvalid))) ∧
        ((s.slot a.slot).state = .valid →
          ((∃ n, a.source = .leaf n ∧ s.cache.showable n = false) ∨ (∃ n, a.shows = some n ∧ s.cache.showable n = false) →
            exec (.update tag (.fields a)) s =
              .next (s.answered (.update tag (.fields a)) (plainReply 0x30 tag .noSuch))) ∧
          ((∀ n, a.source = .leaf n → s.cache.showable n = true) → (∀ n, a.shows = some n → s.cache.showable n = true) →
            (s.rail.mode = .fault →
              exec (.update tag (.fields a)) s =
                .next (s.answered (.update tag (.fields a)) (plainReply 0x30 tag .railFault))) ∧
            (s.rail.mode ≠ .fault → 16 ≤ s.engine.pending.length →
              exec (.update tag (.fields a)) s =
                .next (s.answered (.update tag (.fields a)) (plainReply 0x30 tag .queueFull)))))))

/-- An UPDATE that passes the checks of R37 is answered ACCEPTED and counts as activity for the light. With nothing pending it
starts at once, on the lowest-numbered FREE lane, unless its rectangle overlaps a busy lane or every lane is busy; then it waits
as the one pending entry, its slot and source leaf in use. Page memory, the rails, the pool and every busy lane stay as they
were (R38, R41, R42, R43, R126). -/
def Obligations.AcceptedUpdateStartsOrWaits : Prop :=
  ∀ (tag : Nat) (a : UpdateArgs) (s : State), s.serves → s.coherent → updateCheck a s = none → s.engine.pending = [] →
    ∃ t, exec (.update tag (.fields a)) s = .next t ∧
      t.link.queue = s.link.queue ++ [.reply (plainReply 0x30 tag .accepted)] ∧
      t.light.dimmed = false ∧ t.light.dark = false ∧ t.rail = s.rail ∧ t.pool = s.pool ∧
      SameBytesExcept (fun _ => False) s t ∧ t.power.mode = s.power.mode ∧
      t.engine.uncertain = s.engine.uncertain ∧ t.engine.scan = s.engine.scan ∧
      (∀ n, n < 8 → (s.lane n).state ≠ .free → t.lane n = s.lane n) ∧
      (∀ n, a.source = .leaf n → t.cache = s.cache.withLeaf n (fun l => { l with useCount := l.useCount + 1 })) ∧
      (a.source = .target → t.cache = s.cache) ∧
      (s.engine.busyOver a.rect = true ∨ (∀ n, n < 8 → (s.lane n).state ≠ .free) →
        t.engine.pending = [⟨tag, .host, a.rect, a.slot, a.selection, a.source, a.keepLeaf, a.shows⟩] ∧
        t.engine.lanes = s.engine.lanes ∧ (t.slot a.slot).useCount = (s.slot a.slot).useCount + 1) ∧
      (∀ n, n < 8 → s.engine.busyOver a.rect = false → (s.lane n).state = .free →
        (∀ k, k < n → (s.lane k).state ≠ .free) →
        t.engine.pending = [] ∧ (t.lane n).state = .preparing ∧ (t.lane n).tag = tag ∧ (t.lane n).origin = .host ∧
          (t.lane n).rect = a.rect ∧ (t.lane n).source = a.source ∧ (t.lane n).keepLeaf = a.keepLeaf ∧
          (t.lane n).shows = a.shows ∧ (t.lane n).bandHeld = false)

/-- An entry qualifies exactly where the rails are not in FAULT, some lane is FREE, and its rectangle overlaps no busy lane and
no entry ahead of it; it then takes the lowest-numbered FREE lane. A walk leaves no entry that still qualifies, keeps the order
of those that stay, and touches nothing but lanes, queue and slot use counts (R41).

How a lane starts: with ALL where the slot is FULL_ONLY or ALL is asked; with ALL, the promoted mark and the slot's usable
full partner, if it has one, where the rectangle overlaps uncertain ground; otherwise as asked. A LEAF source hands over its
blocks and background; a slot replaced by its partner passes its use on (R42, R43, R18, R19). -/
def Obligations.WalkStartsWhatQualifiesAndPromotes : Prop :=
  (∀ s : State,
     (∀ (e : PendingEntry) (ahead : List PendingEntry) (n : Nat), startsOn e ahead s = some n ↔
       s.rail.mode ≠ .fault ∧ (∀ k, k < 8 → (s.lane k).state ≠ .free → rectOverlaps (s.lane k).rect e.rect = false) ∧
         (∀ a ∈ ahead, rectOverlaps a.rect e.rect = false) ∧ n < 8 ∧ (s.lane n).state = .free ∧
         ∀ k, k < n → (s.lane k).state ≠ .free) ∧
     List.Sublist (walk s).engine.pending s.engine.pending ∧
     (∀ (front back : List PendingEntry) (e : PendingEntry), (walk s).engine.pending = front ++ e :: back →
       startsOn e front (walk s) = none) ∧
     (∀ k, k < 8 → (s.lane k).state ≠ .free → (walk s).lane k = s.lane k) ∧
     SameExcept [.wave, .engine] s (walk s)) ∧
  (∀ (n : Nat) (e : PendingEntry) (s : State), n < 8 →
     (startLane n e s).lane n =
       { state := .preparing, tag := e.tag, origin := e.origin, rect := e.rect, keepLeaf := e.keepLeaf, shows := e.shows,
         slot := (startChoice e s).2.1, selection := (startChoice e s).1, promoted := (startChoice e s).2.2,
         source := e.source, blocks := (s.cache.handOver e.source).1, background := (s.cache.handOver e.source).2 } ∧
     (∀ k, k ≠ n → (startLane n e s).lane k = s.lane k) ∧
     SameExcept [.wave, .engine] s (startLane n e s) ∧
     ((s.slot e.slot).kind = .fullOnly ∨ e.selection = .all → startChoice e s = (.all, e.slot, false)) ∧
     ((s.slot e.slot).kind = .partialOk → e.selection = .changed →
       (s.engine.whole = false → (∀ u ∈ s.engine.uncertain, rectOverlaps u e.rect = false) →
         startChoice e s = (.changed, e.slot, false)) ∧
       (s.engine.whole = true ∨ (∃ u ∈ s.engine.uncertain, rectOverlaps u e.rect = true) →
         (∀ p, (s.slot e.slot).partner = some p → (s.slot p).state = .valid → startChoice e s = (.all, p, true)) ∧
         ((∀ p, (s.slot e.slot).partner = some p → (s.slot p).state ≠ .valid) →
           startChoice e s = (.all, e.slot, true)))) ∧
     ((startChoice e s).2.1 = e.slot → (startLane n e s).wave = s.wave) ∧
     (∀ p, p < 6 → e.slot < 6 → (startChoice e s).2.1 = p → p ≠ e.slot →
       ((startLane n e s).slot p).useCount = (s.slot p).useCount + 1 ∧
       ((startLane n e s).slot e.slot).useCount = (s.slot e.slot).useCount - 1))

/-- UPDATE_CANCEL ends the lowest-numbered busy host lane of the tag, or else the oldest host entry of the tag, and is answered
NO_SUCH where there is neither. The reply OK and UPDATE_DONE(tag, CANCELLED) are queued; a lane becomes FREE, leaves the rails
if it was ARMED or DRIVING, and gives up its slot and leaf, as an entry that leaves the queue does; the rectangle of a lane that
drove is uncertain, and the scan ends with the last lane (log 45); page memory stays as it was (R53, R40, R51; log 15). -/
def Obligations.UpdateCancelEndsOneMatch : Prop :=
  ∀ (tag : Nat) (s : State), s.serves → s.coherent →
    ((∀ n, n < 8 → (s.lane n).state ≠ .free → (s.lane n).origin = .host → (s.lane n).tag ≠ tag) →
      (∀ e ∈ s.engine.pending, e.origin = .host → e.tag ≠ tag) →
      exec (.updateCancel tag (.fields ())) s =
        .next (s.answered (.updateCancel tag (.fields ())) (plainReply 0x31 tag .noSuch))) ∧
    (∀ n, n < 8 → (s.lane n).state ≠ .free → (s.lane n).origin = .host → (s.lane n).tag = tag →
      (∀ k, k < n → (s.lane k).state ≠ .free → (s.lane k).origin = .host → (s.lane k).tag ≠ tag) →
      s.engine.pending = [] →
      ∃ t, exec (.updateCancel tag (.fields ())) s = .next t ∧ (t.lane n).state = .free ∧
        SameBytesExcept (fun _ => False) s t ∧
        ((s.lane n).state = .preparing → t.rail = s.rail) ∧
        ((s.lane n).state = .armed ∨ (s.lane n).state = .driving →
          ((∀ k, k < 8 → k ≠ n → (s.lane k).state ≠ .armed ∧ (s.lane k).state ≠ .driving) →
            s.engine.scan.isSome = true → t.engine.scan = none ∧ t.engine.load = 0)) ∧
        ((s.lane n).state = .driving →
          t.engine.whole = true ∨ ∃ u ∈ t.engine.uncertain, rectContains u (s.lane n).rect = true) ∧
        ((s.lane n).state = .driving → s.rail.mode = .on → 2 ≤ s.rail.armed → s.engine.uncertain.length < 8 →
          t.rail = { s.rail with armed := s.rail.armed - 1 }) ∧
        ((s.lane n).state ≠ .driving ∨ s.engine.whole = true ∨ s.engine.uncertain.length < 8 →
          (∀ k, k ≠ n → t.lane k = s.lane k) ∧
          ((s.lane n).state ≠ .driving → t.engine.uncertain = s.engine.uncertain) ∧
          ((s.lane n).state ≠ .preparing → t.rail.armed = s.rail.armed - 1) ∧
          (∀ k, k < 6 → t.slot k = (if k = (s.lane n).slot
            then { s.slot k with useCount := (s.slot k).useCount - 1 } else s.slot k)) ∧
          t.cache.leaves = s.cache.leaves.map (fun l =>
            if (s.lane n).source = .leaf l.number then { l with useCount := l.useCount - 1 } else l) ∧
          (reportCount s.link.queue < 28 → s.link.queue.length + 1 < 32 →
            t.link.queue = s.link.queue ++ [.reply (plainReply 0x31 tag .ok),
              .report (.updateDone tag .cancelled (s.lane n).promoted)])) ∧
        (reportCount s.link.queue < 28 → s.link.queue.length + 1 < 32 →
          ∃ more, t.link.queue = s.link.queue ++ .reply (plainReply 0x31 tag .ok) ::
            .report (.updateDone tag .cancelled (s.lane n).promoted) :: more)) ∧
    (∀ (front back : List PendingEntry) (e : PendingEntry),
      (∀ n, n < 8 → (s.lane n).state ≠ .free → (s.lane n).origin = .host → (s.lane n).tag ≠ tag) →
      s.engine.pending = front ++ e :: back → e.origin = .host → e.tag = tag →
      (∀ x ∈ front, x.origin = .host → x.tag ≠ tag) →
      ∃ t, exec (.updateCancel tag (.fields ())) s = .next t ∧
        List.Sublist t.engine.pending (front ++ back) ∧
        (reportCount s.link.queue < 28 → s.link.queue.length + 1 < 32 →
          t.link.queue = s.link.queue ++ [.reply (plainReply 0x31 tag .ok), .report (.updateDone tag .cancelled false)]) ∧
        (∀ k, k < 8 → (s.lane k).state ≠ .free → t.lane k = s.lane k) ∧ t.rail = s.rail ∧
        t.cache.leaves = s.cache.leaves.map (fun l =>
          if e.source = .leaf l.number then { l with useCount := l.useCount - 1 } else l) ∧
        (front ++ back = [] → t.engine.pending = [] ∧ ∀ k, k < 6 → t.slot k = (if k = e.slot
          then { s.slot k with useCount := (s.slot k).useCount - 1 } else s.slot k)) ∧
        SameBytesExcept (fun _ => False) s t)

/-- PREPARING_END of a lane that prepares counts its transitions and asks for its band. With no filtered temperature the request
is held, even where the slot has a band (log 13); with the rails in FAULT the lane is freed, and a host lane reports RAIL_FAULT, a
turn lane has its turn missed with cause RAIL; otherwise the lane latches band and frame count and becomes ARMED, and from OFF the
rails rise; where the rails are then ON with the scan stopped, the scan starts and the lane drives its first frame. For any other
lane it is no event (R44, R45, R33, R64, R65, R46, R98).

A band request that is held is answered at the first reading, with the band the slot takes at it: the lane becomes ARMED, or with
the rails in FAULT it is freed (R33, R45). The clauses are about one lane that waits; the order of several is log 43, and the band
of a slot that keeps one from before is, below L, the model's choice (log 60). -/
def Obligations.PreparingEndArmsTheLane : Prop :=
  (∀ (n : Nat) (s : State), n < 8 → s.coherent →
     ((s.lane n).state ≠ .preparing ∨ (s.lane n).bandHeld = true → exec (.preparingEnd n) s = .next s) ∧
     ((s.lane n).state = .preparing → (s.lane n).bandHeld = false →
       (s.wave.filtered = none →
         exec (.preparingEnd n) s = .next { s with engine := { s.engine with
           lanes := withRecord s.engine.lanes n (fun l => { l with
             hist := histogram (s.lanePixels (s.lane n)), bandHeld := true }) } }) ∧
       (∀ tf, s.wave.filtered = some tf → s.rail.mode = .fault → s.engine.pending = [] →
         ∃ t, exec (.preparingEnd n) s = .next t ∧ (t.lane n).state = .free ∧ (∀ k, k ≠ n → t.lane k = s.lane k) ∧
           t.rail = s.rail ∧ t.engine.pending = [] ∧
           t.cache.leaves = s.cache.leaves.map (fun l =>
             if (s.lane n).source = .leaf l.number then { l with useCount := l.useCount - 1 } else l) ∧
           ((s.lane n).origin = .host → s.power.mode ≠ .standby → reportCount s.link.queue + 2 ≤ 28 →
             s.link.queue.length + 3 ≤ 32 →
             ∃ more, t.link.queue = s.link.queue ++ more ++
               [.report (.updateDone (s.lane n).tag .railFault (s.lane n).promoted)] ∧
               ((s.slot (s.lane n).slot).band.isSome = true → more = [])) ∧
           ((s.lane n).origin = .turn → ∀ f, s.cache.flight = some f →
             t.cache.flight = none ∧ t.cache.deferred = none ∧ t.cache.counter = s.cache.counter ∧
             t.cache.current = s.cache.current ∧
             (s.power.mode ≠ .standby → reportCount s.link.queue + 2 ≤ 28 → s.link.queue.length + 3 ≤ 32 →
               ∃ more, t.link.queue = s.link.queue ++ more ++ [.report (.turnMiss f.dir (some f.leaf) .rail)] ∧
                 ((s.slot (s.lane n).slot).band.isSome = true → more = []))) ∧
           SameBytesExcept (fun _ => False) s t) ∧
       (∀ tf, s.wave.filtered = some tf →
         s.rail.mode = .rising ∨ s.rail.mode = .falling ∨ (s.rail.mode = .off ∧ s.rail.powerGood = false) ∨
           ((s.rail.mode = .on ∨ s.rail.mode = .hold) ∧ s.engine.scan.isSome = true) →
         (s.slot (s.lane n).slot).state = .valid →
         ∃ t, exec (.preparingEnd n) s = .next t ∧
           (t.lane n).state = .armed ∧ (t.lane n).hist = histogram (s.lanePixels (s.lane n)) ∧
           (t.lane n).band = some (match (s.slot (s.lane n).slot).band with
             | some b => b
             | none => bandOf (s.slot (s.lane n).slot).uppers tf) ∧
           (t.lane n).frames = (s.slot (s.lane n).slot).frames.getD ((t.lane n).band.getD 0) 0 ∧
           (t.lane n).rect = (s.lane n).rect ∧ (t.lane n).selection = (s.lane n).selection ∧
           (∀ k, k ≠ n → t.lane k = s.lane k) ∧ t.rail.armed = s.rail.armed + 1 ∧
           t.rail.mode = (match s.rail.mode with
             | .off => .rising
             | .hold => .on
             | m => m) ∧
           (s.rail.mode = .off → t.rail.rise = some s.rail.riseTime) ∧
           t.engine.pending = s.engine.pending ∧ t.power.mode = s.power.mode ∧
           SameExcept [.wave, .engine, .rail, .budget, .light, .power, .link] s t) ∧
       (∀ tf b, s.wave.filtered = some tf →
         (s.rail.mode = .off ∧ s.rail.powerGood = true) ∨ s.rail.mode = .on ∨ s.rail.mode = .hold →
         s.engine.scan = none → s.engine.pending = [] →
         (∀ k, k < 8 → k ≠ n → (s.lane k).state ≠ .armed ∧ (s.lane k).state ≠ .driving) →
         (s.slot (s.lane n).slot).state = .valid →
         b = (match (s.slot (s.lane n).slot).band with
           | some b => b
           | none => bandOf (s.slot (s.lane n).slot).uppers tf) →
         1 < (s.slot (s.lane n).slot).frames.getD b 0 →
         ∃ t, exec (.preparingEnd n) s = .next t ∧
           t.lane n = { s.lane n with
             state := .driving, index := 1, hist := histogram (s.lanePixels (s.lane n)), band := some b
             frames := (s.slot (s.lane n).slot).frames.getD b 0, bandHeld := false } ∧
           (∀ k, k ≠ n → t.lane k = s.lane k) ∧
           t.rail = { s.rail with
             mode := .on, armed := s.rail.armed + 1
             rise := if s.rail.mode = .off then none else s.rail.rise
             hold := if s.rail.mode = .hold then none else s.rail.hold } ∧
           t.engine.scan = some s.engine.framePeriod ∧ t.engine.pending = [] ∧ t.budget.load = t.engine.load ∧
           t.power.mode = s.power.mode ∧ SameBytesExcept (fun _ => False) s t))) ∧
  (∀ (n : Nat) (reading : Int) (s : State), n < 8 → s.coherent → s.wave.timer ≠ .stopped →
     (s.lane n).state = .preparing → (s.lane n).bandHeld = true → (s.lane n).slot < 6 →
     (∀ k, k < 8 → k ≠ n → (s.lane k).bandHeld = false) → (s.slot (s.lane n).slot).state = .valid →
     (s.rail.mode = .rising ∨ s.rail.mode = .falling ∨ (s.rail.mode = .off ∧ s.rail.powerGood = false) ∨
         ((s.rail.mode = .on ∨ s.rail.mode = .hold) ∧ s.engine.scan.isSome = true) →
       ∃ t tf b, exec (.tempSample reading) s = .next t ∧ t.wave.filtered = some tf ∧
         b = nextBand (s.slot (s.lane n).slot).uppers s.wave.hyst (s.slot (s.lane n).slot).band tf ∧
         t.lane n = { s.lane n with
           state := .armed, band := some b, frames := (s.slot (s.lane n).slot).frames.getD b 0, bandHeld := false } ∧
         (∀ k, k ≠ n → t.lane k = s.lane k) ∧ t.rail.armed = s.rail.armed + 1 ∧
         SameBytesExcept (fun _ => False) s t) ∧
     (s.rail.mode = .fault → s.engine.pending = [] →
       ∃ t, exec (.tempSample reading) s = .next t ∧ (t.lane n).state = .free ∧ (∀ k, k ≠ n → t.lane k = s.lane k) ∧
         ((s.lane n).origin = .host → s.power.mode ≠ .standby → reportCount s.link.queue + 7 ≤ 28 →
           s.link.queue.length + 8 ≤ 32 →
           ∃ more, t.link.queue = s.link.queue ++ more ++
             [.report (.updateDone (s.lane n).tag .railFault (s.lane n).promoted)]) ∧
         SameBytesExcept (fun _ => False) s t))

/-- A frame event while the scan runs with the rails ON, at which no lane completes and nothing is pending: every ARMED lane becomes
DRIVING, the panel receives each DRIVING lane's codes at its frame index, the load is their sum and reaches the budget unit, and
every DRIVING lane's index rises by one. The page cache is as the notices of the lanes that become DRIVING leave it, in lane number
order; page memory, the pool, the rails, the keys, the radio and the streams stay. Without a scan there is no event, nor with the
rails not ON, where no code may be given (R46 to R50, R88; the scan never runs on there, log 45).

The notice of a lane that becomes DRIVING: leaf n is being shown for a lane with shows-leaf number n or, without one, with source
LEAF n. A READY or SHOWN leaf n becomes SHOWN, current and the anchor, and any other SHOWN leaf READY; a leaf n that is FILLING or not
there leaves no current leaf, the SHOWN leaf READY and the anchor as it was. So does a TARGET lane without shows-leaf number and with
KEEP_LEAF clear; with KEEP_LEAF set it gives no notice (R50, R88). -/
def Obligations.FrameEventDrivesTheLanes : Prop :=
  (∀ s : State,
     (s.engine.scan = none ∨ s.rail.mode ≠ .on → exec .frameEvent s = .next s) ∧
     (s.coherent → s.engine.scan.isSome = true → s.rail.mode = .on → s.engine.pending = [] →
       (∃ n, n < 8 ∧ ((s.lane n).state = .armed ∨ (s.lane n).state = .driving)) →
       (∀ n, n < 8 → (s.lane n).state = .armed → 1 < (s.lane n).frames) →
       (∀ n, n < 8 → (s.lane n).state = .driving → (s.lane n).index + 1 < (s.lane n).frames) →
       ∃ t j : State, exec .frameEvent s = .next t ∧
         j.mem = s.mem ∧ j.pool = s.pool ∧ j.wave = s.wave ∧
         (∀ n, n < 8 → j.lane n = (if (s.lane n).state = .armed
           then { s.lane n with state := .driving, index := 0 } else s.lane n)) ∧
         (∀ n, n < 8 → t.lane n = (if (j.lane n).state = .driving
           then { j.lane n with index := (j.lane n).index + 1 } else j.lane n)) ∧
         t.engine.panel = j.engine.lanes.toList.flatMap j.laneDrive ∧
         t.engine.load = (j.engine.lanes.toList.map j.laneLoad).sum ∧
         t.budget.load = t.engine.load ∧ t.engine.scan = some s.engine.framePeriod ∧ t.engine.pending = [] ∧
         t.cache = (s.engine.lanes.toList.filter (fun l => l.state = .armed)).foldl (fun c l => l.notice c) s.cache ∧
         t.rail = s.rail ∧ t.link.queue = s.link.queue ∧ t.engine.uncertain = s.engine.uncertain ∧
         t.engine.whole = s.engine.whole ∧ t.power.mode = s.power.mode ∧
         SameExcept [.engine, .budget, .cache, .light, .power] s t)) ∧
  (∀ (l : Lane) (c : CacheState),
     (∀ n, l.shows = some n ∨ (l.shows = none ∧ l.source = .leaf n) →
       ((∃ x, c.leaf n = some x ∧ (x.mode = .ready ∨ x.mode = .shown)) →
         l.notice c = { c with
           leaves := c.leaves.map (fun x =>
             if x.number = n then { x with mode := .shown }
             else if x.mode = .shown then { x with mode := .ready } else x)
           current := some n, anchor := some n }) ∧
       ((∀ x, c.leaf n = some x → x.mode = .filling) →
         l.notice c = { c with
           leaves := c.leaves.map (fun x => if x.mode = .shown then { x with mode := .ready } else x), current := none })) ∧
     (l.shows = none → l.source = .target → l.keepLeaf = false →
       l.notice c = { c with
         leaves := c.leaves.map (fun x => if x.mode = .shown then { x with mode := .ready } else x), current := none }) ∧
     (l.shows = none → l.source = .target → l.keepLeaf = true → l.notice c = c))

/-- What a DRIVING lane gives the panel and the load: each selected pixel the code of its pair, and to the load the histogram count
of every pair whose code is not NONE. The to-level of a LEAF source is the background where its block is unwritten; a CHANGED
lane selects only pixels whose levels differ (R44, R48, R49, R13).

The code of a pair is the two bits at position t mod 4 of the body byte that R26 names, in the slot's own blocks: 0 is NONE,
1 DARKEN, 2 LIGHTEN (R26, R27). -/
def Obligations.LaneDrivesItsSelectedPixels : Prop :=
  (∀ (s : State) (l : Lane),
     (∀ i f t, (i, f, t) ∈ s.lanePixels l ↔
       i ∈ rectIndices s.panelWidth l.rect ∧ f = Memory.pixel s.mem (shownBlocks s.pool.geometry) i ∧
       t = s.toLevel l i ∧ (l.selection = .all ∨ f ≠ t)) ∧
     (l.state ≠ .driving → s.laneDrive l = [] ∧ s.laneLoad l = 0) ∧
     (l.state = .driving →
       (∀ i c, (i, c) ∈ s.laneDrive l ↔ c ≠ .none ∧ ∃ f t, (i, f, t) ∈ s.lanePixels l ∧ c = s.laneCode l f t) ∧
       s.laneLoad l = ((List.range 256).map (fun i =>
         if s.laneCode l (i / 16) (i % 16) = .none then 0 else l.hist.getD i 0)).sum) ∧
     (∀ i, l.source = .target → s.toLevel l i = Memory.pixel s.mem (targetBlocks s.pool.geometry) i) ∧
     (∀ i n, l.source = .leaf n →
       s.toLevel l i = (if s.pool.written (l.blocks.getD (i / 8192) 0) = true
         then Memory.pixel s.mem l.blocks i else l.background))) ∧
  (∀ (m : Memory) (slot band k f t v : Nat) (frames : List Nat),
     v = (Memory.read m ((3904 + 32 * slot) * 4096 +
       (64 * (frames.take band).sum + 64 * k + 4 * f + t / 4))).toNat / 4 ^ (t % 4) % 4 →
     (v = 0 → driveLookup m slot frames band k f t = .none) ∧
     (v = 1 → driveLookup m slot frames band k f t = .darken) ∧
     (v = 2 → driveLookup m slot frames band k f t = .lighten))

/-- A frame event that completes the one lane that drives: the shown plane takes the to-level of each selected pixel and no
other byte of page memory changes; an ALL lane clears the uncertain entries its rectangle contains; a host lane reports
DONE and, where it is an ALL lane over the whole panel, sets the partial-turn counter to 0; the lane is FREE, its slot and its
source leaf are in use once less, and it leaves the rails, which hold once no lane is armed; the scan stops with a load of 0 (R47,
R51, R52, R58, R67, R92).

A turn lane that completes at a frame event: the partial-turn counter changes, TURN_DONE is queued, then CACHE_LOW where the
low-water test falls short, the turn in flight is over, and a deferred turn is resolved against the current leaf, by a miss or an
edge report or as the next turn in flight; the drawn leaf's and the slot's use ends (R95, R96, R97, R92, R51, R52).

The low-water test: it counts the READY leaves that follow the current leaf one by one in the turn's direction, up to the
first number without a record, with a FILLING leaf or beyond the range, and reports CACHE_LOW below the low-water count; no report
without a current leaf, at an edge leaf, or where the count meets one. A turn that is abandoned gives TURN_MISS and clears the turn
in flight and the deferred turn (R97, R98). -/
def Obligations.CompletedLaneReachesTheShownPlane : Prop :=
  (∀ (n : Nat) (s : State), s.coherent → n < 8 → s.engine.scan.isSome = true → s.rail.mode = .on →
     s.engine.pending = [] → (s.lane n).state = .driving → (s.lane n).frames = (s.lane n).index + 1 →
     (∀ k, k < 8 → k ≠ n → (s.lane k).state ≠ .armed ∧ (s.lane k).state ≠ .driving) → (s.lane n).origin = .host →
     ∃ t, exec .frameEvent s = .next t ∧
       t.mem = Memory.setPixels s.mem (shownBlocks s.pool.geometry) ((s.lanePixels (s.lane n)).map (fun p => (p.1, p.2.2))) ∧
       (∀ x, (∀ p ∈ s.lanePixels (s.lane n), x ≠ imageAddr (shownBlocks s.pool.geometry) (p.1 / 2)) →
         Memory.read t.mem x = Memory.read s.mem x) ∧
       (t.lane n).state = .free ∧ (∀ k, k < 8 → k ≠ n → t.lane k = s.lane k) ∧
       t.engine.scan = none ∧ t.engine.load = 0 ∧ t.engine.pending = [] ∧
       (∀ k, k < 6 → t.slot k = (if k = (s.lane n).slot
         then { s.slot k with useCount := (s.slot k).useCount - 1 } else s.slot k)) ∧
       t.cache = { s.cache with
         leaves := s.cache.leaves.map (fun l =>
           if (s.lane n).source = .leaf l.number then { l with useCount := l.useCount - 1 } else l)
         counter := if (s.lane n).rect = s.panelRect ∧ (s.lane n).selection = .all then 0 else s.cache.counter } ∧
       ((s.lane n).selection = .changed → t.engine.uncertain = s.engine.uncertain ∧ t.engine.whole = s.engine.whole) ∧
       ((s.lane n).selection = .all →
         t.engine.uncertain = s.engine.uncertain.filter (fun u => !rectContains (s.lane n).rect u)) ∧
       (s.power.mode ≠ .standby → s.link.roomForReport = true →
         t.link.queue = s.link.queue ++ [.report (.updateDone (s.lane n).tag .done (s.lane n).promoted)]) ∧
       (s.rail.armed = 1 →
         t.rail.armed = 0 ∧
         (0 < s.rail.holdTime → t.rail.mode = .hold ∧ t.rail.hold = some s.rail.holdTime) ∧
         (s.rail.holdTime = 0 → t.rail.mode = .falling ∧ t.rail.fall = some s.rail.fallTime))) ∧
  (∀ (n : Nat) (f : TurnFlight) (s : State), s.coherent → s.leavesSound → n < 8 → s.engine.scan.isSome = true → s.rail.mode = .on →
     s.engine.pending = [] → (s.lane n).state = .driving → (s.lane n).frames = (s.lane n).index + 1 →
     (∀ k, k < 8 → k ≠ n → (s.lane k).state ≠ .armed ∧ (s.lane k).state ≠ .driving) → (s.lane n).origin = .turn →
     s.cache.flight = some f →
     ∃ (t : State) (counter : Nat) (extra : List Report) (next : Option TurnFlight), exec .frameEvent s = .next t ∧
       counter = (if (s.lane n).selection = .all then 0 else min (s.cache.counter + 1) 63) ∧
       DeferredResolves { s.cache with counter := counter } s extra next ∧
       t.mem = Memory.setPixels s.mem (shownBlocks s.pool.geometry) ((s.lanePixels (s.lane n)).map (fun p => (p.1, p.2.2))) ∧
       t.cache.counter = counter ∧ t.cache.flight = next ∧ t.cache.deferred = none ∧
       t.cache.current = s.cache.current ∧ t.cache.anchor = s.cache.anchor ∧
       (s.power.mode ≠ .standby → reportCount s.link.queue + 3 ≤ 28 → s.link.queue.length + 4 ≤ 32 →
         t.link.queue = s.link.queue ++ .report (.turnDone f.leaf f.dir f.kind (s.lane n).promoted) ::
           (s.cache.lowReport f.dir ++ extra).map .report) ∧
       (next = none → (t.lane n).state = .free ∧ (∀ k, k < 8 → k ≠ n → t.lane k = s.lane k) ∧ t.engine.pending = [] ∧
         (∀ k, k < 6 → t.slot k = (if k = (s.lane n).slot
           then { s.slot k with useCount := (s.slot k).useCount - 1 } else s.slot k)) ∧
         t.cache.leaves = s.cache.leaves.map (fun l =>
           if (s.lane n).source = .leaf l.number then { l with useCount := l.useCount - 1 } else l)) ∧
       (∀ x, next = some x → (∃ k, k < 8 ∧ (t.lane k).state = .preparing ∧ (t.lane k).origin = .turn ∧
           (t.lane k).source = .leaf x.leaf ∧ (t.lane k).rect = s.panelRect) ∨
         ∃ e ∈ t.engine.pending, e.origin = .turn ∧ e.source = .leaf x.leaf ∧ e.rect = s.panelRect)) ∧
  ((∀ (c : CacheState) (d : TurnDir) (n k : Nat),
     (c.current = none → c.lowReport d = []) ∧
     (c.current = some n → (∃ l, c.leaf n = some l ∧ l.edge = some (edgeOf d)) → c.lowReport d = []) ∧
     (c.current = some n → (∀ l, c.leaf n = some l → l.edge ≠ some (edgeOf d)) →
       (match d with | .next => n + k ≤ 16777215 | .prev => k ≤ n) →
       (∀ i, 1 ≤ i → i ≤ k → ∃ l, c.leaf (jumpLeaf n i d) = some l ∧ l.mode = .ready ∧ l.edge ≠ some (edgeOf d)) →
       ((∀ m, stepLeaf (jumpLeaf n k d) d = some m → ∀ l, c.leaf m = some l → l.mode = .filling) →
         c.lowReport d = (if k < c.settings.lowWater then [.cacheLow n d k] else [])) ∧
       (∀ m l, stepLeaf (jumpLeaf n k d) d = some m → c.leaf m = some l → l.mode = .ready → l.edge = some (edgeOf d) →
         c.lowReport d = []))) ∧
   (∀ (cause : MissCause) (s : State) (f : TurnFlight),
     (s.cache.flight = none → turnAbandoned cause s = s) ∧
     (s.cache.flight = some f → ∃ u, u = raise (.turnMiss f.dir (some f.leaf) cause) s ∧
       turnAbandoned cause s = { u with cache := { s.cache with flight := none, deferred := none } })))

/-- The uncertain region list: a rectangle it covers adds nothing; otherwise the entries the new one contains go and it is
appended, or, past eight, the list becomes the whole panel marked WHOLE and no busy lane with CHANGED selection is left. A
completed ALL rectangle removes the entries it contains (R56, R57, R58). -/
def Obligations.UncertainListGrowsAndCollapses : Prop :=
  ∀ (r : Rect) (s : State),
    (s.engine.whole = true ∨ (∃ u ∈ s.engine.uncertain, rectContains u r = true) → addUncertain r s = s) ∧
    (s.engine.whole = false → (∀ u ∈ s.engine.uncertain, rectContains u r = false) →
      ((s.engine.uncertain.filter (fun u => !rectContains r u)).length < 8 →
        addUncertain r s = { s with engine := { s.engine with
          uncertain := s.engine.uncertain.filter (fun u => !rectContains r u) ++ [r] } }) ∧
      (8 ≤ (s.engine.uncertain.filter (fun u => !rectContains r u)).length →
        (addUncertain r s).engine.uncertain = [s.panelRect] ∧ (addUncertain r s).engine.whole = true ∧
        (∀ n, n < 8 → ((addUncertain r s).lane n).state = .free ∨ ((addUncertain r s).lane n).selection = .all) ∧
        (∀ n, n < 8 → (s.lane n).selection = .all → (addUncertain r s).lane n = s.lane n) ∧
        (addUncertain r s).engine.pending = s.engine.pending)) ∧
    (s.engine.clearUncertain r).uncertain = s.engine.uncertain.filter (fun u => !rectContains r u) ∧
    ((s.engine.clearUncertain r).uncertain = [] → (s.engine.clearUncertain r).whole = false)

/-- A taken tile for the target plane gives pixel (x + i, y + j) its level at row j, column i, two pixels to a byte with each row on
a fresh byte; every other pixel of the plane and every byte outside it keep their values, and nothing else changes (R55). -/
def Obligations.TileWritesTheTargetPlane : Prop :=
  ∀ (r : Rect) (pixels : List Byte) (p : PanelArgs) (s : State), servingMode s.power.mode = true →
    s.pool.geometry = some p → p.width % 8 = 0 → tileCheck (.tile 0 r pixels) s = none →
    ∃ m : Memory, exec (.tileTarget (.tile 0 r pixels)) s = .next { s.taken (.tileTarget (.tile 0 r pixels)) with mem := m } ∧
      (∀ i j, i < r.w → j < r.h →
        Memory.pixel m (targetBlocks s.pool.geometry) ((r.y + j) * p.width + (r.x + i)) =
          (if i % 2 = 0 then (pixels.getD (j * ((r.w + 1) / 2) + i / 2) 0).toNat / 16
            else (pixels.getD (j * ((r.w + 1) / 2) + i / 2) 0).toNat % 16)) ∧
      (∀ x y, x < p.width → y < p.height → ¬(r.x ≤ x ∧ x < r.x + r.w ∧ r.y ≤ y ∧ y < r.y + r.h) →
        Memory.pixel m (targetBlocks s.pool.geometry) (y * p.width + x) =
          Memory.pixel s.mem (targetBlocks s.pool.geometry) (y * p.width + x)) ∧
      (∀ x, x < planeSize s.pool.geometry * 4096 ∨ 2 * planeSize s.pool.geometry * 4096 ≤ x →
        Memory.read m x = Memory.read s.mem x)

/-! ### Rails and the supply budget -/

/-- The hold and fall timers: a hold that ends lets the rails fall; a fall that ends leaves them OFF, of which the power
controller hears, or makes them rise again for lanes that armed meanwhile (R68, R69, R64). Any other expiry is no event.

The arrival of power-good ends a rise: with no lane armed the rails hold (or fall at once under a hold time of 0); with lanes
ARMED they are ON, the scan starts and every ARMED lane drives its first frame. In any other rail state it changes only the
level seen (R65, R67, R46). -/
def Obligations.RailsFollowTimersAndPowerGood : Prop :=
  (∀ s : State, s.coherent →
     (s.rail.mode = .hold → s.rail.hold.isSome = true →
       ∃ t, exec .holdTimerExpire s = .next t ∧
         t.rail = { s.rail with mode := .falling, hold := none, fall := some s.rail.fallTime } ∧
         t.budget.rail = .falling ∧ t.budget.panel = 0 ∧ SameExcept [.rail, .budget, .light] s t) ∧
     (¬(s.rail.mode = .hold ∧ s.rail.hold.isSome = true) → exec .holdTimerExpire s = .next s) ∧
     (s.rail.mode = .falling → s.rail.fall.isSome = true → s.rail.armed = 0 →
       ∃ t, exec .fallTimerExpire s = .next t ∧ t.rail = { s.rail with mode := .off, fall := none } ∧
         t.power.railsOff = true ∧ FrameOf [.rail, .budget, .light, .power] s t) ∧
     (s.rail.mode = .falling → s.rail.fall.isSome = true → 0 < s.rail.armed → s.rail.powerGood = false →
       ∃ t, exec .fallTimerExpire s = .next t ∧
         t.rail = { s.rail with mode := .rising, fall := none, rise := some s.rail.riseTime } ∧
         t.power.railsOff = false ∧ FrameOf [.rail, .budget, .light, .power] s t) ∧
     (¬(s.rail.mode = .falling ∧ s.rail.fall.isSome = true) → exec .fallTimerExpire s = .next s)) ∧
  (∀ s : State, s.coherent →
     (s.rail.powerGood = true → exec .powerGoodArrive s = .next s) ∧
     (s.rail.powerGood = false → s.rail.mode ≠ .rising →
       exec .powerGoodArrive s = .next { s with rail := { s.rail with powerGood := true } }) ∧
     (s.rail.powerGood = false → s.rail.mode = .rising → s.rail.armed = 0 →
       (∀ n, n < 8 → (s.lane n).state ≠ .armed) →
       ∃ t, exec .powerGoodArrive s = .next t ∧
         t.rail = (if s.rail.holdTime = 0
           then { s.rail with powerGood := true, rise := none, hold := none, mode := .falling, fall := some s.rail.fallTime }
           else { s.rail with powerGood := true, rise := none, hold := some s.rail.holdTime, mode := .hold }) ∧
         SameExcept [.rail, .budget, .light] s t) ∧
     (s.rail.powerGood = false → s.rail.mode = .rising → 0 < s.rail.armed → s.engine.scan = none → s.engine.pending = [] →
       (∃ n, n < 8 ∧ (s.lane n).state = .armed) →
       (∀ n, n < 8 → (s.lane n).state = .armed → 1 < (s.lane n).frames) →
       (∀ n, n < 8 → (s.lane n).state ≠ .driving) →
       ∃ t, exec .powerGoodArrive s = .next t ∧
         t.rail = { s.rail with powerGood := true, rise := none, mode := .on } ∧
         t.engine.scan = some s.engine.framePeriod ∧
         (∀ n, n < 8 → t.lane n = (if (s.lane n).state = .armed
           then { s.lane n with state := .driving, index := 1 } else s.lane n)) ∧
         t.power.mode = s.power.mode ∧ SameBytesExcept (fun _ => False) s t))

/-- The loss of power-good in ON or HOLD and the end of the rise timer in RISING put the rails in FAULT: the timers stop, every
ARMED and DRIVING lane is freed, the rectangles of those that drove are uncertain, the scan stops, nothing pending starts, and
RAIL_FAULT is raised with the cause and the state left. Elsewhere neither changes more than the level seen (R66, R70, R71, R59).

RAIL_CLEAR: STATE outside FAULT, BUSY while power-good is present, and otherwise OK with the rails OFF and no fault cause
(R72). -/
def Obligations.RailFaultFreesTheLanesUntilCleared : Prop :=
  (∀ s : State, s.coherent →
     (s.rail.powerGood = false → exec .powerGoodLost s = .next s) ∧
     (s.rail.powerGood = true → s.rail.mode ≠ .on → s.rail.mode ≠ .hold →
       exec .powerGoodLost s = .next { s with rail := { s.rail with powerGood := false } }) ∧
     (¬(s.rail.mode = .rising ∧ s.rail.rise.isSome = true) → exec .riseTimerExpire s = .next s) ∧
     (∀ (i : Instr) (c : FaultCause),
       (i = .powerGoodLost ∧ c = .powerLost ∧ s.rail.powerGood = true ∧ (s.rail.mode = .on ∨ s.rail.mode = .hold)) ∨
         (i = .riseTimerExpire ∧ c = .riseTimeout ∧ s.rail.mode = .rising ∧ s.rail.rise.isSome = true) →
       ∃ t, exec i s = .next t ∧
         t.rail.mode = .fault ∧ t.rail.cause = some c ∧ t.rail.rise = none ∧ t.rail.hold = none ∧ t.rail.fall = none ∧
         (∀ n, n < 8 → (t.lane n).state ≠ .armed ∧ (t.lane n).state ≠ .driving) ∧
         (∀ n, n < 8 → (s.lane n).state = .driving →
           t.engine.whole = true ∨ ∃ u ∈ t.engine.uncertain, rectContains u (s.lane n).rect = true) ∧
         ((∀ n, n < 8 → (s.lane n).state ≠ .driving) →
           t.engine.uncertain = s.engine.uncertain ∧ t.engine.whole = s.engine.whole ∧
           ∀ n, n < 8 → (s.lane n).state = .preparing → t.lane n = s.lane n) ∧
         t.engine.scan = none ∧ t.engine.pending = s.engine.pending ∧
         t.budget.rail = .fault ∧ t.budget.panel = 0 ∧ t.budget.allowance = max t.budget.budget t.budget.floor ∧
         ((∀ n, n < 8 → (s.lane n).state ≠ .armed ∧ (s.lane n).state ≠ .driving) → s.power.mode ≠ .standby →
           s.link.roomForReport = true → t.link.queue = s.link.queue ++ [.report (.railFault c s.rail.mode)]) ∧
         t.power.mode = s.power.mode ∧ SameExcept [.wave, .engine, .rail, .budget, .cache, .light, .power, .link] s t)) ∧
  (∀ (tag : Nat) (s : State), s.serves → s.coherent →
     (s.rail.mode ≠ .fault →
       exec (.railClear tag (.fields ())) s =
         .next (s.answered (.railClear tag (.fields ())) (plainReply 0x41 tag .state))) ∧
     (s.rail.mode = .fault → s.rail.powerGood = true →
       exec (.railClear tag (.fields ())) s =
         .next (s.answered (.railClear tag (.fields ())) (plainReply 0x41 tag .busy))) ∧
     (s.rail.mode = .fault → s.rail.powerGood = false → s.engine.pending = [] →
       ∃ t, exec (.railClear tag (.fields ())) s = .next t ∧ t.rail = { s.rail with mode := .off, cause := none } ∧
         t.power.railsOff = true ∧ t.budget.rail = .off ∧
         t.link.queue = s.link.queue ++ [.reply (plainReply 0x41 tag .ok)] ∧
         FrameOf [.rail, .budget, .light, .power, .link] s t))

/-- The panel estimate: I_base + load x q / 1,000,000 rounded up in RISING, ON and HOLD, and 0 in OFF, FALLING and FAULT (R77). -/
def Obligations.PanelEstimateFollowsLoadAndRails : Prop :=
  ∀ b : BudgetState,
    (b.rail = .rising ∨ b.rail = .on ∨ b.rail = .hold →
      b.base ≤ b.estimate ∧ b.load * b.coeff ≤ (b.estimate - b.base) * 1000000 ∧
      (b.estimate - b.base) * 1000000 < b.load * b.coeff + 1000000) ∧
    (b.rail = .off ∨ b.rail = .falling ∨ b.rail = .fault → b.estimate = 0)

/-- A recomputation takes the effective budget from the LOWBAT level, forms the estimate, sets BUDGET_OVER where the estimate
exceeds it, and sets the allowance to the rest or the floor; a BUDGET_SETUP in range and a change of LOWBAT recompute, and the
light forms its duties afresh in the same event. LOW_BATTERY is raised in ACTIVE, DOZE and SETTLING, and left for the end of
WAKING otherwise (R78, R79, R76). -/
def Obligations.BudgetChangesReachTheLight : Prop :=
  (∀ b : BudgetState,
    b.recompute.effective = (if b.lowbat then b.low else b.normal) ∧ b.recompute.panel = b.estimate ∧
    b.recompute.allowance = max (b.recompute.effective - b.estimate) b.floor ∧
    (b.recompute.effective < b.estimate → b.recompute.budgetOver.isSet = true) ∧
    (b.estimate ≤ b.recompute.effective → b.recompute.budgetOver = b.budgetOver)) ∧
  (∀ (tag : Nat) (a : BudgetArgs) (s : State), s.serves → s.link.locked = false →
    (a.normal < 50 ∨ 2000 < a.normal ∨ a.low < 50 ∨ 2000 < a.low ∨ 255 < a.base ∨ a.coeff = 0 ∨ 1000 < a.coeff ∨
        a.normal < a.low →
      exec (.budgetSetup tag (.fields a)) s =
        .next (s.answered (.budgetSetup tag (.fields a)) (plainReply 0x42 tag .badParam))) ∧
    (s.coherent → 50 ≤ a.normal → a.normal ≤ 2000 → 50 ≤ a.low → a.low ≤ a.normal → a.base ≤ 255 → 1 ≤ a.coeff →
      a.coeff ≤ 1000 → ∃ b : BudgetState,
        b = { s.budget with normal := a.normal, low := a.low, base := a.base, coeff := a.coeff }.recompute ∧
        exec (.budgetSetup tag (.fields a)) s = .next ({ s with
          budget := b, light := { s.light with allowance := b.allowance }.formDuties }.answered
            (.budgetSetup tag (.fields a)) (plainReply 0x42 tag .ok)))) ∧
  (∀ (asserted : Bool) (s : State), s.coherent →
    (s.budget.lowbat = asserted → exec (.lowbatChange asserted) s = .next s) ∧
    (s.budget.lowbat ≠ asserted → ∃ b : BudgetState, b = { s.budget with lowbat := asserted }.recompute ∧
      (asserted = true → s.power.mode = .active ∨ s.power.mode = .doze ∨ s.power.mode = .settling →
        exec (.lowbatChange asserted) s = .next (raise .lowBattery { s with
          budget := { b with reported := true }
          light := { s.light with allowance := b.allowance }.formDuties })) ∧
      (asserted = true → s.power.mode = .standby ∨ s.power.mode = .waking →
        exec (.lowbatChange asserted) s = .next { s with
          budget := { b with reported := false }
          light := { s.light with allowance := b.allowance }.formDuties }) ∧
      (asserted = false →
        exec (.lowbatChange asserted) s = .next { s with
          budget := { b with reported := true }
          light := { s.light with allowance := b.allowance }.formDuties })))

/-! ### The page cache and turns -/

/-- LEAF_FILL: STATE without a geometry, BAD_PARAM out of range, BUSY for a leaf that is FILLING, SHOWN or in use. A READY leaf is
reused with its written marks cleared. A new number takes the P lowest FREE blocks, all unwritten, with no eviction where fewer than
12 leaves and enough blocks are there; with too few blocks the fewest leaves that make room go, each with LEAF_EVICTED after the
reply, and with 12 leaves the farthest evictable one; where they cannot, NO_SPACE is answered (R83, R84, R12, R13). -/
def Obligations.LeafFillOpensALeaf : Prop :=
  ∀ (tag : Nat) (a : LeafFillArgs) (s : State), s.serves →
    (s.pool.geometry = none →
      exec (.leafFill tag (.fields a)) s =
        .next (s.answered (.leafFill tag (.fields a)) (plainReply 0x50 tag .state))) ∧
    (s.pool.geometry.isSome = true →
      16777215 < a.leaf ∨ 15 < a.background ∨ (∃ n, a.turnSlot = some n ∧ 5 < n) →
      exec (.leafFill tag (.fields a)) s =
        .next (s.answered (.leafFill tag (.fields a)) (plainReply 0x50 tag .badParam))) ∧
    (s.pool.geometry.isSome = true → a.leaf ≤ 16777215 → a.background ≤ 15 → (∀ n, a.turnSlot = some n → n ≤ 5) →
      (∀ l, s.cache.leaf a.leaf = some l → l.mode ≠ .ready ∨ 0 < l.useCount →
        exec (.leafFill tag (.fields a)) s =
          .next (s.answered (.leafFill tag (.fields a)) (plainReply 0x50 tag .busy))) ∧
      (∀ l, s.cache.leaf a.leaf = some l → l.mode = .ready → l.useCount = 0 →
        exec (.leafFill tag (.fields a)) s = .next ({ s with
          pool := s.pool.mark l.blocks false
          cache := s.cache.withLeaf a.leaf (fun l => { l with
            mode := .filling, background := a.background, turnSlot := a.turnSlot, edge := a.edge }) }.answered
          (.leafFill tag (.fields a)) (plainReply 0x50 tag .ok))) ∧
      (s.cache.leaf a.leaf = none → s.cache.leaves.length < 12 → planeSize s.pool.geometry ≤ s.pool.freeCount →
        ∃ (p : PoolState) (l : Leaf),
        p = s.pool.give (s.pool.lowestFree (planeSize s.pool.geometry)) (.leaf a.leaf false) ∧
        l = ⟨a.leaf, .filling, s.pool.lowestFree (planeSize s.pool.geometry), a.background, 0, a.turnSlot, a.edge⟩ ∧
        exec (.leafFill tag (.fields a)) s = .next ({ s with
          pool := p
          radio := { s.radio with freeCopy := p.freeCount, reserveCopy := p.reserve }.rehold
          cache := { s.cache with leaves := insertLeaf l s.cache.leaves } }.answered (.leafFill tag (.fields a)) (plainReply 0x50 tag .ok))) ∧
      (s.cache.leaf a.leaf = none → 12 ≤ s.cache.leaves.length → s.cache.fillVictims a.leaf = [] →
        exec (.leafFill tag (.fields a)) s =
          .next (s.answered (.leafFill tag (.fields a)) (plainReply 0x50 tag .noSpace))) ∧
      (s.cache.leaf a.leaf = none → s.cache.leaves.length < 12 →
        s.pool.freeCount + ((s.cache.fillVictims a.leaf).map (fun l => l.blocks.length)).sum < planeSize s.pool.geometry →
        exec (.leafFill tag (.fields a)) s =
          .next (s.answered (.leafFill tag (.fields a)) (plainReply 0x50 tag .noSpace))) ∧
      (∀ gone kept, s.cache.leaf a.leaf = none → s.cache.leaves.length < 12 →
        s.cache.fillVictims a.leaf = gone ++ kept → gone ≠ [] →
        planeSize s.pool.geometry ≤ s.pool.freeCount + (gone.map (fun l => l.blocks.length)).sum →
        s.pool.freeCount + (gone.dropLast.map (fun l => l.blocks.length)).sum < planeSize s.pool.geometry →
        reportCount s.link.queue + gone.length ≤ 28 → s.link.queue.length + 1 + gone.length ≤ 32 →
        ∃ (t : State) (p : PoolState) (l : Leaf), exec (.leafFill tag (.fields a)) s = .next t ∧
          p = gone.foldl (fun p v => p.release v.blocks) s.pool ∧
          l = ⟨a.leaf, .filling, p.lowestFree (planeSize s.pool.geometry), a.background, 0, a.turnSlot, a.edge⟩ ∧
          t.pool = p.give l.blocks (.leaf a.leaf false) ∧ t.radio.freeCopy = t.pool.freeCount ∧
          t.cache = { s.cache with leaves := insertLeaf l (s.cache.leaves.filter (fun x : Leaf =>
            !(gone.map Leaf.number).contains x.number)) } ∧
          t.link.queue = s.link.queue ++ .reply (plainReply 0x50 tag .ok) ::
            gone.map (fun v => .report (.leafEvicted v.number)) ∧
          SameExcept [.pool, .cache, .radio, .power, .link] s t) ∧
      (∀ v rest, s.cache.leaf a.leaf = none → 12 ≤ s.cache.leaves.length → s.cache.fillVictims a.leaf = v :: rest →
        reportCount s.link.queue < 28 → s.link.queue.length + 1 < 32 →
        ∃ t, exec (.leafFill tag (.fields a)) s = .next t ∧ t.cache.leaf v.number = none ∧
          (∃ l, t.cache.leaf a.leaf = some l ∧ l.mode = .filling ∧ l.background = a.background ∧ l.useCount = 0 ∧
            l.turnSlot = a.turnSlot ∧ l.edge = a.edge) ∧
          t.link.queue = s.link.queue ++ [.reply (plainReply 0x50 tag .ok), .report (.leafEvicted v.number)] ∧
          SameExcept [.pool, .cache, .radio, .power, .link] s t))

/-- LEAF_CLOSE: BAD_PARAM out of range, NO_SUCH without a record, STATE for a leaf that is not FILLING, and otherwise OK with the
leaf READY and nothing else changed (R86).

LEAF_DROP: BAD_PARAM out of range, NO_SUCH without a record, BUSY for a leaf that is SHOWN or in use, and otherwise OK with the
record removed and its blocks released (R87, R4). -/
def Obligations.LeafCloseAndDrop : Prop :=
  (∀ (tag n : Nat) (s : State), s.serves →
     (16777215 < n → exec (.leafClose tag (.fields n)) s =
       .next (s.answered (.leafClose tag (.fields n)) (plainReply 0x51 tag .badParam))) ∧
     (n ≤ 16777215 → s.cache.leaf n = none → exec (.leafClose tag (.fields n)) s =
       .next (s.answered (.leafClose tag (.fields n)) (plainReply 0x51 tag .noSuch))) ∧
     (∀ l, n ≤ 16777215 → s.cache.leaf n = some l → l.mode ≠ .filling → exec (.leafClose tag (.fields n)) s =
       .next (s.answered (.leafClose tag (.fields n)) (plainReply 0x51 tag .state))) ∧
     (∀ l, n ≤ 16777215 → s.cache.leaf n = some l → l.mode = .filling → exec (.leafClose tag (.fields n)) s =
       .next ({ s with cache := { s.cache with leaves := s.cache.leaves.map (fun x : Leaf =>
         if x.number = n then { x with mode := .ready } else x) } }.answered
           (.leafClose tag (.fields n)) (plainReply 0x51 tag .ok)))) ∧
  (∀ (tag n : Nat) (s : State), s.serves →
     (16777215 < n → exec (.leafDrop tag (.fields n)) s =
       .next (s.answered (.leafDrop tag (.fields n)) (plainReply 0x52 tag .badParam))) ∧
     (n ≤ 16777215 → s.cache.leaf n = none → exec (.leafDrop tag (.fields n)) s =
       .next (s.answered (.leafDrop tag (.fields n)) (plainReply 0x52 tag .noSuch))) ∧
     (∀ l, n ≤ 16777215 → s.cache.leaf n = some l → l.mode = .shown ∨ 0 < l.useCount →
       exec (.leafDrop tag (.fields n)) s =
         .next (s.answered (.leafDrop tag (.fields n)) (plainReply 0x52 tag .busy))) ∧
     (∀ l, n ≤ 16777215 → s.cache.leaf n = some l → l.mode ≠ .shown → l.useCount = 0 →
       ∃ p : PoolState, p = s.pool.release l.blocks ∧
       exec (.leafDrop tag (.fields n)) s = .next ({ s with
         pool := p
         radio := { s.radio with freeCopy := p.freeCount, reserveCopy := p.reserve }.rehold
         cache := { s.cache with leaves := s.cache.leaves.filter (fun x : Leaf => x.number ≠ n) } }.answered
           (.leafDrop tag (.fields n)) (plainReply 0x52 tag .ok))))

/-- A taken tile for a FILLING leaf sets the written mark of every block its rectangle touches, and no other mark changes; a
touched block that was unwritten is first filled with the background; each pixel takes the tile's level and every other pixel of
the leaf reads as before; no byte outside the touched blocks changes (R85, R14, R13). -/
def Obligations.TileWritesTheLeaf : Prop :=
  ∀ (n : Nat) (r : Rect) (pixels : List Byte) (p : PanelArgs) (l : Leaf) (s : State),
    servingMode s.power.mode = true → s.poolSound → s.pool.geometry = some p → s.cache.leaf n = some l →
    l.background ≤ 15 → leafTileCheck n r pixels s = none →
    ∃ t, exec (.tileLeaf n r pixels) s = .next t ∧ SameExcept [.mem, .pool, .link] s t ∧
      t.link = { s.link with buffer := bufferAfter (.tileLeaf n r pixels) s.link.buffer } ∧
      t.pool.freeCount = s.pool.freeCount ∧ t.pool.held = s.pool.held ∧
      (∀ b, t.pool.written b = true ↔ s.pool.written b = true ∨
        ∃ i ∈ rectIndices p.width r, l.blocks.getD (i / 8192) 0 = b) ∧
      (∀ i j, i < r.w → j < r.h →
        leafPixel t.pool t.mem l.blocks l.background ((r.y + j) * p.width + (r.x + i)) =
          (if i % 2 = 0 then (pixels.getD (j * ((r.w + 1) / 2) + i / 2) 0).toNat / 16
            else (pixels.getD (j * ((r.w + 1) / 2) + i / 2) 0).toNat % 16)) ∧
      (∀ x y, x < p.width → y < p.height → ¬(r.x ≤ x ∧ x < r.x + r.w ∧ r.y ≤ y ∧ y < r.y + r.h) →
        leafPixel t.pool t.mem l.blocks l.background (y * p.width + x) =
          leafPixel s.pool s.mem l.blocks l.background (y * p.width + x)) ∧
      (∀ x, (∀ i ∈ rectIndices p.width r, l.blocks.getD (i / 8192) 0 ≠ x / 4096) →
        Memory.read t.mem x = Memory.read s.mem x)

/-- SHOW_LEAF stands for a host update of the whole panel from its leaf, with the slot and selection given or, where no slot is
given, those of a turn to the leaf; it is refused and accepted as that update is, under its own code, and SLOT_INVALID where the
slot to be chosen is unset (R89, R92). A slot left unset is tested before the update's own checks (log 14). -/
def Obligations.ShowLeafIsAWholePanelUpdate : Prop :=
  ∀ (tag : Nat) (a : ShowLeafArgs) (s : State), s.serves →
    (showChoice a s.cache = none → exec (.showLeaf tag (.fields a)) s =
      .next (s.answered (.showLeaf tag (.fields a)) (plainReply 0x53 tag .slotInvalid))) ∧
    (∀ slot sel st, showChoice a s.cache = some (slot, sel) →
      updateCheck ⟨s.panelRect, slot, sel, .leaf a.leaf, false, none⟩ s = some st →
      exec (.showLeaf tag (.fields a)) s =
        .next (s.answered (.showLeaf tag (.fields a)) (plainReply 0x53 tag st))) ∧
    (∀ slot sel, s.coherent → showChoice a s.cache = some (slot, sel) →
      updateCheck ⟨s.panelRect, slot, sel, .leaf a.leaf, false, none⟩ s = none →
      ∃ t, exec (.showLeaf tag (.fields a)) s = .next t ∧
        t.link.queue = s.link.queue ++ [.reply (plainReply 0x53 tag .accepted)] ∧ t.rail = s.rail ∧ t.pool = s.pool ∧
        t.power.mode = s.power.mode ∧ SameBytesExcept (fun _ => False) s t ∧
        (s.engine.pending = [] → (∃ n, n < 8 ∧ (s.lane n).state ≠ .free ∧ rectOverlaps (s.lane n).rect s.panelRect = true) →
          t.engine.pending = [⟨tag, .host, s.panelRect, slot, sel, .leaf a.leaf, false, none⟩]) ∧
        (s.engine.pending = [] → (∀ n, n < 8 → (s.lane n).state = .free) →
          t.engine.pending = [] ∧ (t.lane 0).state = .preparing ∧ (t.lane 0).rect = s.panelRect ∧
            (t.lane 0).source = .leaf a.leaf ∧ (t.lane 0).tag = tag ∧ (t.lane 0).origin = .host)) ∧
    (∀ n, a.slot = some n → showChoice a s.cache = some (n, a.selection.getD .changed)) ∧
    (a.slot = none → s.cache.settings.cadence ≤ s.cache.counter →
      showChoice a s.cache = s.cache.settings.fullSlot.map (fun n => (n, Selection.all))) ∧
    (a.slot = none → s.cache.counter < s.cache.settings.cadence →
      showChoice a s.cache = ((s.cache.leafSlot a.leaf).orElse (fun _ => s.cache.settings.partialSlot)).map
        (fun n => (n, Selection.changed)))

/-- SHOW_LEAF with the declare mark: BAD_PARAM, NO_SUCH and BUSY as R90 orders them, and otherwise OK: the leaf that was SHOWN becomes
READY, leaf n becomes SHOWN, current and anchor, and nothing else changes (R90, R88). -/
def Obligations.DeclaredLeafBecomesCurrent : Prop :=
  ∀ (tag : Nat) (a : ShowLeafArgs) (s : State), s.serves →
    (16777215 < a.leaf → exec (.showLeafDeclare tag a) s =
      .next (s.answered (.showLeafDeclare tag a) (plainReply 0x53 tag .badParam))) ∧
    (a.leaf ≤ 16777215 → s.cache.leaf a.leaf = none ∨ (∃ l, s.cache.leaf a.leaf = some l ∧ l.mode = .filling) →
      exec (.showLeafDeclare tag a) s =
        .next (s.answered (.showLeafDeclare tag a) (plainReply 0x53 tag .noSuch))) ∧
    (∀ l, a.leaf ≤ 16777215 → s.cache.leaf a.leaf = some l → l.mode ≠ .filling →
      (((∃ n, n < 8 ∧ (s.lane n).state ≠ .free) ∨ s.engine.pending ≠ []) →
        exec (.showLeafDeclare tag a) s =
          .next (s.answered (.showLeafDeclare tag a) (plainReply 0x53 tag .busy))) ∧
      ((∀ n, n < 8 → (s.lane n).state = .free) → s.engine.pending = [] →
        exec (.showLeafDeclare tag a) s = .next ({ s with cache := { s.cache with
          leaves := s.cache.leaves.map (fun x : Leaf =>
            if x.number = a.leaf then { x with mode := LeafMode.shown }
            else if x.mode = LeafMode.shown then { x with mode := LeafMode.ready } else x)
          current := some a.leaf
          anchor := some a.leaf } }.answered (.showLeafDeclare tag a) (plainReply 0x53 tag .ok))))

/-- A turn request is resolved by the first case of R91 that applies: SLEEP under the sleep mark; into the deferred turn while a turn
is in flight, where equal directions add up to 16 and opposite ones cancel; NONE without a current leaf; TURN_EDGE at the
book's end; ABSENT and FILLING; otherwise submitted, and missed with the engine's refusal or in flight (R91, R93, R94).

The kind, slot and selection of a turn by the partial-turn counter; the counter after a turn lane completes; and the order in
which leaves are given up: only READY leaves with no use, farthest from the anchor first and then the higher-numbered, for a
staging block never one within the guard distance (R92, R99, R84). -/
def Obligations.TurnsAreResolvedInOrder : Prop :=
  (∀ (d : TurnDir) (s : State),
     (s.cache.sleepMark = true → turnRequest d s = raise (.turnMiss d none .sleep) s) ∧
     (∀ f, s.cache.sleepMark = false → s.cache.flight = some f →
       turnRequest d s = { s with cache := { s.cache with deferred := (match s.cache.deferred with
         | none => some ⟨d, 1⟩
         | some q => if q.dir = d then some ⟨d, min (q.count + 1) 16⟩
           else if q.count ≤ 1 then none else some ⟨q.dir, q.count - 1⟩) } }) ∧
     (s.cache.sleepMark = false → s.cache.flight = none →
       (s.cache.current = none → turnRequest d s = raise (.turnMiss d none .noCurrent) s) ∧
       (∀ n, s.cache.current = some n →
         ((∃ l, s.cache.leaf n = some l ∧ l.edge = some (edgeOf d)) ∨ stepLeaf n d = none →
           turnRequest d s = raise (.turnEdge n d) s) ∧
         (∀ m, (∀ l, s.cache.leaf n = some l → l.edge ≠ some (edgeOf d)) → stepLeaf n d = some m →
           (s.cache.leaf m = none → turnRequest d s = raise (.turnMiss d (some m) .absent) s) ∧
           (∀ l, s.cache.leaf m = some l → l.mode = .filling →
             turnRequest d s = raise (.turnMiss d (some m) .filling) s) ∧
           (∀ l, s.cache.leaf m = some l → l.mode ≠ .filling →
             (∀ k sel, s.cache.turnChoice l.turnSlot = (k, none, sel) →
               turnRequest d s = raise (.turnMiss d (some m) .slot) s) ∧
             (∀ k slot sel, s.cache.turnChoice l.turnSlot = (k, some slot, sel) →
               ((s.slot slot).state ≠ .valid → turnRequest d s = raise (.turnMiss d (some m) .slot) s) ∧
               ((s.slot slot).state = .valid → s.rail.mode = .fault →
                 turnRequest d s = raise (.turnMiss d (some m) .rail) s) ∧
               ((s.slot slot).state = .valid → s.rail.mode ≠ .fault → 16 ≤ s.engine.pending.length →
                 turnRequest d s = raise (.turnMiss d (some m) .queue) s) ∧
               ((s.slot slot).state = .valid → s.rail.mode ≠ .fault → s.engine.pending.length < 16 →
                 (turnRequest d s).cache.flight = some ⟨m, d, k⟩ ∧ (turnRequest d s).link.queue = s.link.queue ∧
                 ((turnRequest d s).cache.leaf m).map Leaf.useCount = some (l.useCount + 1) ∧
                 SameBytesExcept (fun _ => False) s (turnRequest d s)))))))) ∧
  (∀ (c : CacheState),
     (∀ slot, c.settings.cadence ≤ c.counter → c.turnChoice slot = (.full, c.settings.fullSlot, .all)) ∧
     (∀ n, c.counter < c.settings.cadence → c.turnChoice (some n) = (.partialTurn, some n, .changed)) ∧
     (c.counter < c.settings.cadence → c.turnChoice none = (.partialTurn, c.settings.partialSlot, .changed)) ∧
     nextCounter .all c.counter = 0 ∧ nextCounter .changed c.counter = min (c.counter + 1) 63 ∧
     (∀ v, c.stagingVictim = some v →
       v ∈ c.leaves ∧ v.mode = .ready ∧ v.useCount = 0 ∧
       (∀ a, c.anchor = some a → c.settings.guardDist < (if a ≤ v.number then v.number - a else a - v.number)) ∧
       ∀ l ∈ c.leaves, l.mode = .ready → l.useCount = 0 → c.guarded l.number = false →
         c.distance l.number < c.distance v.number ∨
           (c.distance l.number = c.distance v.number ∧ l.number ≤ v.number)) ∧
     (c.stagingVictim = none →
       ∀ l ∈ c.leaves, l.mode = .ready → l.useCount = 0 → c.guarded l.number = true) ∧
     (∀ n v, v ∈ c.fillVictims n ↔
       v ∈ c.leaves ∧ v.mode = .ready ∧ v.useCount = 0 ∧ c.distance n < c.distance v.number) ∧
     (∀ n, List.Pairwise (fun a b : Leaf => c.distance b.number < c.distance a.number ∨
       (c.distance b.number = c.distance a.number ∧ b.number ≤ a.number)) (c.fillVictims n)))

/-! ### Keys and the front light -/

/-- KEY_SETUP clamps its numbers and configures one input: enabling it, or changing its active level, makes its level UNKNOWN,
clears its marks and starts debounce from the raw level; disabling it stops its timers; otherwise only the settings change, and
the repeat timers stop where REPEAT is no longer in use. A number above 5 is BAD_PARAM (R116, R107).

A raw change starts or ends debounce in ACTIVE, DOZE and SETTLING, is only kept in WAKING and for a disabled input, and in
STANDBY moves the wake sense, waking the part towards DOZE at a watched key's wake level with the key latched (R106, R113,
R114, R177). -/
def Obligations.KeyInputsAreSetUpAndSensed : Prop :=
  (∀ (tag : Nat) (a : KeyArgs) (s : State), s.serves →
     (5 < a.key → exec (.keySetup tag (.fields a)) s =
       .next (s.answered (.keySetup tag (.fields a)) (plainReply 0x60 tag .badParam))) ∧
     (a.key ≤ 5 → ∃ (c : KeyConfig) (j : KeyInput),
       c = { a.config with
         debounce := max 1 (min a.config.debounce 255), hold := min a.config.hold 255
         period := max 5 (min a.config.period 255), lightStep := max 1 (min a.config.lightStep 20) } ∧
       ((s.key a.key).config.enabled = false → c.enabled = false → j = { s.key a.key with config := c }) ∧
       (c.enabled = true → (s.key a.key).config.enabled = false ∨ (s.key a.key).config.active ≠ c.active →
         j = { s.key a.key with
           config := c, debounced := .unknown, armed := false, held := false, holdTimer := none, repeatTimer := none
           debounce := some (c.debounce, (s.key a.key).raw) }) ∧
       ((s.key a.key).config.enabled = true → c.enabled = false →
         j = { s.key a.key with
           config := c, debounced := .unknown, armed := false, held := false, holdTimer := none, repeatTimer := none
           debounce := none }) ∧
       ((s.key a.key).config.enabled = true → c.enabled = true → (s.key a.key).config.active = c.active →
         j = (if c.mode = .level ∧ 0 < c.hold then { s.key a.key with config := c }
           else { s.key a.key with config := c, holdTimer := none, repeatTimer := none })) ∧
       exec (.keySetup tag (.fields a)) s = .next ({ s with
         keys := { s.keys with inputs := withRecord s.keys.inputs a.key (fun _ => j) } }.answered
           (.keySetup tag (.fields a)) (plainReply 0x60 tag .ok)))) ∧
  (∀ (k : Nat) (l : Level) (s : State), k < 6 →
     ((s.key k).raw = l → exec (.keyInputChange k l) s = .next s) ∧
     ((s.key k).raw ≠ l →
       ((s.key k).config.enabled = false ∨ s.power.mode = .waking →
         exec (.keyInputChange k l) s = .next { s with keys := { s.keys with
           inputs := withRecord s.keys.inputs k (fun i => { i with raw := l }) } }) ∧
       ((s.key k).config.enabled = true → servingMode s.power.mode = true →
         exec (.keyInputChange k l) s = .next { s with keys := { s.keys with
           inputs := withRecord s.keys.inputs k (fun i => { i with
             raw := l
             debounce := (if i.debounced = (if l = i.config.active then .active else .inactive) then none
               else some (i.config.debounce, l)) }) } }) ∧
       ((s.key k).config.enabled = true → s.power.mode = .standby →
         ((s.key k).sense = .none ∨ ((s.key k).sense = .wait ∧ l = wakeLevel (s.key k).config) ∨
             ((s.key k).sense = .watch ∧ l ≠ wakeLevel (s.key k).config) →
           exec (.keyInputChange k l) s = .next { s with keys := { s.keys with
             inputs := withRecord s.keys.inputs k (fun i => { i with raw := l }) } }) ∧
         ((s.key k).sense = .wait → l ≠ wakeLevel (s.key k).config →
           exec (.keyInputChange k l) s = .next { s with keys := { s.keys with
             inputs := withRecord s.keys.inputs k (fun i => { i with raw := l, sense := .watch }) } }) ∧
         ((s.key k).sense = .watch → l = wakeLevel (s.key k).config →
           ∃ t, exec (.keyInputChange k l) s = .next t ∧ t.power.mode = .waking ∧
             t.power.cause = some (if (s.key k).config.action = .cover then .cover k else .key k) ∧
             t.power.wakeEnd = some .doze ∧ t.power.linkDuringWake = false ∧
             t.keys.latch = some (k, s.keys.timestamp) ∧ (t.key k).raw = l ∧
             (∀ i ∈ t.keys.inputs.toList, i.sense = .none) ∧ t.link.queue = s.link.queue ∧
             t.radio.watching = false ∧ SameExcept [.pool, .budget, .keys, .radio, .power, .link] s t))))

/-- The end of a debounce run accepts the level: a key not yet armed arms at its inactive level and gives no event; an armed key
gives PRESS or RELEASE; the hold and repeat timers of a held key give REPEAT and start the repeat timer. Each event is activity for
the light, then gives the KEY report of the actions REPORT and COVER, then the notice to the power controller, and last the
action's turn or light request, as R110 to R112 say. A timer that does not run gives nothing (R106 to R112, R126, R129). -/
def Obligations.KeyTimersGiveKeyEvents : Prop :=
  ∀ (k : Nat) (s : State), k < 6 → s.coherent →
    ((s.key k).debounce = none → exec (.debounceExpire k) s = .next s) ∧
    (∀ n l, (s.key k).debounce = some (n, l) →
      ((s.key k).armed = false → l ≠ (s.key k).config.active →
        exec (.debounceExpire k) s = .next { s with keys := { s.keys with
          inputs := withRecord s.keys.inputs k (fun i => { i with
            debounce := none, debounced := .inactive, armed := true }) } }) ∧
      ((s.key k).armed = false → l = (s.key k).config.active →
        exec (.debounceExpire k) s = .next { s with keys := { s.keys with
          inputs := withRecord s.keys.inputs k (fun i => { i with debounce := none, debounced := .active }) } }) ∧
      ((s.key k).armed = true → ∃ u t, u = { s with keys := { s.keys with
          inputs := withRecord s.keys.inputs k (fun i => { i with debounce := none }) } } ∧
        exec (.debounceExpire k) s = .next t ∧
        KeyEventTaken k (if l = (s.key k).config.active then .press else .release) s.keys.timestamp u t)) ∧
    ((s.key k).holdTimer = none ∨ (s.key k).held = false → exec (.keyHoldExpire k) s = .next s) ∧
    ((s.key k).repeatTimer = none → exec (.keyRepeatExpire k) s = .next s) ∧
    ((s.key k).holdTimer.isSome = true → (s.key k).held = true →
      ∃ t, exec (.keyHoldExpire k) s = .next t ∧ KeyEventTaken k .again s.keys.timestamp s t) ∧
    ((s.key k).repeatTimer.isSome = true →
      ∃ t, exec (.keyRepeatExpire k) s = .next t ∧ KeyEventTaken k .again s.keys.timestamp s t) ∧
    (∀ l : LightState, l.activity.dimmed = false ∧ l.activity.dark = false ∧ l.activity.setLevel = l.setLevel ∧
      l.activity.warmth = l.warmth ∧ l.activity.dwell = (if 0 < l.dwellTime then some l.dwellTime else l.dwell) ∧
      (l.sound → l.activity.sound))

/-- The light's duties: the demand from the curve, the warm share of it rounded half up and the cool share the rest; within the
allowance the outputs are the demand, beyond it both are scaled down, rounded down, and the light is limited; the outputs never
draw more than the allowance at their ceilings. The effective target is the first case of R123 (R120 to R123). -/
def Obligations.DutiesStayWithinTheAllowance : Prop :=
  (∀ curve : List Nat, curveDemand curve 0 = 0 ∧ curveDemand curve 100 = curve.getD 20 0) ∧
  (∀ (curve : List Nat) (i r : Nat), i < 20 → r < 5 → 0 < 5 * i + r → curve.getD i 0 ≤ curve.getD (i + 1) 0 →
    curveDemand curve (5 * i + r) = curve.getD i 0 + (curve.getD (i + 1) 0 - curve.getD i 0) * r / 5) ∧
  (∀ d w : Nat, 100 * warmDuty d w ≤ d * w + 50 ∧ d * w + 50 < 100 * warmDuty d w + 100) ∧
  (∀ l : LightState,
    l.formDuties.warmDemand = warmDuty (curveDemand l.curve l.level) l.warmth ∧
    l.formDuties.coolDemand = curveDemand l.curve l.level - warmDuty (curveDemand l.curve l.level) l.warmth ∧
    (l.formDuties.warmDemand * l.warmCeiling + l.formDuties.coolDemand * l.coolCeiling ≤ l.allowance * 4095 →
      l.formDuties.warmOut = l.formDuties.warmDemand ∧ l.formDuties.coolOut = l.formDuties.coolDemand ∧
      l.formDuties.limited = false) ∧
    (l.allowance * 4095 < l.formDuties.warmDemand * l.warmCeiling + l.formDuties.coolDemand * l.coolCeiling →
      l.formDuties.limited = true ∧
      l.formDuties.warmOut = l.formDuties.warmDemand * (l.allowance * 4095) /
        (l.formDuties.warmDemand * l.warmCeiling + l.formDuties.coolDemand * l.coolCeiling) ∧
      l.formDuties.coolOut = l.formDuties.coolDemand * (l.allowance * 4095) /
        (l.formDuties.warmDemand * l.warmCeiling + l.formDuties.coolDemand * l.coolCeiling)) ∧
    l.formDuties.warmOut ≤ l.formDuties.warmDemand ∧ l.formDuties.coolOut ≤ l.formDuties.coolDemand ∧
    l.formDuties.withinAllowance ∧
    l.wanted = (if l.hold then 0 else if l.dark then 0 else if l.dimmed then min l.setLevel l.dim else l.setLevel))

/-- LIGHT_SET, LIGHT_CURVE and LIGHT_SETUP set their values, clamped where R130 and R132 clamp; the light's duties, target and ramp
are then those of R120 to R124, LIGHT_SET is activity, and a new floor is handed to
the budget unit, whose allowance it moves. A ramp step moves the level one
step to the target; the end of the dwell time dims the light (R126, R130 to R132, R124, R78). -/
def Obligations.LightCommandsSetTheLight : Prop :=
  ∀ (tag : Nat) (s : State), s.coherent →
    (∀ a : LightSetArgs, s.serves →
      ∃ t, exec (.lightSet tag (.fields a)) s = .next t ∧
        t.light.setLevel = givenOr s.light.setLevel (fun v => min v 100) a.level ∧
        t.light.warmth = givenOr s.light.warmth (fun v => min v 100) a.warmth ∧
        t.light.dimmed = false ∧ t.light.dark = false ∧ t.light.sound ∧
        (0 < s.light.dwellTime → t.power.mode ≠ .standby → t.light.dwell = some s.light.dwellTime) ∧
        t.link.queue = s.link.queue ++ [.reply (plainReply 0x71 tag .ok)] ∧ FrameOf [.light, .power, .link] s t) ∧
    (∀ ps : List Nat, s.serves →
      (ps.length ≠ 21 → exec (.lightCurve tag (.fields ps)) s =
        .next (s.answered (.lightCurve tag (.fields ps)) (plainReply 0x70 tag .badLength))) ∧
      (ps.length = 21 → (∃ v ∈ ps, 4095 < v) ∨ ¬ List.Pairwise (· ≤ ·) ps →
        exec (.lightCurve tag (.fields ps)) s =
          .next (s.answered (.lightCurve tag (.fields ps)) (plainReply 0x70 tag .badParam))) ∧
      (ps.length = 21 → (∀ v ∈ ps, v ≤ 4095) → List.Pairwise (· ≤ ·) ps →
        ∃ t, exec (.lightCurve tag (.fields ps)) s = .next t ∧ t.light.curve = ps ∧ t.light.sound ∧
          t.light.level = s.light.level ∧ t.light.target = s.light.target ∧
          t.link.queue = s.link.queue ++ [.reply (plainReply 0x70 tag .ok)] ∧ FrameOf [.light, .power, .link] s t)) ∧
    (∀ a : LightSetupArgs, s.serves →
      s.link.locked = false ∨ (a.warmCeiling = none ∧ a.coolCeiling = none ∧ a.floor = none) →
      ∃ t, exec (.lightSetup tag (.fields a)) s = .next t ∧
        t.light.rampInterval = min a.ramp 255 ∧ t.light.dim = min a.dim 100 ∧ t.light.dwellTime = min a.dwell 3600 ∧
        t.light.warmCeiling = givenOr s.light.warmCeiling (fun v => max 1 (min v 200)) a.warmCeiling ∧
        t.light.coolCeiling = givenOr s.light.coolCeiling (fun v => max 1 (min v 200)) a.coolCeiling ∧
        t.light.floor = givenOr s.light.floor (fun v => min v 255) a.floor ∧
        t.budget = { (if t.light.floor = s.light.floor then s.budget
          else { s.budget with floor := t.light.floor }.recompute) with power := t.power.mode } ∧
        t.light.allowance = t.budget.allowance ∧
        (t.light.floor ≠ s.light.floor → t.budget.allowance =
          max ((if s.budget.lowbat then s.budget.low else s.budget.normal) - s.budget.estimate) t.light.floor) ∧
        t.light.setLevel = s.light.setLevel ∧ t.light.warmth = s.light.warmth ∧ t.light.sound ∧
        (a.dwell = 0 → t.light.dwell = none ∧ t.light.dimmed = false) ∧
        t.link.queue = s.link.queue ++ [.reply (plainReply 0x72 tag .ok)] ∧
        FrameOf [.light, .budget, .power, .link] s t) ∧
    (s.light.ramp = none → exec .rampStep s = .next s) ∧
    (s.light.ramp.isSome = true →
      ∃ t, exec .rampStep s = .next t ∧ t.light.target = s.light.target ∧ t.light.sound ∧
        (0 < s.light.interval → t.light.level = stepToward s.light.level s.light.target) ∧
        (t.light.level ≠ t.light.target → t.light.ramp = some s.light.interval) ∧ FrameOf [.light, .power] s t) ∧
    (s.light.dwell = none → exec .dwellExpire s = .next s) ∧
    (s.light.dwell.isSome = true →
      ∃ t, exec .dwellExpire s = .next t ∧ t.light.dwell = none ∧ t.light.dimmed = true ∧
        t.light.setLevel = s.light.setLevel ∧ t.light.sound ∧ FrameOf [.light, .power] s t)

/-! ### The radio port -/

/-- A complete character joins the FIFO, or with 64 held is lost to overrun with a note; a noisy one is counted; a framing error and
a break leave a note, which merges into one already there; after a break no character is taken until the line has been high.
Nothing is received while the receiver is stopped, a break is held or the part sleeps. The fill-hold mark goes up at 48 and down
at 16 (R135 to R138, R144, R145). A bit is what two or three of its samples say; the mark bit and then eight data bits, least significant
first, follow the start bit, whose vote is not tested (log 56), and a character is noisy where the samples of any of the ten bits
disagree (R135). An error is reported with its mark clear also where its count is held at 65535 (log 55).

RADIO_SETUP by the old and new configuration: enabling starts the receiver with the assembler in HUNT, disabling stops it,
flushes the port and clears counts and marks, a new rate flushes it and goes on, and otherwise only the settings change; HOLD
follows (R146, R145, R138). HOLD_ON is 0 after disabling, though HOLD is asserted in that event (log 20); where the receiver then
stands is the model's reading (log 26). -/
def Obligations.LineEventsFillTheFifo : Prop :=
  ((∀ s : State, s.radio.receiver = .stopped ∨ s.radio.breakHeld = true ∨ servingMode s.power.mode = false →
     (∀ start mark data, exec (.radioCharacter start mark data) s = .next s) ∧ exec .radioLineReturn s = .next s ∧
       exec .radioBreak s = .next s) ∧
   (∀ s : State, s.radio.receiver ≠ .stopped → s.radio.breakHeld = false → servingMode s.power.mode = true →
     (∀ start mark data, ∃ (t : State) (m : Bool) (d : Byte), exec (.radioCharacter start mark data) s = .next t ∧
       t.radio.receiver = .ready ∧ m = votedBit mark ∧ (∀ i, (h : i < 8) → d.getLsbD i = votedBit data[i]) ∧
       ((∃ b ∈ start :: mark :: data.toList, b.first ≠ b.second ∨ b.second ≠ b.third) →
         t.radio.counts.noise = bumpCount s.radio.counts.noise) ∧
       ((∀ b ∈ start :: mark :: data.toList, b.first = b.second ∧ b.second = b.third) →
         t.radio.counts.noise = s.radio.counts.noise) ∧
       (fifoFill s.radio.fifo < 64 →
         t.radio.fifo = s.radio.fifo ++ [.char m d] ∧ t.radio.counts.overrun = s.radio.counts.overrun ∧
         (48 ≤ fifoFill s.radio.fifo + 1 → t.radio.fillHold = true) ∧
         (fifoFill s.radio.fifo + 1 ≤ 16 → t.radio.fillHold = false) ∧
         (16 < fifoFill s.radio.fifo + 1 → fifoFill s.radio.fifo + 1 < 48 → t.radio.fillHold = s.radio.fillHold)) ∧
       (64 ≤ fifoFill s.radio.fifo →
         t.radio.fifo = addNote .overrun s.radio.fifo ∧ t.radio.counts.overrun = bumpCount s.radio.counts.overrun) ∧
       SameExcept [.radio, .power, .link] s t) ∧
     (∃ t, exec .radioLineReturn s = .next t ∧ t.radio.receiver = .ready ∧ t.radio.fifo = addNote .framing s.radio.fifo ∧
       t.radio.counts.framing = bumpCount s.radio.counts.framing ∧ SameExcept [.radio, .power, .link] s t) ∧
     (∃ t, exec .radioBreak s = .next t ∧ t.radio.receiver = .seekHigh ∧ t.radio.breakHeld = true ∧
       t.radio.fifo = addNote .brk s.radio.fifo ∧ t.radio.counts.brk = bumpCount s.radio.counts.brk ∧
       t.radio.counts.framing = s.radio.counts.framing ∧ SameExcept [.radio] s t)) ∧
   (∀ b : BitSamples, votedBit b = true ↔ 2 ≤ [b.first, b.second, b.third].count true) ∧
   (∀ s : State, (s.radio.breakHeld = false → exec .breakEnd s = .next s) ∧
     (s.radio.breakHeld = true → exec .breakEnd s = .next { s with radio := { s.radio with
       breakHeld := false, receiver := if s.radio.receiver = .stopped then .stopped else .ready } })) ∧
   (∀ (c : NoteCause) (q : List FifoEntry),
     ((∃ d, q.getLast? = some (.note d)) → addNote c q = q) ∧
     ((∀ d, q.getLast? ≠ some (.note d)) → addNote c q = q ++ [.note c])) ∧
   (∀ (c : CountKind) (k : RadioErrorKind) (s : State),
     (k ∈ s.radio.marks → radioError c k s = countRadio c s) ∧
     (k ∉ s.radio.marks → radioError c k s =
       raise (.radioError k) { countRadio c s with radio := { (countRadio c s).radio with marks := s.radio.marks ++ [k] } }))) ∧
  (∀ (tag : Nat) (a : RadioArgs) (s : State), s.serves → s.coherent →
     ∃ t, exec (.radioSetup tag (.fields a)) s = .next t ∧
       t.radio.enabled = a.enabled ∧ t.radio.rate = a.rate ∧ t.radio.gapTime = max 1 (min a.gap 255) ∧
       t.radio.wake = a.wake ∧ t.radio.hold = t.radio.holdConditions.any id ∧
       (s.radio.enabled = false → a.enabled = true →
         t.radio.receiver = .seekHigh ∧ t.radio.asm = .hunt ∧ t.radio.frame = none) ∧
       (s.radio.enabled = true → a.enabled = false →
         t.radio.receiver = .stopped ∧ t.radio.fifo = [] ∧ t.radio.asm = .hunt ∧ t.radio.frame = none ∧ t.radio.gap = none ∧
           t.radio.waiting = false ∧ t.radio.counts = {} ∧ t.radio.marks = [] ∧ t.radio.hold = true) ∧
       (s.radio.enabled = true → a.enabled = true → s.radio.rate ≠ a.rate →
         t.radio.receiver = .seekHigh ∧ t.radio.fifo = [] ∧ t.radio.asm = .hunt ∧ t.radio.frame = none ∧
           t.radio.waiting = false ∧ t.radio.counts.framing = s.radio.counts.framing ∧ t.radio.marks = s.radio.marks) ∧
       (s.radio.enabled = a.enabled → (a.enabled = false ∨ s.radio.rate = a.rate) →
         t.radio = { s.radio with
           enabled := a.enabled, rate := a.rate, gapTime := max 1 (min a.gap 255), wake := a.wake }) ∧
       t.link.queue = s.link.queue ++ [.reply (plainReply 0x80 tag .ok)] ∧ SameExcept [.radio, .power, .link] s t)

/-- FIFO_TAKE gives the assembler the head of the FIFO unless a handover waits: a note breaks a frame in assembly; a marked
character of a known type begins a frame, ending one in assembly as TRUNCATED, and of an unknown type counts HEADER; unmarked
characters gather into header, payload and CRC, each restarting the gap timer; a length the type does not have counts HEADER and
a wrong CRC counts CRC. The gap timer's end discards the frame under GAP (R137, R139 to R142, R194). -/
def Obligations.AssemblerTakesTheFifoHead : Prop :=
  ∀ s : State,
    (s.radio.waiting = true ∨ s.radio.fifo = [] → exec .fifoTake s = .next s) ∧
    (s.radio.gap = none → exec .gapTimerExpire s = .next s) ∧
    (s.radio.gap.isSome = true → ∃ t, exec .gapTimerExpire s = .next t ∧ t.radio.asm = .hunt ∧ t.radio.frame = none ∧
      t.radio.gap = none ∧ t.radio.counts.gap = bumpCount s.radio.counts.gap ∧ t.radio.fifo = s.radio.fifo ∧
      SameExcept [.radio, .power, .link] s t) ∧
    (∀ c rest, s.radio.waiting = false → s.radio.fifo = .note c :: rest →
      ∃ t, exec .fifoTake s = .next t ∧ t.radio.fifo = rest ∧ t.radio.asm = .hunt ∧
        t.radio.counts.broken = (if s.radio.asm = .hunt then s.radio.counts.broken else bumpCount s.radio.counts.broken) ∧
        SameExcept [.radio] s t) ∧
    (∀ m d rest, s.radio.waiting = false → s.radio.fifo = .char m d :: rest → s.radio.frame = none →
      ∃ t, exec .fifoTake s = .next t ∧ t.radio.fifo = rest ∧ SameExcept [.radio, .power, .link] s t ∧
        (m = false → t.radio.frame = none ∧ t.radio.counts.header = s.radio.counts.header) ∧
        (m = true → d = 0x5A#8 → t.radio.asm = .header ∧ t.radio.frame = some ⟨.data, [], [], crc16Start, []⟩ ∧
          t.radio.gap = some s.radio.gapTime) ∧
        (m = true → d = 0x4B#8 → t.radio.asm = .header ∧ t.radio.frame = some ⟨.keep, [], [], crc16Start, []⟩ ∧
          t.radio.gap = some s.radio.gapTime) ∧
        (m = true → d ≠ 0x5A#8 → d ≠ 0x4B#8 → t.radio.frame = none ∧
          t.radio.counts.header = bumpCount s.radio.counts.header)) ∧
    (∀ a d rest, s.radio.waiting = false → s.radio.fifo = .char true d :: rest → s.radio.frame = some a →
      ∃ t, exec .fifoTake s = .next t ∧ t.radio.fifo = rest ∧
        t.radio.counts.truncated = bumpCount s.radio.counts.truncated ∧
        (d = 0x5A#8 → t.radio.asm = .header ∧ t.radio.frame = some ⟨.data, [], [], crc16Start, []⟩) ∧
        (d ≠ 0x5A#8 → d ≠ 0x4B#8 → t.radio.asm = .hunt ∧ t.radio.frame = none) ∧
        SameExcept [.radio, .power, .link] s t) ∧
    (∀ a d rest, s.radio.waiting = false → s.radio.fifo = .char false d :: rest → s.radio.frame = some a →
      (s.radio.asm = .header → a.header.length < 3 → ∃ t, exec .fifoTake s = .next t ∧ t.radio.asm = .header ∧
        t.radio.frame = some { a with header := a.header ++ [d], crc := crc16Byte a.crc d } ∧
        t.radio.gap = some s.radio.gapTime ∧ SameExcept [.radio] s t) ∧
      (s.radio.asm = .header → a.header.length = 3 →
        ((a.kind = .data ∧ 1 ≤ d.toNat ∧ d.toNat ≤ 240) ∨ (a.kind = .keep ∧ d.toNat = 0) →
          ∃ t, exec .fifoTake s = .next t ∧ t.radio.asm = (if a.kind = .data then .payload else .check) ∧
            t.radio.frame = some { a with header := a.header ++ [d], crc := crc16Byte a.crc d } ∧
            t.radio.gap = some s.radio.gapTime ∧ SameExcept [.radio] s t) ∧
        ((a.kind = .data ∧ (d.toNat = 0 ∨ 240 < d.toNat)) ∨ (a.kind = .keep ∧ d.toNat ≠ 0) →
          ∃ t, exec .fifoTake s = .next t ∧ t.radio.asm = .hunt ∧ t.radio.frame = none ∧ t.radio.gap = none ∧
            t.radio.counts.header = bumpCount s.radio.counts.header ∧ SameExcept [.radio, .power, .link] s t)) ∧
      (s.radio.asm = .payload → ∃ t, exec .fifoTake s = .next t ∧
        t.radio.asm = (if (a.header.getD 3 0).toNat ≤ a.payload.length + 1 then .check else .payload) ∧
        t.radio.frame = some { a with payload := a.payload ++ [d], crc := crc16Byte a.crc d } ∧
        t.radio.gap = some s.radio.gapTime ∧ SameExcept [.radio] s t) ∧
      (s.radio.asm = .check → a.check = [] → ∃ t, exec .fifoTake s = .next t ∧ t.radio.asm = .check ∧
        t.radio.frame = some { a with check := [d] } ∧ t.radio.gap = some s.radio.gapTime ∧ SameExcept [.radio] s t) ∧
      (∀ x, s.radio.asm = .check → a.check = [x] → x.toNat * 256 + d.toNat ≠ a.crc.toNat →
        ∃ t, exec .fifoTake s = .next t ∧ t.radio.asm = .hunt ∧ t.radio.frame = none ∧ t.radio.gap = none ∧
          t.radio.counts.crc = bumpCount s.radio.counts.crc ∧ SameExcept [.radio, .power, .link] s t) ∧
      (∀ x, s.radio.asm = .check → a.check = [x] → x.toNat * 256 + d.toNat = a.crc.toNat → s.radio.released = true →
        ∃ t, exec .fifoTake s = .next t ∧ t.radio.asm = .check ∧ t.radio.waiting = true ∧ t.radio.gap = none ∧
          SameExcept [.radio] s t) ∧
      (∀ x, s.radio.asm = .check → a.check = [x] → x.toNat * 256 + d.toNat = a.crc.toNat → s.radio.released = false →
        s.stream.find (a.header.getD 0 0).toNat = none →
        ∃ t, exec .fifoTake s = .next t ∧ t.radio.asm = .hunt ∧ t.radio.waiting = false ∧ t.radio.frame = none ∧
          t.radio.counts.orphan = bumpCount s.radio.counts.orphan ∧ t.stream = s.stream))

/-! ### Streams -/

/-- STREAM_OPEN: BAD_PARAM for a faulty field, BUSY for an id in use, NO_SPACE with no CLOSED record, and otherwise OK: the
lowest-numbered CLOSED record is opened with the settings clamped and its descriptors added one after another, and every other
CLOSED record of the id loses it (R151, R152).

A descriptor that joins a stream's queue resolves its inheritance: a count or pattern left out is the inherited one, a given one is
inherited by the next, no pattern bytes are the pattern NONE, and missing mask bytes are 0xFF. It takes the next ordinal and joins
ACTIVE, its CRC at the start and its matcher at offset 0, where no older descriptor is WAITING or ACTIVE, and WAITING behind an
ACTIVE one; nothing else of the record changes (R151, R159, R160).

SEGMENT_ADD, STREAM_PAUSE, STREAM_RESUME and STREAM_CLOSE on the stream of an id: BAD_PARAM out of range or for a faulty descriptor,
NO_SUCH without a stream, STATE where its state does not allow the command, QUEUE_FULL past eight descriptors; otherwise OK, with descriptors
added, the pause made HOST, the state before pause restored, or the record CLOSED, its blocks released and a write in flight ended,
whose frame is then answered (R153, R162, R165, R150, R158). A missing count is found only once the stream is (log 7); the
other fields of a CLOSED record are those of the empty record (log 31); STREAM_CLOSE's reply stands behind the reports of a waiting
frame that its answer hands over (log 38). -/
def Obligations.StreamCommandsActOnTheirStream : Prop :=
  (∀ (tag : Nat) (a : StreamOpenArgs) (s : State), s.serves → s.coherent →
     (a.id = 0 ∨ 254 < a.id ∨ 65535 < a.sequence ∨ 8 < a.segments.length ∨ (∃ d ∈ a.segments, d.count = some 0) ∨
         (∃ d rest, a.segments = d :: rest ∧ d.count = none) ∨
         (∃ d ∈ a.segments, ∃ p, d.pattern = some p ∧
           (8 < p.bytes.length ∨ p.bytes.length < p.mask.length ∨ (p.bytes ≠ [] ∧ p.mask = []))) →
       exec (.streamOpen tag (.fields a)) s =
         .next (s.answered (.streamOpen tag (.fields a)) (plainReply 0x90 tag .badParam))) ∧
     (openGood a = true →
       (∀ n, s.stream.find a.id = some n →
         exec (.streamOpen tag (.fields a)) s =
           .next (s.answered (.streamOpen tag (.fields a)) (plainReply 0x90 tag .busy))) ∧
       (s.stream.find a.id = none → (∀ n, n < 4 → (s.record n).mode ≠ .closed) →
         exec (.streamOpen tag (.fields a)) s =
           .next (s.answered (.streamOpen tag (.fields a)) (plainReply 0x90 tag .noSpace))) ∧
       (∀ n, s.stream.find a.id = none → n < 4 → (s.record n).mode = .closed → (∀ k, k < n → (s.record k).mode ≠ .closed) →
         ∃ t, exec (.streamOpen tag (.fields a)) s = .next t ∧
           t.record n = a.segments.foldl StreamRecord.addDescriptor
             { id := some a.id, mode := .opened, expected := a.sequence, limit := max 1 (min a.limit 1024)
               threshold := min a.threshold 1024, thresholdArmed := true, stallTime := max 1 (min a.stall 60) } ∧
           (t.record n).blocks = [] ∧ (t.record n).counters = {} ∧ (t.record n).flight = none ∧
           (t.record n).nextOrdinal = a.segments.length + 1 ∧
           (t.record n).segments.map Segment.ordinal = List.range' 1 a.segments.length ∧
           (∀ g rest, (t.record n).segments = g :: rest → g.state = .active ∧ ∀ x ∈ rest, x.state = .waiting) ∧
           (∀ k, k < 4 → k ≠ n → (s.record k).mode = .closed → (s.record k).id = some a.id →
             (t.record k).id = none ∧ (t.record k).closing = none) ∧
           (∀ k, k < 4 → k ≠ n → (s.record k).mode ≠ .closed ∨ (s.record k).id ≠ some a.id → t.record k = s.record k) ∧
           t.link.queue = s.link.queue ++ [.reply (plainReply 0x90 tag .ok)] ∧
           FrameOf [.radio, .stream, .power, .link] s t))) ∧
  (∀ (r : StreamRecord) (d : DescriptorArgs), ∃ (g : Segment) (segments : List Segment),
     g = ⟨r.nextOrdinal, (match d.count with | some c => c | none => r.inheritedCount.getD 0), d.crc,
       (match d.pattern with
         | none => r.inheritedPattern
         | some p => if p.bytes = [] then none
           else some ⟨p.bytes, p.mask ++ List.replicate (p.bytes.length - p.mask.length) 0xFF⟩),
       d.action, .waiting, 0, 0, crc32Start, [], 0⟩ ∧
     r.addDescriptor d = { r with
       segments := segments, nextOrdinal := r.nextOrdinal + 1
       inheritedCount := some g.count, inheritedPattern := g.pattern } ∧
     ((∃ x ∈ r.segments, x.state = .active) → segments = r.segments ++ [g]) ∧
     ((∀ x ∈ r.segments, x.state ≠ .active ∧ x.state ≠ .waiting) → segments = r.segments ++ [{ g with state := .active }])) ∧
  (∀ (tag id : Nat) (s : State), s.serves → s.coherent →
     (id = 0 ∨ 254 < id →
       (∀ ds, exec (.segmentAdd tag (.fields ⟨id, ds⟩)) s =
         .next (s.answered (.segmentAdd tag (.fields ⟨id, ds⟩)) (plainReply 0x91 tag .badParam))) ∧
       exec (.streamPause tag (.fields id)) s =
         .next (s.answered (.streamPause tag (.fields id)) (plainReply 0x92 tag .badParam)) ∧
       (∀ q, exec (.streamResume tag (.fields ⟨id, q⟩)) s =
         .next (s.answered (.streamResume tag (.fields ⟨id, q⟩)) (plainReply 0x93 tag .badParam))) ∧
       exec (.streamClose tag (.fields id)) s =
         .next (s.answered (.streamClose tag (.fields id)) (plainReply 0x94 tag .badParam))) ∧
     (∀ ds, ds = [] ∨ 8 < ds.length ∨ (∃ d ∈ ds, d.count = some 0) ∨
         (∃ d ∈ ds, ∃ p, d.pattern = some p ∧
           (8 < p.bytes.length ∨ p.bytes.length < p.mask.length ∨ (p.bytes ≠ [] ∧ p.mask = []))) →
       exec (.segmentAdd tag (.fields ⟨id, ds⟩)) s =
         .next (s.answered (.segmentAdd tag (.fields ⟨id, ds⟩)) (plainReply 0x91 tag .badParam))) ∧
     (1 ≤ id → id ≤ 254 → s.stream.find id = none →
       (∀ ds, addGood ⟨id, ds⟩ = true →
         exec (.segmentAdd tag (.fields ⟨id, ds⟩)) s =
           .next (s.answered (.segmentAdd tag (.fields ⟨id, ds⟩)) (plainReply 0x91 tag .noSuch))) ∧
       exec (.streamPause tag (.fields id)) s =
         .next (s.answered (.streamPause tag (.fields id)) (plainReply 0x92 tag .noSuch)) ∧
       (∀ q, (∀ v, q = some v → v ≤ 65535) → exec (.streamResume tag (.fields ⟨id, q⟩)) s =
         .next (s.answered (.streamResume tag (.fields ⟨id, q⟩)) (plainReply 0x93 tag .noSuch))) ∧
       exec (.streamClose tag (.fields id)) s =
         .next (s.answered (.streamClose tag (.fields id)) (plainReply 0x94 tag .noSuch))) ∧
     (∀ n, 1 ≤ id → id ≤ 254 → s.stream.find id = some n →
       (∀ ds, countMissing (s.record n).inheritedCount ds = true →
         exec (.segmentAdd tag (.fields ⟨id, ds⟩)) s =
           .next (s.answered (.segmentAdd tag (.fields ⟨id, ds⟩)) (plainReply 0x91 tag .badParam))) ∧
       (∀ ds, addGood ⟨id, ds⟩ = true → countMissing (s.record n).inheritedCount ds = false →
         ((s.record n).mode = .ended ∨ (s.record n).mode = .failed →
           exec (.segmentAdd tag (.fields ⟨id, ds⟩)) s =
             .next (s.answered (.segmentAdd tag (.fields ⟨id, ds⟩)) (plainReply 0x91 tag .state))) ∧
         ((s.record n).mode ≠ .ended → (s.record n).mode ≠ .failed → 8 < (s.record n).segments.length + ds.length →
           exec (.segmentAdd tag (.fields ⟨id, ds⟩)) s =
             .next (s.answered (.segmentAdd tag (.fields ⟨id, ds⟩)) (plainReply 0x91 tag .queueFull))) ∧
         ((s.record n).mode ≠ .ended → (s.record n).mode ≠ .failed → (s.record n).segments.length + ds.length ≤ 8 →
           exec (.segmentAdd tag (.fields ⟨id, ds⟩)) s = .next ({ s with stream := { s.stream with
             records := withRecord s.stream.records n (fun r => ds.foldl StreamRecord.addDescriptor r) } }.answered
               (.segmentAdd tag (.fields ⟨id, ds⟩)) (plainReply 0x91 tag .ok)))) ∧
       ((s.record n).mode = .opened ∨ (s.record n).mode = .running →
         ∃ t, exec (.streamPause tag (.fields id)) s = .next t ∧
           t.record n = { s.record n with
             mode := .paused, pause := some .host, beforePause := some (s.record n).mode, stall := none } ∧
           (s.power.mode ≠ .settling → ∀ k, k ≠ n → t.record k = s.record k) ∧
           t.link.queue = s.link.queue ++ [.reply (plainReply 0x92 tag .ok)] ∧
           FrameOf [.radio, .stream, .power, .link] s t) ∧
       ((s.record n).mode = .opened ∨ (s.record n).mode = .running →
         exec (.streamResume tag (.fields ⟨id, none⟩)) s =
           .next (s.answered (.streamResume tag (.fields ⟨id, none⟩)) (plainReply 0x93 tag .state)) ∧
         ∀ v, v ≤ 65535 → ∃ t, exec (.streamResume tag (.fields ⟨id, some v⟩)) s = .next t ∧
           t.record n = { s.record n with expected := v } ∧ (∀ k, k ≠ n → t.record k = s.record k) ∧
           t.link.queue = s.link.queue ++ [.reply (plainReply 0x93 tag .ok)]) ∧
       ((s.record n).mode = .ended ∨ (s.record n).mode = .failed ∨
           ((s.record n).mode = .paused ∧ (s.record n).pause = some .sleep) →
         exec (.streamPause tag (.fields id)) s =
           .next (s.answered (.streamPause tag (.fields id)) (plainReply 0x92 tag .state)) ∧
         ∀ q, (∀ v, q = some v → v ≤ 65535) → exec (.streamResume tag (.fields ⟨id, q⟩)) s =
           .next (s.answered (.streamResume tag (.fields ⟨id, q⟩)) (plainReply 0x93 tag .state))) ∧
       (∀ q, 65535 < q → exec (.streamResume tag (.fields ⟨id, some q⟩)) s =
         .next (s.answered (.streamResume tag (.fields ⟨id, some q⟩)) (plainReply 0x93 tag .badParam))) ∧
       ((s.record n).mode = .paused → (s.record n).pause ≠ some .sleep →
         (∃ t, exec (.streamPause tag (.fields id)) s = .next t ∧
           t.record n = { s.record n with pause := some .host } ∧ (∀ k, k ≠ n → t.record k = s.record k) ∧
           t.link.queue = s.link.queue ++ [.reply (plainReply 0x92 tag .ok)]) ∧
         ∀ q, (∀ v, q = some v → v ≤ 65535) →
           ∃ t, exec (.streamResume tag (.fields ⟨id, q⟩)) s = .next t ∧
             t.record n = { s.record n with
               mode := (s.record n).beforePause.getD .opened, pause := none, beforePause := none
               expected := q.getD (s.record n).expected
               stall := if (s.record n).beforePause.getD .opened = .running then some (s.record n).stallTime else none } ∧
             (∀ k, k ≠ n → t.record k = s.record k) ∧
             t.link.queue = s.link.queue ++ [.reply (plainReply 0x93 tag .ok)]) ∧
       (∃ t, exec (.streamClose tag (.fields id)) s = .next t ∧
         t.record n = { id := (s.record n).id, closing := some .host } ∧
         (∃ reports, t.link.queue = s.link.queue ++ reports ++ [.reply (plainReply 0x94 tag .ok)]) ∧
         SameBytesExcept (fun _ => False) s t ∧
         (∀ c, s.link.transaction = .readDrain c → c.record = some n →
           t.link.transaction = .readDrain { c with record := none }) ∧
         ((s.record n).flight.isSome = true → s.radio.released = false →
           t.radio.asm = .hunt ∧ t.radio.frame = none ∧ t.radio.waiting = false ∧ t.radio.gap = none) ∧
         ((s.record n).flight.isSome = true → s.radio.released = true → s.radio.waiting = false →
           t.radio.released = false ∧
             (s.power.mode ≠ .settling → t.radio.asm = s.radio.asm ∧ t.radio.frame = s.radio.frame)) ∧
         ((s.record n).flight.isSome = true → s.radio.released = false ∨ s.radio.waiting = false →
           t.radio.counts.frames = bumpCount s.radio.counts.frames) ∧
         ((s.record n).flight = none ∨ s.radio.released = false ∨ s.radio.waiting = false →
           (s.power.mode ≠ .settling → ∀ k, k ≠ n → t.record k = s.record k) ∧
           t.pool.table = (s.pool.release (s.record n).blocks).table ∧
           t.pool.freeCount = (s.pool.release (s.record n).blocks).freeCount ∧
           FrameOf [.pool, .radio, .stream, .power, .link] s t ∧
           t.link.queue = s.link.queue ++ [.reply (plainReply 0x94 tag .ok)]))))

/-- A handed-over frame is decided in the order of R154: an orphan under the sleep hold, without a stream, or for one that is ENDED,
FAILED or paused HOST or SLEEP; a KEEP frame restarts a RUNNING stream's stall timer; a DATA frame by its distance from the
expected sequence is a gap, a duplicate or expected; an expected one that no segment has room for starves the stream, or
fails it where a HALT segment limits the room, and one that the staging limit or the pool leaves no block for pauses it FULL. A pause
that is new gives STREAM_GAP, STREAM_STARVED or STREAM_FULL, one already of that cause no report, and the failure
STREAM_FAILED(OVERRUN). Any other frame is accepted, into a new block where the last has no room (R150, R154 to R158, R10, R163); the
threshold is tested before its bytes are counted (log 18).

FIFO_TAKE of the last character of a good frame hands the frame over, waiting: the stream engine decides it, and an answer TAKEN or
ORPHAN given at once raises its count and sets the assembler to HUNT; without an answer the frame goes on waiting (R143, R154). -/
def Obligations.FramesAreDecidedByTheirStream : Prop :=
  (∀ (f : Frame) (s : State),
     (s.stream.sleepHold = true ∨ s.stream.find f.id = none → decideFrame f s = (some .orphan, s)) ∧
     (∀ n, s.stream.sleepHold = false → s.stream.find f.id = some n →
       ((s.record n).mode = .ended ∨ (s.record n).mode = .failed ∨
           ((s.record n).mode = .paused ∧ ((s.record n).pause = some .host ∨ (s.record n).pause = some .sleep)) →
         decideFrame f s = (some .orphan, s)) ∧
       ((s.record n).mode = .opened ∨ (s.record n).mode = .running ∨
           ((s.record n).mode = .paused ∧ (s.record n).pause ≠ some .host ∧ (s.record n).pause ≠ some .sleep) →
         (f.kind = .keep → decideFrame f s = (some .taken, if (s.record n).mode = .running
           then { s with stream := { s.stream with
             records := withRecord s.stream.records n (fun r => { r with stall := some r.stallTime }) } }
           else s)) ∧
         (f.kind = .data → 32768 ≤ (f.sequence + 65536 - (s.record n).expected) % 65536 →
           decideFrame f s = (some .taken, { s with stream := { s.stream with
             records := withRecord s.stream.records n (fun r => { r with
               counters := { r.counters with duplicates := r.counters.duplicates + 1 } }) } })) ∧
         (f.kind = .data → 1 ≤ (f.sequence + 65536 - (s.record n).expected) % 65536 →
           (f.sequence + 65536 - (s.record n).expected) % 65536 ≤ 32767 →
           (decideFrame f s).1 = some .taken ∧
           ((decideFrame f s).2.record n).mode = .paused ∧ ((decideFrame f s).2.record n).pause = some .gap ∧
           ((decideFrame f s).2.record n).counters.gaps = (s.record n).counters.gaps + 1 ∧
           ((decideFrame f s).2.record n).expected = (s.record n).expected ∧
           ((s.record n).mode ≠ .paused ∨ (s.record n).pause ≠ some .gap → s.power.mode ≠ .standby →
             s.link.roomForReport = true →
             (decideFrame f s).2.link.queue = s.link.queue ++ [.report (.streamGap f.id (s.record n).expected f.sequence)]) ∧
           ((s.record n).mode = .paused → (s.record n).pause = some .gap →
             (decideFrame f s).2.link.queue = s.link.queue)) ∧
         (f.kind = .data → (f.sequence + 65536 - (s.record n).expected) % 65536 = 0 →
           ((s.record n).room.1 < f.payload.length → (s.record n).room.2 = false →
             (decideFrame f s).1 = some .taken ∧ ((decideFrame f s).2.record n).mode = .paused ∧
             ((decideFrame f s).2.record n).pause = some .starved ∧
             ((decideFrame f s).2.record n).expected = (s.record n).expected ∧
             ((s.record n).mode ≠ .paused ∨ (s.record n).pause ≠ some .starved → s.power.mode ≠ .standby →
               s.link.roomForReport = true → (decideFrame f s).2.link.queue = s.link.queue ++ [.report (.streamStarved f.id f.payload.length (s.record n).room.1)]) ∧
             ((s.record n).mode = .paused → (s.record n).pause = some .starved →
               (decideFrame f s).2.link.queue = s.link.queue)) ∧
           ((s.record n).room.1 < f.payload.length → (s.record n).room.2 = true →
             (decideFrame f s).1 = some .taken ∧ ((decideFrame f s).2.record n).mode = .failed ∧
             ((decideFrame f s).2.record n).fail = some .overrun ∧ ((decideFrame f s).2.record n).stall = none ∧
             (s.power.mode ≠ .standby → s.link.roomForReport = true →
               (decideFrame f s).2.link.queue = s.link.queue ++ [.report (.streamFailed f.id .overrun)])) ∧
           (f.payload.length ≤ (s.record n).room.1 → (s.record n).limit ≤ (s.record n).blocks.length →
             (s.record n).blocks = [] ∨ 4096 < (s.record n).tail + f.payload.length →
             (decideFrame f s).1 = some .taken ∧ ((decideFrame f s).2.record n).mode = .paused ∧
             ((decideFrame f s).2.record n).pause = some .full ∧
             ((decideFrame f s).2.record n).expected = (s.record n).expected ∧
             ((s.record n).mode ≠ .paused ∨ (s.record n).pause ≠ some .full → s.power.mode ≠ .standby →
               s.link.roomForReport = true → (decideFrame f s).2.link.queue = s.link.queue ++ [.report (.streamFull f.id .limit)]) ∧
             ((s.record n).mode = .paused → (s.record n).pause = some .full →
               (decideFrame f s).2.link.queue = s.link.queue)) ∧
           (f.payload.length ≤ (s.record n).room.1 → (s.record n).blocks ≠ [] →
             (s.record n).tail + f.payload.length ≤ 4096 →
             decideFrame f s = (none, acceptFrame n false f.payload s)) ∧
           (∀ u, f.payload.length ≤ (s.record n).room.1 → (s.record n).blocks.length < (s.record n).limit →
             (s.record n).blocks = [] ∨ 4096 < (s.record n).tail + f.payload.length →
             (allocateStaging n s = (none, u) →
               (decideFrame f s).1 = some .taken ∧ ((decideFrame f s).2.record n).mode = .paused ∧
               ((decideFrame f s).2.record n).pause = some .full ∧
               ((decideFrame f s).2.record n).expected = (s.record n).expected ∧
               (decideFrame f s).2.pool.table = u.pool.table ∧
               ((s.record n).mode ≠ .paused ∨ (s.record n).pause ≠ some .full → u.power.mode ≠ .standby →
                 u.link.roomForReport = true →
                 (decideFrame f s).2.link.queue = u.link.queue ++ [.report (.streamFull f.id .pool)]) ∧
               ((s.record n).mode = .paused → (s.record n).pause = some .full →
                 (decideFrame f s).2.link.queue = u.link.queue)) ∧
             (∀ b, allocateStaging n s = (some b, u) →
               decideFrame f s = (none, acceptFrame n true f.payload (thresholdRise n (handSignals { u with
                 stream := { u.stream with records := withRecord u.stream.records n (fun r => { r with
                   blocks := r.blocks ++ [b] }) } }))))))))) ∧
  (∀ (s : State) (a : Assembly) (x d : Byte) (rest : List FifoEntry),
     s.radio.waiting = false → s.radio.released = false → s.radio.fifo = .char false d :: rest → s.radio.frame = some a →
     s.radio.asm = .check → a.check = [x] → x.toNat * 256 + d.toNat = a.crc.toNat →
     ∃ v w : State, v = { s with radio := { s.radio.setFifo rest with
         frame := some { a with check := [x, d] }, waiting := true, gap := none } } ∧
       w = (decideFrame ⟨a.kind, (a.header.getD 0 0).toNat,
         (a.header.getD 1 0).toNat * 256 + (a.header.getD 2 0).toNat, a.payload⟩ v).2 ∧
       exec .fifoTake s = .next (match (decideFrame ⟨a.kind, (a.header.getD 0 0).toNat,
           (a.header.getD 1 0).toNat * 256 + (a.header.getD 2 0).toNat, a.payload⟩ v).1 with
         | none => w
         | some .taken => { w with radio := { w.radio with
             asm := .hunt, frame := none, gap := none, waiting := false
             counts := { w.radio.counts with frames := bumpCount w.radio.counts.frames } } }
         | some .orphan => { w with radio := { w.radio with
             asm := .hunt, frame := none, gap := none, waiting := false
             counts := { w.radio.counts with orphan := bumpCount w.radio.counts.orphan } } }))

/-- Bytes accepted into a segment that they do not end raise its count of bytes and its running CRC-32, byte by byte; the frame
counts as accepted, the expected sequence rises by one, the tail moves on, the bytes become the write in flight, and the stream is
RUNNING with its stall timer started (R158, R159).

A byte that brings the ACTIVE segment to its count ends it: the CRC is finished and compared with a given one; a failure is
SEGMENT_BAD and fails the segment, otherwise it is DONE, with SEGMENT_DONE unless it chains, and the oldest WAITING segment becomes
ACTIVE unless it halts. An accepted frame's segment reports are followed by STREAM_FAILED where a segment failed (pause and stall
timer end, cause CRC), else by STREAM_ENDED where a HALT segment ended; their order is log 17, and that one frame gives one of
them log 46 (R158, R159).

A byte completes a match of a k-byte pattern at offset o where the last k bytes match it under its mask and o is at or beyond the
resume point, which then becomes o + k; the matcher keeps the last k - 1 bytes. A match enters the landmark list while it holds fewer
than 32 entries, and otherwise sets the overflow mark (R160). A block count that has risen to an armed threshold gives
STREAM_STAGED and disarms it; one that has fallen below half of it arms it again (R163; log 18).

PAYLOAD_WRITE_DONE puts the payload's bytes into the staging blocks from its place in the run on, changes no other byte, and gives
the port its answer TAKEN; with no write in flight there is no event. That the bytes reach page memory then and not before is the
model's choice (log 25). The stall timer's end pauses a RUNNING stream STALL with STREAM_STALL (R158, R157, R143, R161, R150). -/
def Obligations.AcceptedBytesReachSegmentAndMemory : Prop :=
  (∀ (r : StreamRecord) (g : Segment) (rest : List Segment) (granted : Bool) (payload : List Byte),
     r.segments = g :: rest → g.state = .active → (∀ x ∈ rest, x.state = .waiting) → g.pattern = none →
     g.accepted + payload.length < g.count →
     r.takeBytes granted payload = ⟨{ r with
       segments := { g with
         accepted := g.accepted + payload.length, runCrc := payload.foldl crc32Byte g.runCrc } :: rest
       expected := (r.expected + 1) % 65536
       counters := { r.counters with
         frames := r.counters.frames + 1, accepted := r.counters.accepted + payload.length }
       tail := (if granted then (if r.blocks.length ≤ 1 then payload.length else r.tail + payload.length - 4096)
         else r.tail + payload.length)
       flight := some ⟨r.counters.accepted, payload⟩
       mode := .running, pause := none, beforePause := none, stall := some r.stallTime }, [], false, none⟩) ∧
  ((∀ (f : Feed) (front back : List Segment) (g : Segment) (b : Byte) (crc : Word32) (bad : Bool),
     f.record.segments = front ++ g :: back → (∀ x ∈ front, x.state ≠ .active ∧ x.state ≠ .waiting) → g.state = .active →
     (∀ x ∈ back, x.state = .waiting) → g.pattern = none → g.accepted + 1 = g.count →
     crc = crc32Finish (crc32Byte g.runCrc b) → (bad = true ↔ ∃ e, g.crc = some e ∧ e ≠ crc) →
     f.byte b =
       { record := { f.record with segments := front ++ { g with
           accepted := g.count, runCrc := crc32Byte g.runCrc b, state := if bad then .failed else .done } ::
             (if g.action = .halt then back else match back with
               | [] => []
               | x :: rest => { x with state := .active, runCrc := crc32Start, recent := [], resume := 0 } :: rest) }
         reports := f.reports ++ (if bad then [.segmentBad (f.record.id.getD 0) g.ordinal (g.crc.getD 0) crc]
           else if g.action = .chain then [] else [.segmentDone (f.record.id.getD 0) g.ordinal g.count crc])
         failed := f.failed || bad
         halted := if bad = false ∧ g.action = .halt then some g.ordinal else f.halted }) ∧
   (∀ (n : Nat) (granted : Bool) (payload : List Byte) (s : State) (f : Feed), n < 4 →
     f = (s.record n).takeBytes granted payload → s.power.mode ≠ .standby →
     reportCount s.link.queue + f.reports.length + 1 ≤ 28 → s.link.queue.length + f.reports.length + 2 ≤ 32 →
     (f.failed = true → ∃ t, t = acceptFrame n granted payload s ∧
       t.record n = { f.record with
         mode := .failed, pause := none, beforePause := none, fail := some .crc, stall := none
         segments := f.record.segments.filter (fun g => g.drained ≠ g.accepted) } ∧
       t.link.queue = s.link.queue ++ (f.reports ++ [Report.streamFailed (f.record.id.getD 0) .crc]).map .report) ∧
     (∀ o, f.failed = false → f.halted = some o → ∃ t, t = acceptFrame n granted payload s ∧
       t.record n = { f.record with
         mode := .ended, pause := none, beforePause := none, stall := none
         segments := f.record.segments.filter (fun g => g.drained ≠ g.accepted) } ∧
       t.link.queue = s.link.queue ++ (f.reports ++ [Report.streamEnded (f.record.id.getD 0) o]).map .report) ∧
     (f.failed = false → f.halted = none → ∃ t, t = acceptFrame n granted payload s ∧ t.record n = f.record ∧
       t.link.queue = s.link.queue ++ f.reports.map .report))) ∧
  ((∀ (g : Segment) (p : Pattern) (b : Byte) (window : List Byte) (o : Nat), g.pattern = some p →
     window = g.recent ++ [b] → o = g.accepted + 1 - p.bytes.length →
     (window.length = p.bytes.length → g.resume ≤ o →
       (∀ i, i < p.bytes.length → window.getD i 0 &&& p.mask.getD i 0 = p.bytes.getD i 0 &&& p.mask.getD i 0) →
       g.matchByte b = (some o, { g with
         recent := window.drop (window.length - (p.bytes.length - 1)), resume := o + p.bytes.length })) ∧
     (window.length ≠ p.bytes.length ∨ o < g.resume ∨
         (∃ i, i < p.bytes.length ∧ window.getD i 0 &&& p.mask.getD i 0 ≠ p.bytes.getD i 0 &&& p.mask.getD i 0) →
       g.matchByte b = (none, { g with recent := window.drop (window.length - (p.bytes.length - 1)) }))) ∧
   (∀ (g : Segment) (b : Byte), g.pattern = none → g.matchByte b = (none, g)) ∧
   (∀ (f : Feed) (front back : List Segment) (g : Segment) (b : Byte),
     f.record.segments = front ++ g :: back → (∀ x ∈ front, x.state ≠ .active) → g.state = .active →
     (∀ x ∈ back, x.state ≠ .active) → g.accepted + 1 < g.count →
     f.byte b = { f with record := { f.record with
       segments := front ++ { (g.matchByte b).2 with
         accepted := g.accepted + 1, runCrc := crc32Byte g.runCrc b } :: back
       landmarks := (match (g.matchByte b).1 with
         | some o => if f.record.landmarks.length < 32 then f.record.landmarks ++ [(g.ordinal, o)] else f.record.landmarks
         | none => f.record.landmarks)
       landmarkOverflow := f.record.landmarkOverflow ||
         ((g.matchByte b).1.isSome && decide (32 ≤ f.record.landmarks.length)) } }) ∧
   (∀ (n : Nat) (s : State),
     (0 < (s.record n).threshold → (s.record n).thresholdArmed = true → (s.record n).threshold ≤ (s.record n).blocks.length →
       thresholdRise n s = raise (.streamStaged ((s.record n).id.getD 0) (s.record n).blocks.length
         ((s.record n).counters.accepted - (s.record n).counters.drained)) { s with stream := { s.stream with
           records := withRecord s.stream.records n (fun r => { r with thresholdArmed := false }) } }) ∧
     ((s.record n).threshold = 0 ∨ (s.record n).thresholdArmed = false ∨
       (s.record n).blocks.length < (s.record n).threshold → thresholdRise n s = s)) ∧
   (∀ r : StreamRecord, r.thresholdFall =
     { r with thresholdArmed := r.thresholdArmed || decide (2 * r.blocks.length < r.threshold) })) ∧
  (∀ s : State,
     ((∀ n, n < 4 → (s.record n).flight = none) → exec .payloadWriteDone s = .next s) ∧
     (∀ n w, n < 4 → (s.record n).flight = some w → (∀ k, k < n → (s.record k).flight = none) →
       ∃ t, exec .payloadWriteDone s = .next t ∧
         t.mem = Memory.writeRun s.mem (s.record n).blocks ((s.record n).head + (w.start - (s.record n).counters.drained)) w.payload ∧
         (∀ x, (∀ i, i < w.payload.length →
             x ≠ imageAddr (s.record n).blocks ((s.record n).head + (w.start - (s.record n).counters.drained) + i)) →
           Memory.read t.mem x = Memory.read s.mem x) ∧
         (s.radio.released = false →
           (t.record n).flight = none ∧ t.radio.asm = .hunt ∧ t.radio.waiting = false ∧ t.radio.frame = none ∧
           t.radio.counts.frames = bumpCount s.radio.counts.frames ∧ SameExcept [.mem, .radio, .stream] s t) ∧
         (s.radio.released = true → s.radio.waiting = false →
           (t.record n).flight = none ∧ t.radio.released = false ∧ t.radio.asm = s.radio.asm ∧
           t.radio.counts.frames = bumpCount s.radio.counts.frames ∧ SameExcept [.mem, .radio, .stream] s t)) ∧
     (∀ n, n < 4 →
       ((s.record n).stall = none ∨ (s.record n).mode ≠ .running → exec (.stallTimerExpire n) s = .next s) ∧
       ((s.record n).stall.isSome = true → (s.record n).mode = .running →
         ∃ t, exec (.stallTimerExpire n) s = .next t ∧
           t.record n = { s.record n with
             mode := .paused, pause := some .stall, beforePause := some .running, stall := none } ∧
           (s.power.mode ≠ .settling → ∀ k, k ≠ n → t.record k = s.record k) ∧
           (s.power.mode ≠ .standby → s.link.roomForReport = true →
             t.link.queue = s.link.queue ++ [.report (.streamStall ((s.record n).id.getD 0) (s.record n).expected)]) ∧
           FrameOf [.radio, .stream, .power, .link] s t)))
end

