-- ==== Sys2Proof/Laws/State.lean ====
section
/-! SUPPORT. One lemma per field per update of a block: what `State.onPool` and its twelve sisters do to each field. -/

namespace Sys2Proof.Machine

@[simp] theorem onMem_pending (s : State) (f : Memory → Memory) : (s.onMem f).pending = s.pending := rfl
@[simp] theorem onMem_mem (s : State) (f : Memory → Memory) : (s.onMem f).mem = f s.mem := rfl
@[simp] theorem onMem_pool (s : State) (f : Memory → Memory) : (s.onMem f).pool = s.pool := rfl
@[simp] theorem onMem_wave (s : State) (f : Memory → Memory) : (s.onMem f).wave = s.wave := rfl
@[simp] theorem onMem_engine (s : State) (f : Memory → Memory) : (s.onMem f).engine = s.engine := rfl
@[simp] theorem onMem_rail (s : State) (f : Memory → Memory) : (s.onMem f).rail = s.rail := rfl
@[simp] theorem onMem_budget (s : State) (f : Memory → Memory) : (s.onMem f).budget = s.budget := rfl
@[simp] theorem onMem_cache (s : State) (f : Memory → Memory) : (s.onMem f).cache = s.cache := rfl
@[simp] theorem onMem_keys (s : State) (f : Memory → Memory) : (s.onMem f).keys = s.keys := rfl
@[simp] theorem onMem_light (s : State) (f : Memory → Memory) : (s.onMem f).light = s.light := rfl
@[simp] theorem onMem_radio (s : State) (f : Memory → Memory) : (s.onMem f).radio = s.radio := rfl
@[simp] theorem onMem_stream (s : State) (f : Memory → Memory) : (s.onMem f).stream = s.stream := rfl
@[simp] theorem onMem_power (s : State) (f : Memory → Memory) : (s.onMem f).power = s.power := rfl
@[simp] theorem onMem_link (s : State) (f : Memory → Memory) : (s.onMem f).link = s.link := rfl

@[simp] theorem onPool_pending (s : State) (f : PoolState → PoolState) : (s.onPool f).pending = s.pending := rfl
@[simp] theorem onPool_mem (s : State) (f : PoolState → PoolState) : (s.onPool f).mem = s.mem := rfl
@[simp] theorem onPool_pool (s : State) (f : PoolState → PoolState) : (s.onPool f).pool = f s.pool := rfl
@[simp] theorem onPool_wave (s : State) (f : PoolState → PoolState) : (s.onPool f).wave = s.wave := rfl
@[simp] theorem onPool_engine (s : State) (f : PoolState → PoolState) : (s.onPool f).engine = s.engine := rfl
@[simp] theorem onPool_rail (s : State) (f : PoolState → PoolState) : (s.onPool f).rail = s.rail := rfl
@[simp] theorem onPool_budget (s : State) (f : PoolState → PoolState) : (s.onPool f).budget = s.budget := rfl
@[simp] theorem onPool_cache (s : State) (f : PoolState → PoolState) : (s.onPool f).cache = s.cache := rfl
@[simp] theorem onPool_keys (s : State) (f : PoolState → PoolState) : (s.onPool f).keys = s.keys := rfl
@[simp] theorem onPool_light (s : State) (f : PoolState → PoolState) : (s.onPool f).light = s.light := rfl
@[simp] theorem onPool_radio (s : State) (f : PoolState → PoolState) : (s.onPool f).radio = s.radio := rfl
@[simp] theorem onPool_stream (s : State) (f : PoolState → PoolState) : (s.onPool f).stream = s.stream := rfl
@[simp] theorem onPool_power (s : State) (f : PoolState → PoolState) : (s.onPool f).power = s.power := rfl
@[simp] theorem onPool_link (s : State) (f : PoolState → PoolState) : (s.onPool f).link = s.link := rfl

@[simp] theorem onWave_pending (s : State) (f : WaveState → WaveState) : (s.onWave f).pending = s.pending := rfl
@[simp] theorem onWave_mem (s : State) (f : WaveState → WaveState) : (s.onWave f).mem = s.mem := rfl
@[simp] theorem onWave_pool (s : State) (f : WaveState → WaveState) : (s.onWave f).pool = s.pool := rfl
@[simp] theorem onWave_wave (s : State) (f : WaveState → WaveState) : (s.onWave f).wave = f s.wave := rfl
@[simp] theorem onWave_engine (s : State) (f : WaveState → WaveState) : (s.onWave f).engine = s.engine := rfl
@[simp] theorem onWave_rail (s : State) (f : WaveState → WaveState) : (s.onWave f).rail = s.rail := rfl
@[simp] theorem onWave_budget (s : State) (f : WaveState → WaveState) : (s.onWave f).budget = s.budget := rfl
@[simp] theorem onWave_cache (s : State) (f : WaveState → WaveState) : (s.onWave f).cache = s.cache := rfl
@[simp] theorem onWave_keys (s : State) (f : WaveState → WaveState) : (s.onWave f).keys = s.keys := rfl
@[simp] theorem onWave_light (s : State) (f : WaveState → WaveState) : (s.onWave f).light = s.light := rfl
@[simp] theorem onWave_radio (s : State) (f : WaveState → WaveState) : (s.onWave f).radio = s.radio := rfl
@[simp] theorem onWave_stream (s : State) (f : WaveState → WaveState) : (s.onWave f).stream = s.stream := rfl
@[simp] theorem onWave_power (s : State) (f : WaveState → WaveState) : (s.onWave f).power = s.power := rfl
@[simp] theorem onWave_link (s : State) (f : WaveState → WaveState) : (s.onWave f).link = s.link := rfl

@[simp] theorem onEngine_pending (s : State) (f : EngineState → EngineState) : (s.onEngine f).pending = s.pending := rfl
@[simp] theorem onEngine_mem (s : State) (f : EngineState → EngineState) : (s.onEngine f).mem = s.mem := rfl
@[simp] theorem onEngine_pool (s : State) (f : EngineState → EngineState) : (s.onEngine f).pool = s.pool := rfl
@[simp] theorem onEngine_wave (s : State) (f : EngineState → EngineState) : (s.onEngine f).wave = s.wave := rfl
@[simp] theorem onEngine_engine (s : State) (f : EngineState → EngineState) : (s.onEngine f).engine = f s.engine := rfl
@[simp] theorem onEngine_rail (s : State) (f : EngineState → EngineState) : (s.onEngine f).rail = s.rail := rfl
@[simp] theorem onEngine_budget (s : State) (f : EngineState → EngineState) : (s.onEngine f).budget = s.budget := rfl
@[simp] theorem onEngine_cache (s : State) (f : EngineState → EngineState) : (s.onEngine f).cache = s.cache := rfl
@[simp] theorem onEngine_keys (s : State) (f : EngineState → EngineState) : (s.onEngine f).keys = s.keys := rfl
@[simp] theorem onEngine_light (s : State) (f : EngineState → EngineState) : (s.onEngine f).light = s.light := rfl
@[simp] theorem onEngine_radio (s : State) (f : EngineState → EngineState) : (s.onEngine f).radio = s.radio := rfl
@[simp] theorem onEngine_stream (s : State) (f : EngineState → EngineState) : (s.onEngine f).stream = s.stream := rfl
@[simp] theorem onEngine_power (s : State) (f : EngineState → EngineState) : (s.onEngine f).power = s.power := rfl
@[simp] theorem onEngine_link (s : State) (f : EngineState → EngineState) : (s.onEngine f).link = s.link := rfl

@[simp] theorem onRail_pending (s : State) (f : RailState → RailState) : (s.onRail f).pending = s.pending := rfl
@[simp] theorem onRail_mem (s : State) (f : RailState → RailState) : (s.onRail f).mem = s.mem := rfl
@[simp] theorem onRail_pool (s : State) (f : RailState → RailState) : (s.onRail f).pool = s.pool := rfl
@[simp] theorem onRail_wave (s : State) (f : RailState → RailState) : (s.onRail f).wave = s.wave := rfl
@[simp] theorem onRail_engine (s : State) (f : RailState → RailState) : (s.onRail f).engine = s.engine := rfl
@[simp] theorem onRail_rail (s : State) (f : RailState → RailState) : (s.onRail f).rail = f s.rail := rfl
@[simp] theorem onRail_budget (s : State) (f : RailState → RailState) : (s.onRail f).budget = s.budget := rfl
@[simp] theorem onRail_cache (s : State) (f : RailState → RailState) : (s.onRail f).cache = s.cache := rfl
@[simp] theorem onRail_keys (s : State) (f : RailState → RailState) : (s.onRail f).keys = s.keys := rfl
@[simp] theorem onRail_light (s : State) (f : RailState → RailState) : (s.onRail f).light = s.light := rfl
@[simp] theorem onRail_radio (s : State) (f : RailState → RailState) : (s.onRail f).radio = s.radio := rfl
@[simp] theorem onRail_stream (s : State) (f : RailState → RailState) : (s.onRail f).stream = s.stream := rfl
@[simp] theorem onRail_power (s : State) (f : RailState → RailState) : (s.onRail f).power = s.power := rfl
@[simp] theorem onRail_link (s : State) (f : RailState → RailState) : (s.onRail f).link = s.link := rfl

@[simp] theorem onBudget_pending (s : State) (f : BudgetState → BudgetState) : (s.onBudget f).pending = s.pending := rfl
@[simp] theorem onBudget_mem (s : State) (f : BudgetState → BudgetState) : (s.onBudget f).mem = s.mem := rfl
@[simp] theorem onBudget_pool (s : State) (f : BudgetState → BudgetState) : (s.onBudget f).pool = s.pool := rfl
@[simp] theorem onBudget_wave (s : State) (f : BudgetState → BudgetState) : (s.onBudget f).wave = s.wave := rfl
@[simp] theorem onBudget_engine (s : State) (f : BudgetState → BudgetState) : (s.onBudget f).engine = s.engine := rfl
@[simp] theorem onBudget_rail (s : State) (f : BudgetState → BudgetState) : (s.onBudget f).rail = s.rail := rfl
@[simp] theorem onBudget_budget (s : State) (f : BudgetState → BudgetState) : (s.onBudget f).budget = f s.budget := rfl
@[simp] theorem onBudget_cache (s : State) (f : BudgetState → BudgetState) : (s.onBudget f).cache = s.cache := rfl
@[simp] theorem onBudget_keys (s : State) (f : BudgetState → BudgetState) : (s.onBudget f).keys = s.keys := rfl
@[simp] theorem onBudget_light (s : State) (f : BudgetState → BudgetState) : (s.onBudget f).light = s.light := rfl
@[simp] theorem onBudget_radio (s : State) (f : BudgetState → BudgetState) : (s.onBudget f).radio = s.radio := rfl
@[simp] theorem onBudget_stream (s : State) (f : BudgetState → BudgetState) : (s.onBudget f).stream = s.stream := rfl
@[simp] theorem onBudget_power (s : State) (f : BudgetState → BudgetState) : (s.onBudget f).power = s.power := rfl
@[simp] theorem onBudget_link (s : State) (f : BudgetState → BudgetState) : (s.onBudget f).link = s.link := rfl

@[simp] theorem onCache_pending (s : State) (f : CacheState → CacheState) : (s.onCache f).pending = s.pending := rfl
@[simp] theorem onCache_mem (s : State) (f : CacheState → CacheState) : (s.onCache f).mem = s.mem := rfl
@[simp] theorem onCache_pool (s : State) (f : CacheState → CacheState) : (s.onCache f).pool = s.pool := rfl
@[simp] theorem onCache_wave (s : State) (f : CacheState → CacheState) : (s.onCache f).wave = s.wave := rfl
@[simp] theorem onCache_engine (s : State) (f : CacheState → CacheState) : (s.onCache f).engine = s.engine := rfl
@[simp] theorem onCache_rail (s : State) (f : CacheState → CacheState) : (s.onCache f).rail = s.rail := rfl
@[simp] theorem onCache_budget (s : State) (f : CacheState → CacheState) : (s.onCache f).budget = s.budget := rfl
@[simp] theorem onCache_cache (s : State) (f : CacheState → CacheState) : (s.onCache f).cache = f s.cache := rfl
@[simp] theorem onCache_keys (s : State) (f : CacheState → CacheState) : (s.onCache f).keys = s.keys := rfl
@[simp] theorem onCache_light (s : State) (f : CacheState → CacheState) : (s.onCache f).light = s.light := rfl
@[simp] theorem onCache_radio (s : State) (f : CacheState → CacheState) : (s.onCache f).radio = s.radio := rfl
@[simp] theorem onCache_stream (s : State) (f : CacheState → CacheState) : (s.onCache f).stream = s.stream := rfl
@[simp] theorem onCache_power (s : State) (f : CacheState → CacheState) : (s.onCache f).power = s.power := rfl
@[simp] theorem onCache_link (s : State) (f : CacheState → CacheState) : (s.onCache f).link = s.link := rfl

@[simp] theorem onKeys_pending (s : State) (f : KeyState → KeyState) : (s.onKeys f).pending = s.pending := rfl
@[simp] theorem onKeys_mem (s : State) (f : KeyState → KeyState) : (s.onKeys f).mem = s.mem := rfl
@[simp] theorem onKeys_pool (s : State) (f : KeyState → KeyState) : (s.onKeys f).pool = s.pool := rfl
@[simp] theorem onKeys_wave (s : State) (f : KeyState → KeyState) : (s.onKeys f).wave = s.wave := rfl
@[simp] theorem onKeys_engine (s : State) (f : KeyState → KeyState) : (s.onKeys f).engine = s.engine := rfl
@[simp] theorem onKeys_rail (s : State) (f : KeyState → KeyState) : (s.onKeys f).rail = s.rail := rfl
@[simp] theorem onKeys_budget (s : State) (f : KeyState → KeyState) : (s.onKeys f).budget = s.budget := rfl
@[simp] theorem onKeys_cache (s : State) (f : KeyState → KeyState) : (s.onKeys f).cache = s.cache := rfl
@[simp] theorem onKeys_keys (s : State) (f : KeyState → KeyState) : (s.onKeys f).keys = f s.keys := rfl
@[simp] theorem onKeys_light (s : State) (f : KeyState → KeyState) : (s.onKeys f).light = s.light := rfl
@[simp] theorem onKeys_radio (s : State) (f : KeyState → KeyState) : (s.onKeys f).radio = s.radio := rfl
@[simp] theorem onKeys_stream (s : State) (f : KeyState → KeyState) : (s.onKeys f).stream = s.stream := rfl
@[simp] theorem onKeys_power (s : State) (f : KeyState → KeyState) : (s.onKeys f).power = s.power := rfl
@[simp] theorem onKeys_link (s : State) (f : KeyState → KeyState) : (s.onKeys f).link = s.link := rfl

@[simp] theorem onLight_pending (s : State) (f : LightState → LightState) : (s.onLight f).pending = s.pending := rfl
@[simp] theorem onLight_mem (s : State) (f : LightState → LightState) : (s.onLight f).mem = s.mem := rfl
@[simp] theorem onLight_pool (s : State) (f : LightState → LightState) : (s.onLight f).pool = s.pool := rfl
@[simp] theorem onLight_wave (s : State) (f : LightState → LightState) : (s.onLight f).wave = s.wave := rfl
@[simp] theorem onLight_engine (s : State) (f : LightState → LightState) : (s.onLight f).engine = s.engine := rfl
@[simp] theorem onLight_rail (s : State) (f : LightState → LightState) : (s.onLight f).rail = s.rail := rfl
@[simp] theorem onLight_budget (s : State) (f : LightState → LightState) : (s.onLight f).budget = s.budget := rfl
@[simp] theorem onLight_cache (s : State) (f : LightState → LightState) : (s.onLight f).cache = s.cache := rfl
@[simp] theorem onLight_keys (s : State) (f : LightState → LightState) : (s.onLight f).keys = s.keys := rfl
@[simp] theorem onLight_light (s : State) (f : LightState → LightState) : (s.onLight f).light = f s.light := rfl
@[simp] theorem onLight_radio (s : State) (f : LightState → LightState) : (s.onLight f).radio = s.radio := rfl
@[simp] theorem onLight_stream (s : State) (f : LightState → LightState) : (s.onLight f).stream = s.stream := rfl
@[simp] theorem onLight_power (s : State) (f : LightState → LightState) : (s.onLight f).power = s.power := rfl
@[simp] theorem onLight_link (s : State) (f : LightState → LightState) : (s.onLight f).link = s.link := rfl

@[simp] theorem onRadio_pending (s : State) (f : RadioState → RadioState) : (s.onRadio f).pending = s.pending := rfl
@[simp] theorem onRadio_mem (s : State) (f : RadioState → RadioState) : (s.onRadio f).mem = s.mem := rfl
@[simp] theorem onRadio_pool (s : State) (f : RadioState → RadioState) : (s.onRadio f).pool = s.pool := rfl
@[simp] theorem onRadio_wave (s : State) (f : RadioState → RadioState) : (s.onRadio f).wave = s.wave := rfl
@[simp] theorem onRadio_engine (s : State) (f : RadioState → RadioState) : (s.onRadio f).engine = s.engine := rfl
@[simp] theorem onRadio_rail (s : State) (f : RadioState → RadioState) : (s.onRadio f).rail = s.rail := rfl
@[simp] theorem onRadio_budget (s : State) (f : RadioState → RadioState) : (s.onRadio f).budget = s.budget := rfl
@[simp] theorem onRadio_cache (s : State) (f : RadioState → RadioState) : (s.onRadio f).cache = s.cache := rfl
@[simp] theorem onRadio_keys (s : State) (f : RadioState → RadioState) : (s.onRadio f).keys = s.keys := rfl
@[simp] theorem onRadio_light (s : State) (f : RadioState → RadioState) : (s.onRadio f).light = s.light := rfl
@[simp] theorem onRadio_radio (s : State) (f : RadioState → RadioState) : (s.onRadio f).radio = f s.radio := rfl
@[simp] theorem onRadio_stream (s : State) (f : RadioState → RadioState) : (s.onRadio f).stream = s.stream := rfl
@[simp] theorem onRadio_power (s : State) (f : RadioState → RadioState) : (s.onRadio f).power = s.power := rfl
@[simp] theorem onRadio_link (s : State) (f : RadioState → RadioState) : (s.onRadio f).link = s.link := rfl

@[simp] theorem onStream_pending (s : State) (f : StreamState → StreamState) : (s.onStream f).pending = s.pending := rfl
@[simp] theorem onStream_mem (s : State) (f : StreamState → StreamState) : (s.onStream f).mem = s.mem := rfl
@[simp] theorem onStream_pool (s : State) (f : StreamState → StreamState) : (s.onStream f).pool = s.pool := rfl
@[simp] theorem onStream_wave (s : State) (f : StreamState → StreamState) : (s.onStream f).wave = s.wave := rfl
@[simp] theorem onStream_engine (s : State) (f : StreamState → StreamState) : (s.onStream f).engine = s.engine := rfl
@[simp] theorem onStream_rail (s : State) (f : StreamState → StreamState) : (s.onStream f).rail = s.rail := rfl
@[simp] theorem onStream_budget (s : State) (f : StreamState → StreamState) : (s.onStream f).budget = s.budget := rfl
@[simp] theorem onStream_cache (s : State) (f : StreamState → StreamState) : (s.onStream f).cache = s.cache := rfl
@[simp] theorem onStream_keys (s : State) (f : StreamState → StreamState) : (s.onStream f).keys = s.keys := rfl
@[simp] theorem onStream_light (s : State) (f : StreamState → StreamState) : (s.onStream f).light = s.light := rfl
@[simp] theorem onStream_radio (s : State) (f : StreamState → StreamState) : (s.onStream f).radio = s.radio := rfl
@[simp] theorem onStream_stream (s : State) (f : StreamState → StreamState) : (s.onStream f).stream = f s.stream := rfl
@[simp] theorem onStream_power (s : State) (f : StreamState → StreamState) : (s.onStream f).power = s.power := rfl
@[simp] theorem onStream_link (s : State) (f : StreamState → StreamState) : (s.onStream f).link = s.link := rfl

@[simp] theorem onPower_pending (s : State) (f : PowerState → PowerState) : (s.onPower f).pending = s.pending := rfl
@[simp] theorem onPower_mem (s : State) (f : PowerState → PowerState) : (s.onPower f).mem = s.mem := rfl
@[simp] theorem onPower_pool (s : State) (f : PowerState → PowerState) : (s.onPower f).pool = s.pool := rfl
@[simp] theorem onPower_wave (s : State) (f : PowerState → PowerState) : (s.onPower f).wave = s.wave := rfl
@[simp] theorem onPower_engine (s : State) (f : PowerState → PowerState) : (s.onPower f).engine = s.engine := rfl
@[simp] theorem onPower_rail (s : State) (f : PowerState → PowerState) : (s.onPower f).rail = s.rail := rfl
@[simp] theorem onPower_budget (s : State) (f : PowerState → PowerState) : (s.onPower f).budget = s.budget := rfl
@[simp] theorem onPower_cache (s : State) (f : PowerState → PowerState) : (s.onPower f).cache = s.cache := rfl
@[simp] theorem onPower_keys (s : State) (f : PowerState → PowerState) : (s.onPower f).keys = s.keys := rfl
@[simp] theorem onPower_light (s : State) (f : PowerState → PowerState) : (s.onPower f).light = s.light := rfl
@[simp] theorem onPower_radio (s : State) (f : PowerState → PowerState) : (s.onPower f).radio = s.radio := rfl
@[simp] theorem onPower_stream (s : State) (f : PowerState → PowerState) : (s.onPower f).stream = s.stream := rfl
@[simp] theorem onPower_power (s : State) (f : PowerState → PowerState) : (s.onPower f).power = f s.power := rfl
@[simp] theorem onPower_link (s : State) (f : PowerState → PowerState) : (s.onPower f).link = s.link := rfl

@[simp] theorem onLink_pending (s : State) (f : LinkState → LinkState) : (s.onLink f).pending = s.pending := rfl
@[simp] theorem onLink_mem (s : State) (f : LinkState → LinkState) : (s.onLink f).mem = s.mem := rfl
@[simp] theorem onLink_pool (s : State) (f : LinkState → LinkState) : (s.onLink f).pool = s.pool := rfl
@[simp] theorem onLink_wave (s : State) (f : LinkState → LinkState) : (s.onLink f).wave = s.wave := rfl
@[simp] theorem onLink_engine (s : State) (f : LinkState → LinkState) : (s.onLink f).engine = s.engine := rfl
@[simp] theorem onLink_rail (s : State) (f : LinkState → LinkState) : (s.onLink f).rail = s.rail := rfl
@[simp] theorem onLink_budget (s : State) (f : LinkState → LinkState) : (s.onLink f).budget = s.budget := rfl
@[simp] theorem onLink_cache (s : State) (f : LinkState → LinkState) : (s.onLink f).cache = s.cache := rfl
@[simp] theorem onLink_keys (s : State) (f : LinkState → LinkState) : (s.onLink f).keys = s.keys := rfl
@[simp] theorem onLink_light (s : State) (f : LinkState → LinkState) : (s.onLink f).light = s.light := rfl
@[simp] theorem onLink_radio (s : State) (f : LinkState → LinkState) : (s.onLink f).radio = s.radio := rfl
@[simp] theorem onLink_stream (s : State) (f : LinkState → LinkState) : (s.onLink f).stream = s.stream := rfl
@[simp] theorem onLink_power (s : State) (f : LinkState → LinkState) : (s.onLink f).power = s.power := rfl
@[simp] theorem onLink_link (s : State) (f : LinkState → LinkState) : (s.onLink f).link = f s.link := rfl

end Sys2Proof.Machine
end

