-- ==== Sys2Proof/Laws/Packets.lean ====
section
/-! SUPPORT. Everything the shared operations of taking a packet can do: the packet leaves the buffer, a place is held or not, the
body goes to its owner or is answered, and a reply queued from the held place (R183, R184, R191). -/

namespace Sys2Proof.Machine

/-- Taking the packet of a row changes the buffer alone. -/
theorem popPacket_eq (i : Instr) (s : State) : popPacket i s = s.taken i := by
  cases s with | mk _ _ _ _ _ _ _ _ _ _ _ _ _ l =>
  cases l with | mk _ buffer _ _ _ _ _ _ _ _ _ =>
  cases buffer with
  | nil => rfl
  | cons p rest =>
    simp only [popPacket, State.taken, bufferAfter, State.onLink]
    split <;> rfl

/-- Where packets are taken, a row's packet leaves the buffer and its owner acts. -/
theorem takePacket_serving (i : Instr) (owner : State → State) (s : State) (h : servingMode s.power.mode = true) :
    takePacket i owner s = owner (s.taken i) := by
  rw [takePacket, if_pos h, popPacket_eq]

/-- In STANDBY and WAKING no packet is taken. -/
theorem takePacket_asleep (i : Instr) (owner : State → State) (s : State) (h : servingMode s.power.mode = false) :
    takePacket i owner s = s := by
  rw [takePacket, if_neg (by simp [h])]

/-- With room for a reply, its place is held and the owner acts. -/
theorem withReplyPlace_room (i : Instr) (owner : State → State) (s : State) (h : s.link.roomForReply = true) :
    withReplyPlace owner (s.taken i) = owner (s.placed i) := by
  have h' : (s.taken i).link.roomForReply = true := h
  rw [withReplyPlace, if_pos h']; rfl

/-- Without room, OVERFLOW is set and the owner does not act. -/
theorem withReplyPlace_full (i : Instr) (owner : State → State) (s : State) (h : s.link.roomForReply = false) :
    withReplyPlace owner (s.taken i) =
      { s with link := { s.link with buffer := bufferAfter i s.link.buffer, overflow := s.link.overflow.raise } } := by
  have h' : (s.taken i).link.roomForReply = false := h
  rw [withReplyPlace, if_neg (by simp [h'])]; rfl

/-- A served command with a sound body is its owner's affair. -/
theorem takeCommand_fields {α : Type} (i : Instr) (code tag : Nat) (a : α) (owner : α → State → State) (s : State)
    (h : s.serves) : takeCommand i code tag (.fields a) owner s = owner a (s.placed i) := by
  rw [takeCommand, takePacket_serving _ _ _ h.1, withReplyPlace_room _ _ _ h.2]

/-- A reply queued from the held place leaves everything else as the command's effect `u` left it. -/
theorem replyWith_placed (i : Instr) (code tag : Nat) (st : Status) (x : ReplyState) (u : State) :
    replyWith code tag st x (u.placed i) = u.answered i ⟨code, tag, st, x⟩ := rfl

theorem reply_placed (i : Instr) (code tag : Nat) (st : Status) (u : State) :
    reply code tag st (u.placed i) = u.answered i (plainReply code tag st) := rfl

/-- A served command with a faulty body is answered by the parsing. -/
theorem takeCommand_badLength {α : Type} (i : Instr) (code tag : Nat) (owner : α → State → State) (s : State)
    (h : s.serves) :
    takeCommand i code tag .badLength owner s = s.answered i (plainReply code tag .badLength) := by
  rw [takeCommand, takePacket_serving _ _ _ h.1, withReplyPlace_room _ _ _ h.2]; rfl

theorem takeCommand_badParam {α : Type} (i : Instr) (code tag : Nat) (owner : α → State → State) (s : State)
    (h : s.serves) :
    takeCommand i code tag .badParam owner s = s.answered i (plainReply code tag .badParam) := by
  rw [takeCommand, takePacket_serving _ _ _ h.1, withReplyPlace_room _ _ _ h.2]; rfl

/-- A command with no place for its reply is discarded. -/
theorem takeCommand_full {α : Type} (i : Instr) (code tag : Nat) (b : Body α) (owner : α → State → State) (s : State)
    (hm : servingMode s.power.mode = true) (h : s.link.roomForReply = false) :
    takeCommand i code tag b owner s =
      { s with link := { s.link with buffer := bufferAfter i s.link.buffer, overflow := s.link.overflow.raise } } := by
  rw [takeCommand, takePacket_serving _ _ _ hm, withReplyPlace_full _ _ _ h]

theorem takeCommand_asleep {α : Type} (i : Instr) (code tag : Nat) (b : Body α) (owner : α → State → State) (s : State)
    (h : servingMode s.power.mode = false) : takeCommand i code tag b owner s = s := by
  rw [takeCommand, takePacket_asleep _ _ _ h]

/-- The three courses of a report (R184, R176). -/
theorem raise_joins (r : Report) (s : State) (hm : s.power.mode ≠ .standby) (h : s.link.roomForReport = true) :
    raise r s = s.withEntry (.report r) := by
  rw [raise, if_neg hm, if_pos h]; rfl

theorem raise_drops (r : Report) (s : State) (hm : s.power.mode ≠ .standby) (h : s.link.roomForReport = false) :
    raise r s = { s with link := { s.link with overflow := s.link.overflow.raise } } := by
  rw [raise, if_neg hm, if_neg (by simp [h])]; rfl

theorem raise_standby (r : Report) (s : State) (hm : s.power.mode = .standby) : raise r s = s := by
  rw [raise, if_pos hm]

end Sys2Proof.Machine
end

