-- ==== Sys2Proof/Laws/Frames.lean ====
section
/-! SUPPORT. Frames: how they compose, and the frame of each shared operation that a meaning is built from. -/

namespace Sys2Proof.Machine

/-! ### Composing frames -/

theorem State.sameBlock_refl (s : State) (b : Block) : s.sameBlock s b := by
  cases b <;> first | rfl | (intro _; rfl)

theorem State.sameBlock_trans (s t u : State) (b : Block) (h₁ : s.sameBlock t b) (h₂ : t.sameBlock u b) :
    s.sameBlock u b := by
  cases b <;> first
    | exact Eq.trans h₂ h₁
    | (intro a; exact (h₂ a).trans (h₁ a))

theorem SameExcept.refl (bs : List Block) (s : State) : SameExcept bs s s := ⟨rfl, fun b _ => s.sameBlock_refl b⟩

theorem SameExcept.trans {bs : List Block} {s t u : State} (h₁ : SameExcept bs s t) (h₂ : SameExcept bs t u) :
    SameExcept bs s u :=
  ⟨h₂.1.trans h₁.1, fun b hb => State.sameBlock_trans s t u b (h₁.2 b hb) (h₂.2 b hb)⟩

theorem SameExcept.mono {bs cs : List Block} {s t : State} (h : SameExcept bs s t) (hbc : ∀ b ∈ bs, b ∈ cs) :
    SameExcept cs s t := ⟨h.1, fun b hb => h.2 b (fun hb' => hb (hbc b hb'))⟩

theorem SameExcept.mem_read {bs : List Block} {s t : State} (h : SameExcept bs s t) (hm : Block.mem ∉ bs) (a : Nat) :
    Memory.read t.mem a = Memory.read s.mem a := h.2 .mem hm a

/-! ### One update, one part -/

theorem onPool_frame (f : PoolState → PoolState) (s : State) : SameExcept [.pool] s (s.onPool f) :=
  ⟨rfl, by intro b hb; cases b <;> first | rfl | (intro _; rfl) | exact absurd hb (by simp)⟩

theorem onWave_frame (f : WaveState → WaveState) (s : State) : SameExcept [.wave] s (s.onWave f) :=
  ⟨rfl, by intro b hb; cases b <;> first | rfl | (intro _; rfl) | exact absurd hb (by simp)⟩

theorem onEngine_frame (f : EngineState → EngineState) (s : State) : SameExcept [.engine] s (s.onEngine f) :=
  ⟨rfl, by intro b hb; cases b <;> first | rfl | (intro _; rfl) | exact absurd hb (by simp)⟩

theorem onRail_frame (f : RailState → RailState) (s : State) : SameExcept [.rail] s (s.onRail f) :=
  ⟨rfl, by intro b hb; cases b <;> first | rfl | (intro _; rfl) | exact absurd hb (by simp)⟩

theorem onBudget_frame (f : BudgetState → BudgetState) (s : State) : SameExcept [.budget] s (s.onBudget f) :=
  ⟨rfl, by intro b hb; cases b <;> first | rfl | (intro _; rfl) | exact absurd hb (by simp)⟩

theorem onCache_frame (f : CacheState → CacheState) (s : State) : SameExcept [.cache] s (s.onCache f) :=
  ⟨rfl, by intro b hb; cases b <;> first | rfl | (intro _; rfl) | exact absurd hb (by simp)⟩

theorem onKeys_frame (f : KeyState → KeyState) (s : State) : SameExcept [.keys] s (s.onKeys f) :=
  ⟨rfl, by intro b hb; cases b <;> first | rfl | (intro _; rfl) | exact absurd hb (by simp)⟩

theorem onLight_frame (f : LightState → LightState) (s : State) : SameExcept [.light] s (s.onLight f) :=
  ⟨rfl, by intro b hb; cases b <;> first | rfl | (intro _; rfl) | exact absurd hb (by simp)⟩

theorem onRadio_frame (f : RadioState → RadioState) (s : State) : SameExcept [.radio] s (s.onRadio f) :=
  ⟨rfl, by intro b hb; cases b <;> first | rfl | (intro _; rfl) | exact absurd hb (by simp)⟩

theorem onStream_frame (f : StreamState → StreamState) (s : State) : SameExcept [.stream] s (s.onStream f) :=
  ⟨rfl, by intro b hb; cases b <;> first | rfl | (intro _; rfl) | exact absurd hb (by simp)⟩

theorem onPower_frame (f : PowerState → PowerState) (s : State) : SameExcept [.power] s (s.onPower f) :=
  ⟨rfl, by intro b hb; cases b <;> first | rfl | (intro _; rfl) | exact absurd hb (by simp)⟩

theorem onLink_frame (f : LinkState → LinkState) (s : State) : SameExcept [.link] s (s.onLink f) :=
  ⟨rfl, by intro b hb; cases b <;> first | rfl | (intro _; rfl) | exact absurd hb (by simp)⟩

/-! ### Messages -/

theorem PowerState.recheckDoze_mode (p : PowerState) : p.recheckDoze.mode = p.mode := by
  simp only [PowerState.recheckDoze]; split
  · split <;> rfl
  · rfl

/-- Outside DOZE the standby delay timer is left as it is. -/
theorem PowerState.recheckDoze_other (p : PowerState) (h : p.mode ≠ .doze) : p.recheckDoze = p := by
  rw [PowerState.recheckDoze, if_neg h]

theorem withEntry_frame (e : Entry) (s : State) : SameExcept [.power, .link] s (s.withEntry e) :=
  ⟨rfl, by intro b hb; cases b <;> first | rfl | (intro _; rfl) | exact absurd hb (by simp)⟩

theorem withEntry_mode (e : Entry) (s : State) : (s.withEntry e).power.mode = s.power.mode :=
  PowerState.recheckDoze_mode _

/-- A report changes the queue, its flag, and in DOZE the standby delay timer; never the power state. -/
theorem raise_frame (r : Report) (s : State) : SameExcept [.power, .link] s (raise r s) := by
  by_cases hm : s.power.mode = .standby
  · rw [raise_standby r s hm]; exact SameExcept.refl _ _
  · cases h : s.link.roomForReport with
    | true => rw [raise_joins r s hm h]; exact withEntry_frame _ _
    | false =>
      rw [raise_drops r s hm h]
      exact ⟨rfl, by intro b hb; cases b <;> first | rfl | (intro _; rfl) | exact absurd hb (by simp)⟩

theorem raise_mode (r : Report) (s : State) : (raise r s).power.mode = s.power.mode := by
  by_cases hm : s.power.mode = .standby
  · rw [raise_standby r s hm]
  · cases h : s.link.roomForReport with
    | true => rw [raise_joins r s hm h]; exact withEntry_mode _ _
    | false => rw [raise_drops r s hm h]

theorem raiseAll_frame (rs : List Report) : ∀ s : State, SameExcept [.power, .link] s (raiseAll rs s) := by
  induction rs with
  | nil => intro s; exact SameExcept.refl _ _
  | cons r rs ih => intro s; exact (raise_frame r s).trans (ih _)

theorem raiseAll_mode (rs : List Report) : ∀ s : State, (raiseAll rs s).power.mode = s.power.mode := by
  induction rs with
  | nil => intro s; rfl
  | cons r rs ih => intro s; exact (ih (raise r s)).trans (raise_mode r s)

theorem answered_frame (i : Instr) (r : Reply) (s : State) : SameExcept [.power, .link] s (s.answered i r) :=
  ⟨rfl, by intro b hb; cases b <;> first | rfl | (intro _; rfl) | exact absurd hb (by simp)⟩

theorem answered_mode (i : Instr) (r : Reply) (s : State) : (s.answered i r).power.mode = s.power.mode :=
  withEntry_mode (.reply r) (s.taken i)

theorem taken_frame (i : Instr) (s : State) : SameExcept [.link] s (s.taken i) :=
  ⟨rfl, by intro b hb; cases b <;> first | rfl | (intro _; rfl) | exact absurd hb (by simp)⟩

theorem placed_frame (i : Instr) (s : State) : SameExcept [.link] s (s.placed i) :=
  ⟨rfl, by intro b hb; cases b <;> first | rfl | (intro _; rfl) | exact absurd hb (by simp)⟩

/-! ### The pool -/

theorem handPool_frame (s : State) : SameExcept [.radio] s (handPool s) := onRadio_frame _ _

theorem allocate_frame (k : Nat) (o : Owner) (s : State) : SameExcept [.pool, .radio] s (allocate k o s) :=
  ((onPool_frame _ s).mono (by simp)).trans ((handPool_frame _).mono (by simp))

theorem releaseBlocks_frame (blocks : List Nat) (s : State) : SameExcept [.pool, .radio] s (releaseBlocks blocks s) :=
  ((onPool_frame _ s).mono (by simp)).trans ((handPool_frame _).mono (by simp))

theorem removeLeaf_frame (l : Leaf) (s : State) : SameExcept [.pool, .cache, .radio] s (removeLeaf l s) :=
  ((onCache_frame _ s).mono (by simp)).trans ((releaseBlocks_frame _ _).mono (by simp))

/-! ### Slots, leaves and lanes -/

theorem onSlot_frame (n : Nat) (f : Slot → Slot) (s : State) : SameExcept [.wave] s (onSlot n f s) := onWave_frame _ s

theorem selectBand_frame (t : Int) (n : Nat) (s : State) : SameExcept [.wave, .power, .link] s (selectBand t n s) := by
  rw [selectBand]
  split
  · exact ((onSlot_frame n _ s).mono (by simp)).trans ((raiseAll_frame _ _).mono (by simp))
  · exact SameExcept.refl _ _

theorem onLane_frame (n : Nat) (f : Lane → Lane) (s : State) : SameExcept [.engine] s (onLane n f s) := onEngine_frame _ s

theorem useSource_frame (src : Source) (s : State) : SameExcept [.cache] s (useSource src s) := by
  cases src with
  | target => exact SameExcept.refl _ _
  | leaf n => exact onCache_frame _ s

theorem unuseSource_frame (src : Source) (s : State) : SameExcept [.cache] s (unuseSource src s) := by
  cases src with
  | target => exact SameExcept.refl _ _
  | leaf n => exact onCache_frame _ s

theorem appendEntry_frame (e : PendingEntry) (s : State) : SameExcept [.wave, .engine, .cache] s (appendEntry e s) :=
  ((onEngine_frame _ s).mono (by simp)).trans
    (((onSlot_frame _ _ _).mono (by simp)).trans ((useSource_frame _ _).mono (by simp)))

end Sys2Proof.Machine
end

