-- ==== Sys2Proof/Laws/Line.lean ====
section
/-! SUPPORT. What a character's samples give: the number of a list of bits, and the bits of the data byte (R135). -/

namespace Sys2Proof.Machine

theorem bitsOf_testBit (ms : List Bool) (i : Nat) : (bitsOf ms).testBit i = ms.getD i false := by
  induction ms generalizing i with
  | nil => simp [bitsOf]
  | cons m rest ih =>
    cases i with
    | zero => cases m <;> simp [bitsOf, Nat.testBit_zero]
    | succ i =>
      have h : ((if m then 1 else 0) + 2 * bitsOf rest) / 2 = bitsOf rest := by cases m <;> simp; omega
      simp [bitsOf, Nat.testBit_succ, h, ih]

/-- Bit i of the data byte is the vote over the data bit that comes i-th on the line. -/
theorem charData_getLsbD (data : Vector BitSamples 8) (i : Nat) (h : i < 8) : (charData data).getLsbD i = votedBit data[i] := by
  simp only [charData, BitVec.getLsbD_ofNat, h, decide_true, Bool.true_and, bitsOf_testBit]
  rw [List.getD_eq_getElem _ _ (by simpa using h)]
  simp

/-- A character is noisy where some bit's samples are not all alike. -/
theorem charNoisy_iff (start mark : BitSamples) (data : Vector BitSamples 8) :
    charNoisy start mark data = true ↔ ∃ b ∈ start :: mark :: data.toList, b.first ≠ b.second ∨ b.second ≠ b.third := by
  simp [charNoisy, samplesDisagree, -Vector.any_toList]

end Sys2Proof.Machine
end

