-- ==== Sys2Proof/Laws/Memory.lean ====
section
/-! SUPPORT. Everything the operations of page memory can do: each keeps the canonical form, and what each byte reads as
afterwards. -/

namespace Sys2Proof.Machine

/-! ### Reading -/

theorem Memory.read_nil (a : Nat) : Memory.read [] a = Memory.blank := rfl

/-- The value found among cells, if the address is listed. -/
theorem Memory.read_append_left (m k : Memory) (a : Nat) (h : ∀ c ∈ k, c.1 ≠ a) :
    Memory.read (m ++ k) a = Memory.read m a := by
  have hk : k.find? (fun c => c.1 == a) = none := by
    simpa [List.find?_eq_none] using h
  simp only [Memory.read, List.find?_append, hk, Option.or_none]

theorem Memory.read_append_right (m k : Memory) (a : Nat) (h : ∀ c ∈ m, c.1 ≠ a) :
    Memory.read (m ++ k) a = Memory.read k a := by
  have hm : m.find? (fun c => c.1 == a) = none := by
    simpa [List.find?_eq_none] using h
  simp only [Memory.read, List.find?_append, hm, Option.none_or]

theorem Memory.read_unlisted (m : Memory) (a : Nat) (h : ∀ c ∈ m, c.1 ≠ a) : m.read a = Memory.blank := by
  have := Memory.read_append_right m [] a h
  simpa [Memory.read_nil] using this

/-- A selection of cells that keeps the address reads the same there. -/
theorem Memory.read_filter (m : Memory) (p : Host.Cell → Bool) (a : Nat) (h : ∀ c ∈ m, c.1 = a → p c = true) :
    Memory.read (m.filter p) a = m.read a := by
  induction m with
  | nil => rfl
  | cons c m ih =>
    have ih := ih (fun d hd => h d (List.mem_cons_of_mem _ hd))
    simp only [Memory.read] at ih
    by_cases hc : c.1 = a
    · have hp : p c = true := h c (List.mem_cons_self) hc
      simp [Memory.read, hp, hc]
    · by_cases hp : p c = true
      · simpa [Memory.read, List.filter_cons, hp, List.find?_cons, hc] using ih
      · simpa [Memory.read, List.filter_cons, hp, List.find?_cons, hc] using ih

theorem Memory.read_below (m : Memory) (a x : Nat) (h : x < a) : (m.below a).read x = m.read x :=
  Memory.read_filter m _ x (by intro c _ hc; simpa [hc] using h)

theorem Memory.read_above (m : Memory) (a x : Nat) (h : a ≤ x) : (m.above a).read x = m.read x :=
  Memory.read_filter m _ x (by intro c _ hc; simpa [hc] using h)

theorem Memory.below_lt (m : Memory) (a : Nat) : ∀ c ∈ m.below a, c.1 < a := by
  intro c hc; simpa using (List.mem_filter.mp hc).2

theorem Memory.above_ge (m : Memory) (a : Nat) : ∀ c ∈ m.above a, a ≤ c.1 := by
  intro c hc; simpa using (List.mem_filter.mp hc).2

/-! ### Cells of written bytes -/

/-- The cells lie within the written range and hold no blank byte. -/
theorem Memory.cells_range (bs : List Byte) : ∀ a, ∀ c ∈ Memory.cells a bs,
    a ≤ c.1 ∧ c.1 < a + bs.length ∧ c.2 ≠ Memory.blank := by
  induction bs with
  | nil => intro a c hc; simp [Memory.cells] at hc
  | cons b bs ih =>
    intro a c hc
    simp only [Memory.cells] at hc
    split at hc
    · obtain ⟨h₁, h₂, h₃⟩ := ih (a + 1) c hc
      simp only [List.length_cons]; exact ⟨by omega, by omega, h₃⟩
    · rename_i hb
      rcases List.mem_cons.mp hc with rfl | hc
      · simp only [List.length_cons]; exact ⟨by omega, by omega, hb⟩
      · obtain ⟨h₁, h₂, h₃⟩ := ih (a + 1) c hc
        simp only [List.length_cons]; exact ⟨by omega, by omega, h₃⟩

theorem Memory.cells_rising (bs : List Byte) : ∀ a,
    List.Pairwise (fun x y : Host.Cell => x.1 < y.1) (Memory.cells a bs) := by
  induction bs with
  | nil => intro a; simp [Memory.cells]
  | cons b bs ih =>
    intro a
    simp only [Memory.cells]
    split
    · exact ih (a + 1)
    · refine List.pairwise_cons.mpr ⟨?_, ih (a + 1)⟩
      intro c hc
      have := (Memory.cells_range bs (a + 1) c hc).1
      show a < c.1
      omega

/-- Within the written range the cells read as the bytes written. -/
theorem Memory.read_cells (bs : List Byte) : ∀ a i, i < bs.length →
    Memory.read (Memory.cells a bs) (a + i) = bs.getD i 0 := by
  induction bs with
  | nil => intro a i h; simp at h
  | cons b bs ih =>
    intro a i h
    cases i with
    | zero =>
      simp only [Memory.cells]
      split
      · rename_i hb
        rw [Memory.read_unlisted]
        · simpa using hb.symm
        · intro c hc
          have := (Memory.cells_range bs (a + 1) c hc).1
          omega
      · simp [Memory.read]
    | succ i =>
      have h' : i < bs.length := by simpa using h
      have e : a + (i + 1) = a + 1 + i := by omega
      rw [e]
      simp only [Memory.cells]
      split
      · simpa using ih (a + 1) i h'
      · have hne : ¬ (a = a + 1 + i) := by omega
        have := ih (a + 1) i h'
        simp only [Memory.read] at this
        have hb : (a == a + 1 + i) = false := by simpa using hne
        simp only [Memory.read, List.find?_cons, hb]
        simpa using this

/-! ### The canonical form -/

/-- Three parts, each canonical and each above the one before, make a canonical whole. -/
theorem Memory.wf_join (m k n : Memory) (a b : Nat) (hab : a ≤ b) (hm : Memory.wf m) (hk : Memory.wf k) (hn : Memory.wf n)
    (hma : ∀ c ∈ m, c.1 < a) (hka : ∀ c ∈ k, a ≤ c.1 ∧ c.1 < b) (hnb : ∀ c ∈ n, b ≤ c.1) : Memory.wf (m ++ k ++ n) := by
  refine ⟨?_, ?_⟩
  · refine List.pairwise_append.mpr ⟨List.pairwise_append.mpr ⟨hm.1, hk.1, ?_⟩, hn.1, ?_⟩
    · intro x hx y hy
      have := hma x hx; have := (hka y hy).1; omega
    · intro x hx y hy
      have hb := hnb y hy
      rcases List.mem_append.mp hx with hx | hx
      · have := hma x hx; omega
      · have := (hka x hx).2; omega
  · intro c hc
    rcases List.mem_append.mp hc with hc | hc
    · rcases List.mem_append.mp hc with hc | hc
      · exact hm.2 c hc
      · exact hk.2 c hc
    · exact hn.2 c hc

theorem Memory.wf_filter (m : Memory) (p : Host.Cell → Bool) (h : Memory.wf m) : Memory.wf (m.filter p) :=
  ⟨h.1.filter p, fun c hc => h.2 c (List.mem_filter.mp hc).1⟩

theorem Memory.wf_cells (a : Nat) (bs : List Byte) : Memory.wf (Memory.cells a bs) :=
  ⟨Memory.cells_rising bs a, fun c hc => (Memory.cells_range bs a c hc).2.2⟩

theorem Memory.splice_wf (m : Memory) (a : Nat) (bs : List Byte) (h : Memory.wf m) : Memory.wf (m.splice a bs) :=
  Memory.wf_join _ _ _ a (a + bs.length) (by omega) (Memory.wf_filter m _ h) (Memory.wf_cells a bs)
    (Memory.wf_filter m _ h) (Memory.below_lt m a)
    (fun c hc => ⟨(Memory.cells_range bs a c hc).1, (Memory.cells_range bs a c hc).2.1⟩)
    (Memory.above_ge m _)

theorem Memory.write_wf (m : Memory) (a : Nat) (b : Byte) (h : Memory.wf m) : Memory.wf (m.write a b) :=
  Memory.splice_wf m a [b] h

/-- The cells of a fill. -/
theorem Memory.wf_fillCells (a n : Nat) (b : Byte) (hb : b ≠ Memory.blank) :
    Memory.wf ((List.range' a n).map (fun i => (i, b))) := by
  refine ⟨?_, ?_⟩
  · refine List.pairwise_map.mpr ?_
    exact List.pairwise_lt_range'
  · intro c hc
    obtain ⟨i, _, rfl⟩ := List.mem_map.mp hc
    exact hb

theorem Memory.fill_wf (m : Memory) (a n : Nat) (b : Byte) (h : Memory.wf m) : Memory.wf (m.fill a n b) := by
  refine Memory.wf_join _ _ _ a (a + n) (by omega) (Memory.wf_filter m _ h) ?_ (Memory.wf_filter m _ h)
    (Memory.below_lt m a) ?_ (Memory.above_ge m _)
  · split
    · exact ⟨List.Pairwise.nil, by simp⟩
    · rename_i hb; exact Memory.wf_fillCells a n b hb
  · intro c hc
    split at hc
    · simp at hc
    · obtain ⟨i, hi, rfl⟩ := List.mem_map.mp hc
      simpa [List.mem_range'_1] using hi

theorem Memory.writeRun_wf (blocks : List Nat) (bs : List Byte) : ∀ (m : Memory) (k : Nat), Memory.wf m →
    Memory.wf (m.writeRun blocks k bs) := by
  induction bs with
  | nil => intro m k h; exact h
  | cons b bs ih => intro m k h; exact ih _ _ (Memory.write_wf m _ b h)

theorem Memory.setPixel_wf (m : Memory) (blocks : List Nat) (index level : Nat) (h : Memory.wf m) :
    Memory.wf (m.setPixel blocks index level) := Memory.write_wf m _ _ h

theorem Memory.setPixels_wf (blocks : List Nat) (ps : List (Nat × Nat)) : ∀ m : Memory, Memory.wf m →
    Memory.wf (m.setPixels blocks ps) := by
  induction ps with
  | nil => intro m h; exact h
  | cons p ps ih => intro m h; exact ih _ (Memory.setPixel_wf m blocks _ _ h)

theorem Memory.fillBlock_wf (m : Memory) (block level : Nat) (h : Memory.wf m) : Memory.wf (m.fillBlock block level) :=
  Memory.fill_wf m _ _ _ h

theorem State.reset_mem_wf : Memory.wf State.reset.mem := ⟨List.Pairwise.nil, by simp [State.reset]⟩

/-! ### What a byte reads as after a write -/

theorem Memory.read_splice_inside (m : Memory) (a i : Nat) (bs : List Byte) (h : i < bs.length) :
    (m.splice a bs).read (a + i) = bs.getD i 0 := by
  rw [Memory.splice, Memory.read_append_left _ _ _ (fun c hc => by have := Memory.above_ge m _ c hc; omega),
    Memory.read_append_right _ _ _ (fun c hc => by have := Memory.below_lt m _ c hc; omega)]
  exact Memory.read_cells bs a i h

theorem Memory.read_splice_outside (m : Memory) (a x : Nat) (bs : List Byte) (h : x < a ∨ a + bs.length ≤ x) :
    (m.splice a bs).read x = m.read x := by
  rw [Memory.splice]
  rcases h with h | h
  · rw [Memory.read_append_left _ _ _ (fun c hc => by have := Memory.above_ge m _ c hc; omega),
      Memory.read_append_left _ _ _ (fun c hc => by have := (Memory.cells_range bs a c hc).1; omega)]
    exact Memory.read_below m a x h
  · rw [Memory.read_append_right]
    · exact Memory.read_above m _ x h
    · intro c hc
      rcases List.mem_append.mp hc with hc | hc
      · have := Memory.below_lt m _ c hc; omega
      · have := (Memory.cells_range bs a c hc).2.1; omega

theorem Memory.read_write_same (m : Memory) (a : Nat) (b : Byte) : (m.write a b).read a = b := by
  have h := Memory.read_splice_inside m a 0 [b] (by simp)
  exact h

theorem Memory.read_write_other (m : Memory) (a x : Nat) (b : Byte) (h : x ≠ a) : (m.write a b).read x = m.read x :=
  Memory.read_splice_outside m a x [b] (by simp only [List.length_cons, List.length_nil]; omega)

theorem Memory.read_fill_inside (m : Memory) (a n x : Nat) (b : Byte) (h₁ : a ≤ x) (h₂ : x < a + n) :
    (m.fill a n b).read x = b := by
  rw [Memory.fill, Memory.read_append_left _ _ _ (fun c hc => by have := Memory.above_ge m _ c hc; omega),
    Memory.read_append_right _ _ _ (fun c hc => by have := Memory.below_lt m _ c hc; omega)]
  split
  · rename_i hb; rw [Memory.read_nil, hb]
  · have hx : (x, b) ∈ (List.range' a n).map (fun i => (i, b)) :=
      List.mem_map.mpr ⟨x, List.mem_range'_1.mpr ⟨h₁, h₂⟩, rfl⟩
    simp only [Memory.read]
    split
    · rename_i c hc
      obtain ⟨i, _, hi⟩ := List.mem_map.mp (List.mem_of_find?_eq_some hc)
      rw [← hi]
    · rename_i hn
      have := List.find?_eq_none.mp hn _ hx
      simp at this

theorem Memory.read_fill_outside (m : Memory) (a n x : Nat) (b : Byte) (h : x < a ∨ a + n ≤ x) :
    (m.fill a n b).read x = m.read x := by
  have hmid : ∀ c ∈ (if b = Memory.blank then [] else (List.range' a n).map (fun i => (i, b)) : Memory),
      a ≤ c.1 ∧ c.1 < a + n := by
    intro c hc
    split at hc
    · simp at hc
    · obtain ⟨i, hi, rfl⟩ := List.mem_map.mp hc
      simpa [List.mem_range'_1] using hi
  rw [Memory.fill]
  rcases h with h | h
  · rw [Memory.read_append_left _ _ _ (fun c hc => by have := Memory.above_ge m _ c hc; omega),
      Memory.read_append_left _ _ _ (fun c hc => by have := (hmid c hc).1; omega)]
    exact Memory.read_below m a x h
  · rw [Memory.read_append_right]
    · exact Memory.read_above m _ x h
    · intro c hc
      rcases List.mem_append.mp hc with hc | hc
      · have := Memory.below_lt m _ c hc; omega
      · have := (hmid c hc).2; omega

/-- A run changes no byte but those of its addresses. -/
theorem Memory.read_writeRun_other (blocks : List Nat) (bs : List Byte) : ∀ (m : Memory) (k x : Nat),
    (∀ i, i < bs.length → x ≠ imageAddr blocks (k + i)) → (m.writeRun blocks k bs).read x = m.read x := by
  induction bs with
  | nil => intro m k x _; rfl
  | cons b bs ih =>
    intro m k x h
    have h0 : x ≠ imageAddr blocks k := by simpa using h 0 (by simp)
    rw [Memory.writeRun, ih _ (k + 1) x, Memory.read_write_other _ _ _ _ h0]
    intro i hi
    have := h (i + 1) (by simpa using hi)
    rwa [show k + (i + 1) = k + 1 + i by omega] at this

/-- Setting pixels changes no byte but those that hold one of them. -/
theorem Memory.read_setPixels_other (blocks : List Nat) (ps : List (Nat × Nat)) : ∀ (m : Memory) (x : Nat),
    (∀ p ∈ ps, x ≠ imageAddr blocks (p.1 / 2)) → (m.setPixels blocks ps).read x = m.read x := by
  induction ps with
  | nil => intro m x _; rfl
  | cons p ps ih =>
    intro m x h
    rw [Memory.setPixels, ih _ x (fun q hq => h q (List.mem_cons_of_mem _ hq)), Memory.setPixel,
      Memory.read_write_other _ _ _ _ (h p List.mem_cons_self)]

/-! ### Pixels -/

theorem pixelOf_withPixel_same (b : Byte) (index level : Nat) : pixelOf (withPixel b index level) index = level % 16 := by
  have hb : b.toNat < 256 := b.isLt
  simp only [pixelOf, withPixel]
  split
  · simp only [BitVec.toNat_ofNat]; omega
  · simp only [BitVec.toNat_ofNat]; omega

theorem pixelOf_withPixel_other (b : Byte) (index other level : Nat) (h : index % 2 ≠ other % 2) :
    pixelOf (withPixel b index level) other = pixelOf b other := by
  have hb : b.toNat < 256 := b.isLt
  simp only [pixelOf, withPixel]
  split <;> split <;> first | omega | (simp only [BitVec.toNat_ofNat]; omega)

end Sys2Proof.Machine
end

