-- ==== Sys2Proof/Laws/Queue.lean ====
section
/-! SUPPORT. The message queue's bounds through the operations that queue entries (R184). -/

namespace Sys2Proof.Machine

theorem reportCount_append (p q : List Entry) : reportCount (p ++ q) = reportCount p + reportCount q := by
  simp [reportCount]

theorem reportCount_report (r : Report) : reportCount [.report r] = 1 := rfl

theorem reportCount_reply (r : Reply) : reportCount [.reply r] = 0 := rfl

/-- The bounds with a reserved place counted in: what holds between the reservation and the reply. -/
def LinkState.bounded (l : LinkState) : Prop :=
  l.queue.length + (if l.reserved then 1 else 0) ≤ Config.queueSize ∧ reportCount l.queue ≤ Config.maxReports

/-- A report keeps the bounds and the reservation. -/
theorem raise_bounded (r : Report) (s : State) (h : s.link.bounded) :
    (raise r s).link.bounded ∧ (raise r s).link.reserved = s.link.reserved := by
  by_cases hm : s.power.mode = .standby
  · rw [raise_standby r s hm]; exact ⟨h, rfl⟩
  · cases hr : s.link.roomForReport with
    | false => rw [raise_drops r s hm hr]; exact ⟨h, rfl⟩
    | true =>
      rw [raise_joins r s hm hr]
      simp only [LinkState.roomForReport, Bool.and_eq_true, decide_eq_true_eq] at hr
      refine ⟨⟨?_, ?_⟩, rfl⟩
      · show (s.link.queue ++ [Entry.report r]).length + (if s.link.reserved then 1 else 0) ≤ Config.queueSize
        rw [List.length_append]; simp only [List.length_cons, List.length_nil]; omega
      · show reportCount (s.link.queue ++ [Entry.report r]) ≤ Config.maxReports
        rw [reportCount_append, reportCount_report]; omega

theorem raiseAll_bounded (rs : List Report) : ∀ s : State, s.link.bounded →
    (raiseAll rs s).link.bounded ∧ (raiseAll rs s).link.reserved = s.link.reserved := by
  induction rs with
  | nil => intro s h; exact ⟨h, rfl⟩
  | cons r rs ih =>
    intro s h
    obtain ⟨h₁, h₂⟩ := raise_bounded r s h
    obtain ⟨h₃, h₄⟩ := ih (raise r s) h₁
    exact ⟨h₃, h₄.trans h₂⟩

/-- A reply from a reserved place keeps the bounds and gives the place up. -/
theorem replyWith_bounded (code tag : Nat) (st : Status) (x : ReplyState) (s : State) (h : s.link.bounded)
    (hr : s.link.reserved = true) :
    (replyWith code tag st x s).link.bounded ∧ (replyWith code tag st x s).link.reserved = false := by
  obtain ⟨h₁, h₂⟩ := h
  rw [hr] at h₁
  refine ⟨⟨?_, ?_⟩, rfl⟩
  · show (s.link.queue ++ [Entry.reply ⟨code, tag, st, x⟩]).length + 0 ≤ Config.queueSize
    rw [List.length_append]; simpa using h₁
  · show reportCount (s.link.queue ++ [Entry.reply ⟨code, tag, st, x⟩]) ≤ Config.maxReports
    rw [reportCount_append, reportCount_reply]; simpa using h₂

/-- The place of a reply is held only where the bounds leave one. -/
theorem placed_bounded (i : Instr) (s : State) (h : s.link.bounded) (hr : s.link.reserved = false)
    (hroom : s.link.roomForReply = true) : (s.placed i).link.bounded := by
  simp only [LinkState.roomForReply, decide_eq_true_eq, hr] at hroom
  refine ⟨?_, h.2⟩
  show s.link.queue.length + 1 ≤ Config.queueSize
  have : s.link.queue.length + 0 < Config.queueSize := by simpa using hroom
  omega

end Sys2Proof.Machine
end

