-- ==== Sys2Proof/Laws/Records.lean ====
section
/-! SUPPORT. What the operand forms can do: records of a fixed set, clamping, the leaves beside a leaf. -/

namespace Sys2Proof.Machine

/-! ### Records -/

theorem recordAt_withRecord_same {α : Type} {n : Nat} (v : Vector α n) (i : Nat) (f : α → α) (empty : α) (h : i < n) :
    recordAt (withRecord v i f) i empty = f (recordAt v i empty) := by
  simp [recordAt, withRecord, h]

theorem recordAt_withRecord_other {α : Type} {n : Nat} (v : Vector α n) (i j : Nat) (f : α → α) (empty : α) (h : j ≠ i) :
    recordAt (withRecord v i f) j empty = recordAt v j empty := by
  unfold recordAt withRecord
  split
  · rw [Vector.getElem?_set_ne _ (Ne.symm h)]
  · rfl

theorem recordAt_beyond {α : Type} {n : Nat} (v : Vector α n) (i : Nat) (empty : α) (h : n ≤ i) :
    recordAt v i empty = empty := by
  simp [recordAt, h]

theorem withRecord_beyond {α : Type} {n : Nat} (v : Vector α n) (i : Nat) (f : α → α) (h : n ≤ i) :
    withRecord v i f = v := by
  simp [withRecord, Nat.not_lt.mpr h]

/-- Every record named by a number is a member, and every member is named. -/
theorem mem_iff_recordAt {α : Type} {n : Nat} (v : Vector α n) (x empty : α) :
    x ∈ v.toList ↔ ∃ i, i < n ∧ recordAt v i empty = x := by
  constructor
  · intro h
    obtain ⟨i, hi, he⟩ := List.mem_iff_getElem.mp h
    have hi' : i < n := by simpa using hi
    exact ⟨i, hi', by simpa [recordAt, hi'] using he⟩
  · rintro ⟨i, hi, rfl⟩
    refine List.mem_iff_getElem.mpr ⟨i, by simpa using hi, ?_⟩
    simp [recordAt, hi]

/-! ### Clamping -/

theorem clampNat_le (lo hi v : Nat) (h : lo ≤ hi) : clampNat lo hi v ≤ hi := by
  unfold clampNat; omega

theorem le_clampNat (lo hi v : Nat) : lo ≤ clampNat lo hi v := by
  unfold clampNat; omega

theorem clampNat_inside (lo hi v : Nat) (h₁ : lo ≤ v) (h₂ : v ≤ hi) : clampNat lo hi v = v := by
  unfold clampNat; omega

theorem clampInt_bounds (lo hi v : Int) (h : lo ≤ hi) : lo ≤ clampInt lo hi v ∧ clampInt lo hi v ≤ hi := by
  unfold clampInt; omega

@[simp] theorem givenOr_none (old : Nat) (f : Nat → Nat) : givenOr old f none = old := rfl

@[simp] theorem givenOr_some (old : Nat) (f : Nat → Nat) (x : Nat) : givenOr old f (some x) = f x := rfl

/-! ### Rectangles -/

theorem rectOverlaps_comm (a b : Rect) : rectOverlaps a b = rectOverlaps b a := by
  rw [Bool.eq_iff_iff]
  simp only [rectOverlaps, Bool.and_eq_true, decide_eq_true_eq]
  omega

/-- A rectangle inside one that lies apart from a third lies apart from it too. -/
theorem rectOverlaps_of_contains (a b c : Rect) (h : rectContains a b = true) (ho : rectOverlaps b c = true) :
    rectOverlaps a c = true := by
  simp only [rectOverlaps, rectContains, Bool.and_eq_true, decide_eq_true_eq] at *
  omega

theorem rectContains_refl (a : Rect) : rectContains a a = true := by
  simp [rectContains]

/-! ### Planes -/

theorem planeSize_none : planeSize none = 0 := rfl

theorem mem_shownBlocks (g : Option PanelArgs) (b : Nat) : b ∈ shownBlocks g ↔ b < planeSize g := by
  simp [shownBlocks]

theorem mem_targetBlocks (g : Option PanelArgs) (b : Nat) :
    b ∈ targetBlocks g ↔ planeSize g ≤ b ∧ b < 2 * planeSize g := by
  simp only [targetBlocks, List.mem_range'_1]; omega

/-! ### The leaves beside a leaf -/

theorem stepLeaf_le (n m : Nat) (d : TurnDir) (hn : n ≤ Config.maxLeaf) (h : stepLeaf n d = some m) : m ≤ Config.maxLeaf := by
  cases d with
  | next =>
    simp only [stepLeaf] at h
    split at h
    · rename_i hm; cases h; exact hm
    · cases h
  | prev =>
    simp only [stepLeaf] at h
    split at h
    · cases h; omega
    · cases h

end Sys2Proof.Machine
end

