-- ==== Sys2Proof/Tests/Slice0.lean ====
section
/-! SUPPORT. The model's own tests: ill-formed commands, the worked values of the spec, and for every statement states that meet the
hypotheses of its clauses, at the ends of their ranges. -/

namespace Sys2Proof.Tests

set_option Elab.async false

open Sys2Proof Sys2Proof.Machine

/-! ### Small states -/

/-- The state a row leaves. -/
def after (i : Instr) (s : State) : State :=
  match exec i s with
  | .next t => t
  | .fault _ => s
  | .refused _ => s

/-- The state rows leave one after another. -/
def afterAll (is : List Instr) (s : State) : State := is.foldl (fun s i => after i s) s

/-- A queue of `n` replies and `m` reports. -/
def crowd (n m : Nat) (s : State) : State :=
  s.onLink (fun l => { l with
    queue := List.replicate n (.reply (plainReply 0xB0 0 .ok)) ++ List.replicate m (.report .radioWake) })

/-- A panel of 64 x 64 pixels: planes of one block each. -/
def panel : State := after (.panelSetup 1 (.fields ⟨64, 64⟩)) State.reset

/-- A VALID partial slot with the full partner 1. -/
def partialSlot : Slot := { state := .valid, partner := some 1, lower := -100, uppers := [200, 500], frames := [3, 2] }

/-- A VALID full slot. -/
def fullSlot : Slot := { state := .valid, kind := .fullOnly, lower := -100, uppers := [500], frames := [255] }

/-- The panel with certain ground, the slots 0 and 1, and a temperature. -/
def stocked : State :=
  { panel with
    engine := { panel.engine with uncertain := [], whole := false }
    wave := { panel.wave with
      slots := withRecord (withRecord panel.wave.slots 0 (fun _ => partialSlot)) 1 (fun _ => fullSlot)
      filtered := some 210
      samples := 1 } }

/-- A host update of a corner with slot 0. -/
def corner : UpdateArgs := ⟨⟨0, 0, 2, 2⟩, 0, .changed, .target, false, none⟩

def preparing : State := after (.update 7 (.fields corner)) stocked
def armed : State := after (.preparingEnd 0) preparing
def driving : State := after .powerGoodArrive { armed with engine := { armed.engine with
  lanes := withRecord armed.engine.lanes 0 (fun l => { l with frames := 3 }) } }
def lastFrame : State := after .frameEvent driving
def held : State := after .frameEvent lastFrame
def falling : State := after .holdTimerExpire held
def faulted : State := after .riseTimerExpire armed
def dozing : State := after (.doze 1 (.fields none)) State.reset
def asleep : State := after (.sleep 1 (.fields ())) State.reset
def settling : State := after (.sleep 1 (.fields ())) preparing
def waking : State := afterAll [.chipSelectAssert, .selfRefreshEntered] asleep

/-- Leaf 5 FILLING. -/
def filling : State := after (.leafFill 1 (.fields ⟨5, 15, some 0, none⟩)) stocked
/-- Leaf 5 READY. -/
def bound : State := after (.leafClose 1 (.fields 5)) filling
/-- Leaf 5 shown and leaf 6 READY. -/
def reading : State :=
  afterAll [.showLeafDeclare 1 ⟨5, none, none⟩, .leafFill 1 (.fields ⟨6, 0, some 0, some .last⟩), .leafClose 1 (.fields 6)] bound

/-- A stream of id 1 with one segment of 5 bytes. -/
def opened : State :=
  afterAll [.radioSetup 1 (.fields ⟨true, .b115200, 20, true⟩),
    .streamOpen 1 (.fields ⟨1, 0, 1, 0, 5, [⟨some 5, none, none, .notify⟩]⟩)] State.reset

/-- The characters of a DATA frame of id 1. -/
def frameOf (sequence : Nat) (payload : List Byte) : List FifoEntry :=
  let head : List Byte := [1, BitVec.ofNat 8 (sequence / 256), BitVec.ofNat 8 sequence, BitVec.ofNat 8 payload.length]
  let crc := (head ++ payload).foldl crc16Byte crc16Start
  .char true 0x5A :: (head ++ payload ++ [BitVec.ofNat 8 (crc.toNat / 256), BitVec.ofNat 8 crc.toNat]).map (.char false)

/-- The frame's characters in the FIFO, all taken. -/
def received (sequence : Nat) (payload : List Byte) (s : State) : State :=
  afterAll (List.replicate (payload.length + 7) .fifoTake) (s.onRadio (fun r => r.setFifo (frameOf sequence payload)))

/-- Two bytes accepted, their write in flight. -/
def writing : State := received 0 [0x11, 0x22] opened
def running : State := after .payloadWriteDone writing

/-- Key 0 with action `a`, enabled, armed and released. -/
def keyed (a : KeyAction) (s : State) : State :=
  afterAll [.keySetup 1 (.fields ⟨0, { enabled := true, mode := .level, hold := 2, action := a, wakeEnable := true }⟩),
    .debounceExpire 0] s
/-- Key 0 pressed. -/
def pressed (a : KeyAction) (s : State) : State := afterAll [.keyInputChange 0 .low, .debounceExpire 0] (keyed a s)
/-- SETTLING asked for by a key. -/
def keySettling : State := pressed .sleep preparing
/-- Woken by a break on the radio line. -/
def radioWaking : State := afterAll [.sleep 1 (.fields ()), .radioBreakWake] opened

/-- A light unit is sound or not, by computation. -/
def decideSound (l : LightState) : Decidable l.sound := by
  unfold LightState.sound; infer_instance

/-- A state is coherent or not, by computation. -/
def decideCoherent (s : State) : Decidable s.coherent := by
  have := decideSound s.light
  unfold State.coherent; infer_instance

theorem coherent_of (s : State) (h : @decide s.coherent (decideCoherent s) = true) : s.coherent :=
  @of_decide_eq_true _ (decideCoherent s) h

/-! ### Ill-formed commands are refused by the check -/

theorem test_illFormed_setup :
    Instr.wellFormed (.panelSetup 256 (.fields ⟨64, 64⟩)) = false ∧
    Instr.wellFormed (.panelSetup 1 (.fields ⟨65536, 64⟩)) = false ∧
    Instr.wellFormed (.panelSetup 1 (.fields ⟨64, 65536⟩)) = false ∧
    Instr.wellFormed (.poolSetup 1 (.fields 65536)) = false ∧
    Instr.wellFormed (.tempSetup 1 (.fields ⟨256, 0⟩)) = false ∧
    Instr.wellFormed (.tempSetup 1 (.fields ⟨1, 256⟩)) = false ∧
    Instr.wellFormed (.scanSetup 1 (.fields 65536)) = false ∧
    Instr.wellFormed (.railSetup 1 (.fields ⟨65536, 1, 1⟩)) = false ∧
    Instr.wellFormed (.railSetup 1 (.fields ⟨1, 65536, 1⟩)) = false ∧
    Instr.wellFormed (.railSetup 1 (.fields ⟨1, 1, 256⟩)) = false ∧
    Instr.wellFormed (.budgetSetup 1 (.fields ⟨65536, 1, 1, 1⟩)) = false ∧
    Instr.wellFormed (.budgetSetup 1 (.fields ⟨1, 65536, 1, 1⟩)) = false ∧
    Instr.wellFormed (.budgetSetup 1 (.fields ⟨1, 1, 65536, 1⟩)) = false ∧
    Instr.wellFormed (.budgetSetup 1 (.fields ⟨1, 1, 1, 65536⟩)) = false ∧
    Instr.wellFormed (.linkSetup 1 (.fields 65536)) = false := by decide

theorem test_illFormed_waveform :
    Instr.wellFormed (.waveLoad 1 (.fields ⟨256, .fullOnly, none, 1, 0, [1], [1]⟩)) = false ∧
    Instr.wellFormed (.waveLoad 1 (.fields ⟨0, .fullOnly, some 256, 1, 0, [1], [1]⟩)) = false ∧
    Instr.wellFormed (.waveLoad 1 (.fields ⟨0, .fullOnly, none, 256, 0, [1], [1]⟩)) = false ∧
    Instr.wellFormed (.waveLoad 1 (.fields ⟨0, .fullOnly, none, 1, -32769, [1], [1]⟩)) = false ∧
    Instr.wellFormed (.waveLoad 1 (.fields ⟨0, .fullOnly, none, 1, 0, [32768], [1]⟩)) = false ∧
    Instr.wellFormed (.waveLoad 1 (.fields ⟨0, .fullOnly, none, 1, 0, [1], [256]⟩)) = false ∧
    Instr.wellFormed (.waveDrop 1 (.fields 256)) = false ∧
    Instr.wellFormed (.table (List.replicate 4097 0)) = false := by decide +kernel

theorem test_illFormed_updates :
    Instr.wellFormed (.update 1 (.fields { corner with rect := ⟨65536, 0, 1, 1⟩ })) = false ∧
    Instr.wellFormed (.update 1 (.fields { corner with rect := ⟨0, 65536, 1, 1⟩ })) = false ∧
    Instr.wellFormed (.update 1 (.fields { corner with rect := ⟨0, 0, 65536, 1⟩ })) = false ∧
    Instr.wellFormed (.update 1 (.fields { corner with rect := ⟨0, 0, 1, 65536⟩ })) = false ∧
    Instr.wellFormed (.update 1 (.fields { corner with slot := 256 })) = false ∧
    Instr.wellFormed (.update 1 (.fields { corner with source := .leaf 16777216 })) = false ∧
    Instr.wellFormed (.update 1 (.fields { corner with shows := some 16777216 })) = false ∧
    Instr.wellFormed (.tileTarget (.tile 1 ⟨0, 0, 1, 1⟩ [0])) = false ∧
    Instr.wellFormed (.tileTarget (.tile 256 ⟨0, 0, 1, 1⟩ [0])) = false ∧
    Instr.wellFormed (.tileLeaf 16777216 ⟨0, 0, 1, 1⟩ [0]) = false ∧
    Instr.wellFormed (.tileLeaf 1 ⟨0, 0, 1, 1⟩ (List.replicate 4085 0)) = false ∧
    Instr.wellFormed (.preparingEnd 8) = false := by decide +kernel

theorem test_illFormed_leaves :
    Instr.wellFormed (.leafFill 1 (.fields ⟨16777216, 0, none, none⟩)) = false ∧
    Instr.wellFormed (.leafFill 1 (.fields ⟨0, 256, none, none⟩)) = false ∧
    Instr.wellFormed (.leafFill 1 (.fields ⟨0, 0, some 256, none⟩)) = false ∧
    Instr.wellFormed (.leafClose 1 (.fields 16777216)) = false ∧
    Instr.wellFormed (.leafDrop 1 (.fields 16777216)) = false ∧
    Instr.wellFormed (.showLeaf 1 (.fields ⟨16777216, none, none⟩)) = false ∧
    Instr.wellFormed (.showLeafDeclare 1 ⟨0, some 256, none⟩) = false ∧
    Instr.wellFormed (.cacheSetup 1 (.fields ⟨256, 1, 1, none, none⟩)) = false ∧
    Instr.wellFormed (.cacheSetup 1 (.fields ⟨1, 256, 1, none, none⟩)) = false ∧
    Instr.wellFormed (.cacheSetup 1 (.fields ⟨1, 1, 256, none, none⟩)) = false ∧
    Instr.wellFormed (.cacheSetup 1 (.fields ⟨1, 1, 1, some 255, none⟩)) = false ∧
    Instr.wellFormed (.cacheSetup 1 (.fields ⟨1, 1, 1, none, some 255⟩)) = false := by decide

theorem test_illFormed_keysAndLight :
    Instr.wellFormed (.keySetup 1 (.fields ⟨256, {}⟩)) = false ∧
    Instr.wellFormed (.keySetup 1 (.fields ⟨0, { debounce := 65536 }⟩)) = false ∧
    Instr.wellFormed (.keySetup 1 (.fields ⟨0, { hold := 256 }⟩)) = false ∧
    Instr.wellFormed (.keySetup 1 (.fields ⟨0, { period := 256 }⟩)) = false ∧
    Instr.wellFormed (.keySetup 1 (.fields ⟨0, { lightStep := 256 }⟩)) = false ∧
    Instr.wellFormed (.keyInputChange 6 .low) = false ∧
    Instr.wellFormed (.debounceExpire 6) = false ∧
    Instr.wellFormed (.keyHoldExpire 6) = false ∧
    Instr.wellFormed (.keyRepeatExpire 6) = false ∧
    Instr.wellFormed (.lightCurve 1 (.fields [65536])) = false ∧
    Instr.wellFormed (.lightCurve 1 (.fields (List.replicate 256 0))) = false ∧
    Instr.wellFormed (.lightSet 1 (.fields ⟨some 256, none⟩)) = false ∧
    Instr.wellFormed (.lightSet 1 (.fields ⟨none, some 256⟩)) = false ∧
    Instr.wellFormed (.lightSetup 1 (.fields ⟨65536, 0, 0, none, none, none⟩)) = false ∧
    Instr.wellFormed (.lightSetup 1 (.fields ⟨0, 256, 0, none, none, none⟩)) = false ∧
    Instr.wellFormed (.lightSetup 1 (.fields ⟨0, 0, 65536, none, none, none⟩)) = false ∧
    Instr.wellFormed (.lightSetup 1 (.fields ⟨0, 0, 0, some 65536, none, none⟩)) = false ∧
    Instr.wellFormed (.lightSetup 1 (.fields ⟨0, 0, 0, none, some 65536, none⟩)) = false ∧
    Instr.wellFormed (.lightSetup 1 (.fields ⟨0, 0, 0, none, none, some 65536⟩)) = false := by decide +kernel

theorem test_illFormed_streams :
    Instr.wellFormed (.radioSetup 1 (.fields ⟨true, .b115200, 65536, false⟩)) = false ∧
    Instr.wellFormed (.streamOpen 1 (.fields ⟨256, 0, 0, 0, 0, []⟩)) = false ∧
    Instr.wellFormed (.streamOpen 1 (.fields ⟨1, 65536, 0, 0, 0, []⟩)) = false ∧
    Instr.wellFormed (.streamOpen 1 (.fields ⟨1, 0, 65536, 0, 0, []⟩)) = false ∧
    Instr.wellFormed (.streamOpen 1 (.fields ⟨1, 0, 0, 65536, 0, []⟩)) = false ∧
    Instr.wellFormed (.streamOpen 1 (.fields ⟨1, 0, 0, 0, 256, []⟩)) = false ∧
    Instr.wellFormed (.segmentAdd 1 (.fields ⟨1, [⟨some 4294967296, none, none, .notify⟩]⟩)) = false ∧
    Instr.wellFormed (.segmentAdd 1 (.fields ⟨1, [⟨none, none, some ⟨List.replicate 9 0, []⟩, .notify⟩]⟩)) = false ∧
    Instr.wellFormed (.segmentAdd 1 (.fields ⟨1, [⟨none, none, some ⟨[], List.replicate 9 0⟩, .notify⟩]⟩)) = false ∧
    Instr.wellFormed (.streamPause 1 (.fields 256)) = false ∧
    Instr.wellFormed (.streamResume 1 (.fields ⟨1, some 65536⟩)) = false ∧
    Instr.wellFormed (.streamClose 1 (.fields 256)) = false ∧
    Instr.wellFormed (.streamQuery 1 (.fields 256)) = false ∧
    Instr.wellFormed (.drainSelect 1 (.fields 256)) = false ∧
    Instr.wellFormed (.stallTimerExpire 4) = false := by decide +kernel

theorem test_illFormed_link :
    Instr.wellFormed (.doze 1 (.fields (some 256))) = false ∧
    Instr.wellFormed (.wakeMask 1 (.fields [256])) = false ∧
    Instr.wellFormed (.wakeMask 1 (.fields (List.replicate 256 1))) = false ∧
    Instr.wellFormed (.status 256 (.fields ())) = false ∧
    Instr.wellFormed (.unknownCommand (.code 0x10 1)) = false ∧
    Instr.wellFormed (.unknownCommand (.code 256 1)) = false ∧
    Instr.wellFormed (.unknownCommand (.code 0x12 256)) = false ∧
    Instr.wellFormed (.unknownPacketKind 1) = false ∧
    Instr.wellFormed (.unknownPacketKind 256) = false := by decide +kernel

/-- Well-formed commands of the same shapes pass. -/
theorem test_wellFormed_passes :
    Instr.wellFormed (.panelSetup 255 (.fields ⟨65535, 64⟩)) = true ∧
    Instr.wellFormed (.update 1 (.fields corner)) = true ∧
    Instr.wellFormed (.waveLoad 1 (.fields ⟨9, .fullOnly, none, 1, -32768, [32767], [255]⟩)) = true ∧
    Instr.wellFormed (.segmentAdd 1 (.fields ⟨1, [⟨some 4294967295, none, some ⟨List.replicate 8 0, []⟩, .halt⟩]⟩)) = true ∧
    Instr.wellFormed (.unknownPacketKind 0) = true ∧ Instr.wellFormed (.preparingEnd 7) = true := by decide +kernel

/-! ### Decoding and the queue -/

/-- A COMMAND body of PANEL_SETUP: code 0x10, tag, W and H low byte first (R190, R191). -/
theorem test_decode_panelSetup :
    decodePacket 1 [0x10, 0x05, 0x40, 0x00, 0x80, 0x00] = .panelSetup 5 (.fields ⟨64, 128⟩) := by decide +kernel

/-- No row of the table gives bits. -/
theorem test_decodeTableWord_none : decodeTableWord 16 0x1005 = none := rfl

theorem test_step_takes_the_front :
    step { State.reset with pending := [.breakEnd, .frameEvent] } = .next { State.reset with pending := [.frameEvent] } := rfl

/-! ### Worked values of the spec -/

theorem test_crc16_check : ("123456789".toList.map (fun c => BitVec.ofNat 8 c.toNat)).foldl crc16Byte crc16Start = 0x29B1 := by
  decide +kernel

theorem test_crc32_check :
    crc32Finish (("123456789".toList.map (fun c => BitVec.ofNat 8 c.toNat)).foldl crc32Byte crc32Start) = 0xCBF43926 := by
  decide +kernel

/-! ### The hypotheses of the statements are met: packets and the message queue -/

theorem test_meets_FaultyCommandBodies :
    (crowd 31 0 State.reset).serves ∧ commandOf (.panelSetup 5 .badParam) = some (0x10, 5, some (plainReply 0x10 5 .badParam)) ∧
    commandOf (.sleep 5 .badLength) = some (0xA1, 5, some (plainReply 0xA1 5 .badLength)) := by
  unfold State.serves; decide +kernel

theorem test_meets_PacketsAreTaken :
    isPacketRow (.table []) = true ∧ asleep.power.mode = .standby ∧ waking.power.mode = .waking ∧
    (commandOf (.status 1 (.fields ()))).isSome = true ∧ isEngineReset (.status 1 (.fields ())) = false ∧
    isEngineReset (.unknownCommand .short) = false ∧
    servingMode (crowd 32 0 State.reset).power.mode = true ∧ (crowd 32 0 State.reset).link.roomForReply = false ∧
    State.reset.pending = [] ∧ State.reset.link.buffer = [] ∧
    (afterAll [.chipSelectAssert, .write [3, 0, 0]] State.reset).link.buffer = [⟨3, []⟩] ∧
    servingMode asleep.power.mode = false := by decide +kernel

theorem test_meets_ReportsQueueOrOverflow :
    (reportCount (crowd 4 27 State.reset).link.queue < 28 ∧ (crowd 4 27 State.reset).link.queue.length + 0 < 32 ∧
      (crowd 4 27 State.reset).link.reserved = false) ∧
    28 ≤ reportCount (crowd 0 28 State.reset).link.queue ∧ 32 ≤ (crowd 5 27 State.reset).link.queue.length ∧
    asleep.power.mode = .standby ∧ servingMode State.reset.power.mode = true ∧
    tileCheck .short State.reset = some .badLength ∧
    leafTileCheck 5 ⟨0, 0, 1, 1⟩ [0] State.reset = some .state ∧ State.reset.wave.load = none := by decide +kernel

theorem test_meets_TableTooLong :
    (after (.waveLoad 1 (.fields ⟨2, .fullOnly, none, 1, 0, [1], [1]⟩)) State.reset).wave.load = some ⟨2, 64, 0, false⟩ ∧
    64 < 0 + (List.replicate 65 (0 : Byte)).length := by decide +kernel

theorem test_meets_QueriesReply :
    (crowd 31 0 opened).serves ∧ opened.stream.named 1 = some 0 ∧ opened.stream.named 254 = none := by
  unfold State.serves; decide +kernel

theorem test_meets_SettingsCommands :
    (crowd 31 0 panel).serves ∧ panel.link.locked = false ∧ cacheGood ⟨8, 63, 4, some 5, none⟩ = true ∧
    cacheGood ⟨1, 1, 0, none, some 0⟩ = true ∧ panel.pool.geometry.isSome = true ∧ State.reset.pool.geometry = none ∧
    (opened.stream.find 1).isSome = true ∧ opened.stream.find 254 = none ∧
    (after (.setupEnd 1 (.fields ())) panel).serves ∧ (after (.setupEnd 1 (.fields ())) panel).link.locked = true := by
  unfold State.serves; decide +kernel

/-! ### Power states and the link -/

theorem test_meets_DozeAndWakeMask :
    State.reset.serves ∧ State.reset.power.mode = .active ∧ dozing.serves ∧ dozing.power.mode = .doze ∧
    settling.serves ∧ settling.power.mode = .settling ∧ (∀ k ∈ [1, 28], 1 ≤ k ∧ k ≤ 28) := by
  unfold State.serves; decide +kernel

theorem test_meets_SleepRequests :
    preparing.serves ∧ preparing.power.mode = .active ∧ dozing.serves ∧ dozing.power.mode = .doze ∧
    settling.serves ∧ settling.power.mode = .settling ∧
    (after (.chipSelectRelease true) (crowd 0 0 dozing)).power.mode = .doze ∧
    (after (.doze 1 (.fields (some 255))) dozing).power.timer.isSome = true := by
  unfold State.serves; decide +kernel

theorem test_meets_LinkAndRadioWake :
    (after .chipSelectAssert State.reset).link.transaction = .begun ∧ State.reset.link.transaction = .none ∧
    settling.power.mode = .settling ∧ settling.power.hostAsked = true ∧ settling.link.transaction = .none ∧
    dozing.power.mode = .doze ∧ dozing.link.transaction = .none ∧
    keySettling.power.mode = .settling ∧ keySettling.power.hostAsked = false ∧ keySettling.link.transaction = .none ∧
    asleep.power.mode = .standby ∧ asleep.link.transaction = .none ∧ asleep.pool.refresh = .entering ∧
    asleep.link.roomForReport = true ∧ (after .selfRefreshEntered asleep).pool.refresh ≠ .entering ∧
    radioWaking.power.mode = .waking ∧ radioWaking.power.linkDuringWake = false ∧ radioWaking.link.transaction = .none ∧
    (after (.sleep 1 (.fields ())) opened).power.mode = .standby ∧
    (after (.sleep 1 (.fields ())) opened).radio.watching = true := by decide +kernel

theorem test_meets_WakingCompletes :
    (∀ r ∈ asleep.stream.records.toList, r.flight = none) ∧ asleep.pool.refresh = .entering ∧
    (after .chipSelectAssert asleep).pool.refresh = .enteringWakeAsked ∧ State.reset.pool.refresh = .awake ∧
    (∃ r ∈ writing.stream.records.toList, r.flight ≠ none) ∧ waking.power.mode = .waking ∧
    waking.pool.refresh = .leaving ∧ waking.power.wakeEnd = some .active ∧ waking.keys.latch = none := by decide +kernel

theorem test_meets_Writes :
    (after .chipSelectAssert State.reset).link.transaction = .begun ∧
    (afterAll [.chipSelectAssert, .write [1]] State.reset).link.transaction = .writing [1] ∧
    (0 : Byte).toNat + 256 * (0x10 : Byte).toNat = (List.replicate 4096 (0 : Byte)).length ∧
    4096 < (1 : Byte).toNat + 256 * (0x10 : Byte).toNat ∧
    (afterAll [.chipSelectAssert, .write [1]] State.reset).link.stall = some 8 ∧
    ((List.replicate 4 [Instr.chipSelectAssert, .write [3, 0, 0], .chipSelectRelease true]).flatten.foldl
      (fun s i => after i s) State.reset).link.buffer.length = 4 := by decide +kernel

theorem test_meets_Reads :
    (after .chipSelectAssert State.reset).link.transaction = .begun ∧
    (after .chipSelectAssert asleep).link.transaction = .unserved ∧ State.reset.link.transaction = .none ∧
    State.reset.link.selection = none ∧ (after (.drainSelect 1 (.fields 1)) running).link.selection = some 1 ∧
    running.stream.find 1 = some 0 ∧
    ((running.record 0).segments.find? (fun g => g.drained < g.accepted)).map Segment.accepted = some 2 ∧
    (after (.streamClose 1 (.fields 1)) (after (.drainSelect 1 (.fields 1)) running)).stream.find 1 = none := by
  decide +kernel

theorem test_meets_ReadOut :
    (afterAll [.chipSelectAssert, .readMessage] State.reset).link.transaction =
      .readMessage (some (.report (.resetDone .powerOn), true)) ∧
    ((afterAll [.status 1 (.fields ()), .chipSelectAssert, .readMessage, .chipSelectRelease true, .chipSelectAssert,
      .readMessage] State.reset).link.transaction ≠ .readMessage none) ∧
    (afterAll [.chipSelectAssert, .readMessage] (crowd 0 0 State.reset)).link.transaction = .readMessage none ∧
    (match (afterAll [.chipSelectAssert, .readDrain] State.reset).link.transaction with
      | .readDrain c => c.record.isNone
      | _ => false) = true := by decide +kernel

theorem test_meets_DrainedChunk :
    (afterAll [.drainSelect 1 (.fields 1), .chipSelectAssert, .readDrain] running).coherent ∧
    (match (afterAll [.drainSelect 1 (.fields 1), .chipSelectAssert, .readDrain] running).link.transaction with
      | .readDrain c => c.record == some 0 && c.bytes == [0x11#8, 0x22#8]
      | _ => false) = true := ⟨coherent_of _ (by decide +kernel), by decide +kernel⟩

/-! ### Resets and invariants -/

theorem test_meets_Resets :
    reading.coherent ∧ driving.coherent ∧ servingMode reading.power.mode = true ∧ reading.engineBounded ∧
    driving.engineBounded ∧ (driving.lane 0).state = .driving ∧ (∀ n, n < 8 → (armed.lane n).state ≠ .driving) ∧
    (∃ e ∈ reading.pool.table, e.owner.isPlane = true) :=
  ⟨coherent_of _ (by decide +kernel), coherent_of _ (by decide +kernel), by unfold State.engineBounded; decide +kernel⟩

theorem test_meets_MemoryStaysCanonical :
    Memory.wf (after (.tileTarget (.tile 0 ⟨0, 0, 2, 1⟩ [0x12])) panel).mem ∧
    (after (.tileTarget (.tile 0 ⟨0, 0, 2, 1⟩ [0x12])) panel).mem = [(4096, 0x12#8)] := by decide +kernel

theorem test_meets_QueueAndEngineLists :
    (crowd 4 28 driving).queueBounded ∧ driving.engineBounded := by
  unfold State.queueBounded State.engineBounded; decide +kernel

theorem test_meets_LimitsHoldUnderLock :
    (after (.setupEnd 1 (.fields ())) panel).link.locked = true ∧ (after (.setupEnd 1 (.fields ())) panel).pending = [] := by
  decide +kernel

/-- Two lanes at work, apart, one of them over certain ground with CHANGED selection. -/
def twoLanes : State := after (.update 8 (.fields { corner with rect := ⟨2, 0, 2, 2⟩ })) preparing

theorem test_meets_LanesStayApart :
    (twoLanes.lane 0).state = .preparing ∧ (twoLanes.lane 1).state = .preparing ∧ (twoLanes.lane 1).selection = .changed ∧
    (List.range 8).all (fun a => (List.range 8).all (fun b => a == b || (twoLanes.lane a).state == .free ||
      (twoLanes.lane b).state == .free || !rectOverlaps (twoLanes.lane a).rect (twoLanes.lane b).rect)) = true ∧
    (∀ a, a < 8 → (twoLanes.lane a).bandHeld = true → (twoLanes.lane a).state = .preparing) ∧
    twoLanes.uncertainDrivenWhole := by
  unfold State.uncertainDrivenWhole; decide +kernel

theorem test_meets_LeafRecordsStaySound : reading.leavesSound ∧ reading.cache.current = some 5 ∧
    reading.cache.leaves.length = 2 := by
  unfold State.leavesSound; decide +kernel

/-- The books of a state with planes and leaves, clause by clause. -/
theorem test_meets_PoolBooks : reading.poolSound := by
  have planes : ∀ e ∈ reading.pool.table,
      (match e.owner with | .plane i => decide (i < 2) | _ => true) = true := by decide +kernel
  have leaves : ∀ e ∈ reading.pool.table,
      (match e.owner with | .leaf n _ => (reading.cache.leaf n).isSome | _ => true) = true := by decide +kernel
  have stages : ∀ e ∈ reading.pool.table,
      (match e.owner with | .stage r => decide (r < 4) | _ => true) = true := by decide +kernel
  have geometry : reading.pool.geometry = some ⟨64, 64⟩ := by decide +kernel
  refine ⟨by decide +kernel, by decide +kernel, by decide +kernel, ?_, by decide +kernel, by decide +kernel, ?_,
    by decide +kernel, ?_, by decide +kernel, ?_⟩
  · intro p hp
    rw [geometry] at hp
    cases hp
    decide
  · intro e he i h
    have := planes e he
    rw [h] at this
    simpa using this
  · intro e he n w h
    have := leaves e he
    rw [h] at this
    simpa using this
  · intro e he r h
    have := stages e he
    rw [h] at this
    simpa using this

theorem test_meets_CopiesStayInStep : waking.coherent ∧ writing.coherent ∧ faulted.coherent ∧ settling.coherent :=
  ⟨coherent_of _ (by decide +kernel), coherent_of _ (by decide +kernel), coherent_of _ (by decide +kernel),
    coherent_of _ (by decide +kernel)⟩

/-! ### The pool, the waveform unit and the temperature -/

theorem test_meets_LowestFree :
    reading.pool.held.Nodup ∧ (∀ b ∈ reading.pool.held, b < 3904) ∧ 3900 + reading.pool.held.length ≤ 3904 ∧
    3900 ≤ reading.pool.freeCount ∧ (2048 : Nat) % 8 = 0 := by decide +kernel

theorem test_meets_PanelSetup :
    (crowd 31 0 panel).serves ∧ panel.link.locked = false ∧ panel.pool.geometry = some ⟨64, 64⟩ ∧
    panel.cache.leaves = [] ∧ (∀ n, n < 8 → (panel.lane n).state = .free) ∧ panel.engine.pending = [] ∧
    (∀ e ∈ panel.pool.table, e.owner.isPlane = true) ∧
    reading.serves ∧ reading.link.locked = false ∧ reading.pool.geometry ≠ some ⟨2048, 1536⟩ ∧ reading.cache.leaves ≠ [] := by
  unfold State.serves; decide +kernel

theorem test_meets_WaveCommands :
    stocked.serves ∧ preparing.serves ∧ 0 < (preparing.slot 0).useCount ∧ (stocked.slot 0).useCount = 0 ∧
    (stocked.slot 0).state = .valid ∧ (stocked.slot 5).state = .empty ∧ stocked.wave.load = none ∧
    headerGood ⟨5, .partialOk, some 0, 8, -400, [-400, 0, 1, 2, 3, 4, 5, 850], List.replicate 8 255⟩ = true ∧
    (let s := after (.waveLoad 1 (.fields ⟨5, .partialOk, some 0, 1, 0, [1], [1]⟩)) stocked
     (s.slot 5).state = .loading ∧ s.wave.load = some ⟨5, 64, 0, false⟩) := by
  unfold State.serves; decide +kernel

theorem test_meets_TableBytes :
    (let s := after (.waveLoad 1 (.fields ⟨5, .fullOnly, none, 1, 0, [1], [1]⟩)) State.reset
     servingMode s.power.mode = true ∧ s.wave.load = some ⟨5, 64, 0, false⟩) ∧
    0 + (List.replicate 63 (0x15 : Byte)).length < 64 ∧ 0 + (List.replicate 64 (0x15 : Byte)).length = 64 := by
  decide +kernel

theorem test_meets_TempSample :
    stocked.coherent ∧ asleep.wave.timer = .stopped ∧ State.reset.wave.timer ≠ .stopped ∧
    (∀ k, k < 8 → (stocked.lane k).bandHeld = false) ∧ (stocked.slot 0).state = .valid ∧ [(200 : Int), 500] ≠ [] ∧
    bandOf [200, 500] 200 = 0 ∧ bandOf [200, 500] 201 = 1 ∧ bandOf [200, 500] 501 = 1 ∧
    bandOf [50, 90] 44 < 1 ∧ (44 : Int) < 45 ∧ nextBand [50, 90] 10 (some 1) 44 = 1 :=
  ⟨coherent_of _ (by decide +kernel), by decide +kernel⟩

/-! ### Updates and lanes -/

/-- Sixteen entries wait behind a lane. -/
def queued : State := (List.range 16).foldl (fun s i => after (.update (10 + i) (.fields corner)) (crowd 0 0 s)) preparing

theorem test_meets_UpdatesRefused :
    State.reset.serves ∧ State.reset.pool.geometry = none ∧ queued.serves ∧ queued.pool.geometry = some ⟨64, 64⟩ ∧
    (queued.slot 0).state = .valid ∧ (queued.slot 2).state ≠ .valid ∧ queued.rail.mode ≠ .fault ∧
    queued.engine.pending.length = 16 ∧ 62 + 2 ≤ (64 : Nat) ∧ 64 < 63 + (2 : Nat) ∧
    bound.cache.showable 5 = true ∧ filling.cache.showable 5 = false ∧ faulted.rail.mode = .fault ∧ faulted.serves := by
  unfold State.serves; decide +kernel

theorem test_meets_AcceptedUpdate :
    stocked.coherent ∧ preparing.coherent ∧ bound.coherent ∧
    stocked.serves ∧ preparing.serves ∧ bound.serves ∧ updateCheck corner stocked = none ∧ stocked.engine.pending = [] ∧
    stocked.engine.busyOver corner.rect = false ∧ (stocked.lane 0).state = .free ∧
    updateCheck corner preparing = none ∧ preparing.engine.pending = [] ∧ preparing.engine.busyOver corner.rect = true ∧
    (preparing.lane 0).state ≠ .free ∧ (preparing.lane 1).state = .free ∧
    updateCheck { corner with source := .leaf 5 } bound = none ∧ bound.engine.pending = [] :=
  ⟨coherent_of _ (by decide +kernel), coherent_of _ (by decide +kernel), coherent_of _ (by decide +kernel),
    by unfold State.serves; decide +kernel⟩

/-- The pending entry of an update of the corner. -/
def cornerEntry : PendingEntry := ⟨7, .host, corner.rect, 0, .changed, .target, false, none⟩

/-- The stocked panel with its ground uncertain. -/
def doubtful : State := { stocked with engine := { stocked.engine with uncertain := [⟨1, 1, 4, 4⟩] } }

theorem test_meets_WalkAndPromotion :
    (stocked.slot 1).kind = .fullOnly ∧ (stocked.slot 0).kind = .partialOk ∧ stocked.engine.whole = false ∧
    (∀ u ∈ stocked.engine.uncertain, rectOverlaps u corner.rect = false) ∧
    (∃ u ∈ doubtful.engine.uncertain, rectOverlaps u corner.rect = true) ∧
    (doubtful.slot 0).partner = some 1 ∧ (doubtful.slot 1).state = .valid ∧ (doubtful.slot 1).partner = none ∧
    (startChoice cornerEntry doubtful).2.1 = 1 ∧ (startChoice cornerEntry stocked).2.1 = 0 ∧
    startsOn cornerEntry [] stocked = some 0 ∧ queued.engine.pending.length = 16 ∧
    (walk queued).engine.pending.length = 16 := by decide +kernel

theorem test_meets_UpdateCancel :
    stocked.coherent ∧ preparing.coherent ∧ armed.coherent ∧ driving.coherent ∧
    (stocked.serves ∧ preparing.serves ∧ armed.serves ∧ driving.serves) ∧
    (∀ n, n < 8 → (stocked.lane n).state ≠ .free → (stocked.lane n).origin = .host → (stocked.lane n).tag ≠ 7) ∧
    stocked.engine.pending = [] ∧
    ((preparing.lane 0).state = .preparing ∧ (preparing.lane 0).origin = .host ∧ (preparing.lane 0).tag = 7 ∧
      preparing.engine.pending = [] ∧ reportCount preparing.link.queue < 28 ∧ preparing.link.queue.length + 1 < 32) ∧
    ((armed.lane 0).state = .armed ∧ (armed.lane 0).tag = 7) ∧ ((driving.lane 0).state = .driving ∧ driving.engine.pending = []) :=
  ⟨coherent_of _ (by decide +kernel), coherent_of _ (by decide +kernel), coherent_of _ (by decide +kernel),
    coherent_of _ (by decide +kernel), by unfold State.serves; decide +kernel⟩

theorem test_meets_UpdateCancelOfEntry :
    (after (.update 8 (.fields corner)) preparing).coherent ∧ (after (.update 8 (.fields corner)) preparing).serves ∧
    (∀ n, n < 8 → ((after (.update 8 (.fields corner)) preparing).lane n).state ≠ .free →
      ((after (.update 8 (.fields corner)) preparing).lane n).tag ≠ 8) ∧
    (after (.update 8 (.fields corner)) preparing).engine.pending = [{ cornerEntry with tag := 8 }] ∧
    reportCount (after (.update 8 (.fields corner)) preparing).link.queue < 28 :=
  ⟨coherent_of _ (by decide +kernel), by unfold State.serves; decide +kernel⟩

theorem test_meets_PreparingEnd :
    preparing.coherent ∧ (after .riseTimerExpire (after (.preparingEnd 0) twoLanes)).coherent ∧
    (after (.preparingEnd 0) twoLanes).coherent ∧
    ((preparing.lane 1).state ≠ .preparing ∧ (preparing.lane 0).state = .preparing ∧ (preparing.lane 0).bandHeld = false ∧
      preparing.wave.filtered = some 210 ∧ preparing.rail.mode = .off ∧ preparing.rail.powerGood = false ∧
      (preparing.slot 0).state = .valid) ∧
    ((after .riseTimerExpire (after (.preparingEnd 0) twoLanes)).rail.mode = .fault ∧
      ((after .riseTimerExpire (after (.preparingEnd 0) twoLanes)).lane 1).state = .preparing ∧
      (after .riseTimerExpire (after (.preparingEnd 0) twoLanes)).engine.pending = []) ∧
    (after (.preparingEnd 0) twoLanes).rail.mode = .rising ∧
    ((after (.preparingEnd 0) { preparing with wave := { preparing.wave with filtered := none } }).lane 0).bandHeld = true :=
  ⟨coherent_of _ (by decide +kernel), coherent_of _ (by decide +kernel), coherent_of _ (by decide +kernel), by decide +kernel⟩

theorem test_meets_FrameEvents :
    driving.coherent ∧ lastFrame.coherent ∧ stocked.engine.scan = none ∧ driving.engine.scan.isSome = true ∧
    driving.engine.pending = [] ∧ (driving.lane 0).state = .driving ∧ (driving.lane 0).index + 1 < (driving.lane 0).frames ∧
    (∀ n, n < 8 → (driving.lane n).state = .armed → 1 < (driving.lane n).frames) ∧
    (∀ n, n < 8 → (driving.lane n).state = .driving → (driving.lane n).index + 1 < (driving.lane n).frames) ∧
    lastFrame.engine.scan.isSome = true ∧ lastFrame.engine.pending = [] ∧ (lastFrame.lane 0).state = .driving ∧
    (lastFrame.lane 0).frames = (lastFrame.lane 0).index + 1 ∧ (lastFrame.lane 0).origin = .host ∧
    (∀ k, k < 8 → k ≠ 0 → (lastFrame.lane k).state ≠ .armed ∧ (lastFrame.lane k).state ≠ .driving) ∧
    lastFrame.rail.mode = .on ∧ lastFrame.rail.armed = 1 ∧ 0 < lastFrame.rail.holdTime ∧ lastFrame.link.roomForReport = true :=
  ⟨coherent_of _ (by decide +kernel), coherent_of _ (by decide +kernel), by decide +kernel⟩

theorem test_meets_UncertainList :
    panel.engine.whole = true ∧ (∃ u ∈ doubtful.engine.uncertain, rectContains u ⟨1, 1, 4, 4⟩ = true) ∧
    stocked.engine.whole = false ∧ (∀ u ∈ doubtful.engine.uncertain, rectContains u ⟨0, 0, 2, 2⟩ = false) ∧
    (doubtful.engine.uncertain.filter (fun u => !rectContains ⟨0, 0, 2, 2⟩ u)).length < 8 ∧
    ((List.range 8).map (fun i => (⟨8 * i, 0, 1, 1⟩ : Rect))).length = 8 ∧
    (∀ u ∈ (List.range 8).map (fun i => (⟨8 * i, 0, 1, 1⟩ : Rect)), rectContains u ⟨0, 1, 1, 1⟩ = false ∧
      rectContains ⟨0, 1, 1, 1⟩ u = false) := by decide +kernel

theorem test_meets_TileWritesTheTargetPlane :
    servingMode panel.power.mode = true ∧ panel.pool.geometry = some ⟨64, 64⟩ ∧ 64 % 8 = 0 ∧
    tileCheck (.tile 0 ⟨61, 63, 3, 1⟩ [0x12, 0x30]) panel = none := by decide +kernel

/-! ### Rails and the supply budget -/

theorem test_meets_RailTimers :
    held.coherent ∧ falling.coherent ∧ (after .powerGoodLost falling).coherent ∧ stocked.coherent ∧ armed.coherent ∧
    (held.rail.mode = .hold ∧ held.rail.hold.isSome = true) ∧
    (falling.rail.mode = .falling ∧ falling.rail.fall.isSome = true ∧ falling.rail.armed = 0) ∧
    ((afterAll [.powerGoodLost, .update 9 (.fields corner), .preparingEnd 0] falling).rail.mode = .falling ∧
      (afterAll [.powerGoodLost, .update 9 (.fields corner), .preparingEnd 0] falling).rail.armed = 1 ∧
      (afterAll [.powerGoodLost, .update 9 (.fields corner), .preparingEnd 0] falling).rail.powerGood = false) ∧
    (stocked.rail.mode = .off ∧ stocked.rail.powerGood = false ∧ held.rail.powerGood = true) ∧
    ((after (.updateCancel 7 (.fields ())) armed).rail.mode = .rising ∧
      (after (.updateCancel 7 (.fields ())) armed).rail.armed = 0) ∧
    (armed.rail.mode = .rising ∧ armed.rail.armed = 1 ∧ armed.engine.scan = none ∧ armed.engine.pending = [] ∧
      (armed.lane 0).state = .armed ∧ 1 < (armed.lane 0).frames) :=
  ⟨coherent_of _ (by decide +kernel), coherent_of _ (by decide +kernel), coherent_of _ (by decide +kernel),
    coherent_of _ (by decide +kernel), coherent_of _ (by decide +kernel), by decide +kernel⟩

theorem test_meets_RailFault :
    driving.coherent ∧ armed.coherent ∧ held.coherent ∧ faulted.coherent ∧ stocked.coherent ∧
    (driving.rail.powerGood = true ∧ driving.rail.mode = .on) ∧ (held.rail.powerGood = true ∧ held.rail.mode = .hold) ∧
    (armed.rail.mode = .rising ∧ armed.rail.rise.isSome = true) ∧ stocked.rail.powerGood = false ∧
    ((after .powerGoodArrive stocked).rail.powerGood = true ∧ (after .powerGoodArrive stocked).rail.mode = .off) ∧
    (stocked.serves ∧ stocked.rail.mode ≠ .fault) ∧
    (faulted.serves ∧ faulted.rail.mode = .fault ∧ faulted.rail.powerGood = false ∧ faulted.engine.pending = []) ∧
    (after .powerGoodArrive faulted).rail.powerGood = true :=
  ⟨coherent_of _ (by decide +kernel), coherent_of _ (by decide +kernel), coherent_of _ (by decide +kernel),
    coherent_of _ (by decide +kernel), coherent_of _ (by decide +kernel), by unfold State.serves; decide +kernel⟩

theorem test_meets_BudgetChanges :
    driving.coherent ∧ asleep.coherent ∧ driving.serves ∧ driving.link.locked = false ∧ driving.budget.lowbat = false ∧
    asleep.budget.lowbat = false ∧ asleep.power.mode = .standby ∧ driving.power.mode = .active ∧
    (after (.lowbatChange true) driving).budget.lowbat = true ∧
    (driving.budget.rail = .on) ∧ falling.budget.rail = .falling :=
  ⟨coherent_of _ (by decide +kernel), coherent_of _ (by decide +kernel), by unfold State.serves; decide +kernel⟩

/-! ### The page cache -/

/-- Twelve leaves, all READY. -/
def fullCache : State := (List.range 12).foldl (fun s i =>
  afterAll [.leafFill 1 (.fields ⟨10 * i, 0, none, none⟩), .leafClose 1 (.fields (10 * i))] (crowd 0 0 s)) stocked

theorem test_meets_LeafFill :
    State.reset.serves ∧ State.reset.pool.geometry = none ∧ filling.serves ∧ bound.serves ∧ fullCache.serves ∧
    (filling.cache.leaf 5).map Leaf.mode = some .filling ∧ (bound.cache.leaf 5).map Leaf.mode = some .ready ∧
    bound.cache.leaf 6 = none ∧ bound.cache.leaves.length < 12 ∧ planeSize bound.pool.geometry ≤ bound.pool.freeCount ∧
    fullCache.cache.leaves.length = 12 ∧ fullCache.cache.leaf 5 = none ∧
    ((fullCache.cache.fillVictims 5).head?).map Leaf.number = some 110 ∧ fullCache.cache.fillVictims 200 = [] ∧
    reportCount fullCache.link.queue < 28 ∧ fullCache.link.queue.length + 1 < 32 := by
  unfold State.serves; decide +kernel

/-- Every block taken but none for a leaf. -/
theorem test_meets_LeafFillNoSpace :
    { bound with pool := { bound.pool with freeCount := 0 } }.serves ∧
    bound.cache.leaf 4 = none ∧ 0 + ((bound.cache.fillVictims 200).map (fun l => l.blocks.length)).sum < planeSize bound.pool.geometry := by
  unfold State.serves; decide +kernel

theorem test_meets_LeafCloseAndDrop :
    filling.serves ∧ bound.serves ∧ reading.serves ∧ filling.cache.leaf 6 = none ∧
    (filling.cache.leaf 5).map Leaf.mode = some .filling ∧ (bound.cache.leaf 5).map Leaf.mode = some .ready ∧
    (bound.cache.leaf 5).map Leaf.useCount = some 0 ∧ (reading.cache.leaf 5).map Leaf.mode = some .shown ∧
    (stocked.cache.leaf 16777215) = none := by
  unfold State.serves; decide +kernel

theorem test_meets_TileWritesTheLeaf :
    servingMode filling.power.mode = true ∧ filling.pool.geometry = some ⟨64, 64⟩ ∧
    filling.cache.leaf 5 = some ⟨5, .filling, [2], 15, 0, some 0, none⟩ ∧
    leafTileCheck 5 ⟨61, 63, 3, 1⟩ [0x12, 0x30] filling = none := by decide +kernel

theorem test_meets_ShowLeaf :
    bound.coherent ∧ (after (.update 7 (.fields corner)) bound).coherent ∧ bound.serves ∧ reading.serves ∧
    showChoice ⟨5, none, none⟩ bound.cache = some (0, .changed) ∧ showChoice ⟨7, none, none⟩ bound.cache = none ∧
    updateCheck ⟨bound.panelRect, 0, .changed, .leaf 5, false, none⟩ bound = none ∧
    updateCheck ⟨bound.panelRect, 2, .changed, .leaf 5, false, none⟩ bound = some .slotInvalid ∧
    bound.engine.pending = [] ∧ (∀ n, n < 8 → (bound.lane n).state = .free) ∧
    ((after (.update 7 (.fields corner)) bound).lane 0).state ≠ .free ∧
    bound.cache.counter < bound.cache.settings.cadence ∧
    { bound.cache with counter := 6 }.settings.cadence ≤ 6 ∧
    (bound.cache.leaf 5).map Leaf.mode ≠ some .filling ∧ filling.cache.leaf 6 = none :=
  ⟨coherent_of _ (by decide +kernel), coherent_of _ (by decide +kernel), by unfold State.serves; decide +kernel⟩

/-- A turn to leaf 6 in flight. -/
def turning : State := turnRequest .next reading

theorem test_meets_Turns :
    settling.cache.sleepMark = true ∧ turning.cache.sleepMark = false ∧ turning.cache.flight = some ⟨6, .next, .partialTurn⟩ ∧
    turning.cache.deferred = none ∧ (turnRequest .next turning).cache.deferred = some ⟨.next, 1⟩ ∧
    reading.cache.flight = none ∧ bound.cache.current = none ∧ reading.cache.current = some 5 ∧
    stepLeaf 5 .next = some 6 ∧ stepLeaf 5 .prev = some 4 ∧ reading.cache.leaf 4 = none ∧
    stepLeaf 16777215 .next = none ∧ stepLeaf 0 .prev = none ∧
    (reading.cache.leaf 6).map Leaf.mode = some .ready ∧
    reading.cache.turnChoice (some 0) = (.partialTurn, some 0, .changed) ∧
    reading.cache.turnChoice none = (.partialTurn, none, .changed) ∧ (reading.slot 0).state = .valid ∧
    reading.rail.mode ≠ .fault ∧ reading.engine.pending.length < 16 ∧
    fullCache.cache.anchor = none ∧ (fullCache.cache.stagingVictim).map Leaf.number = some 110 ∧
    bound.cache.settings.cadence = 6 := by decide +kernel

/-! ### Keys and the front light -/

/-- Key 0 enabled but not yet armed. -/
def enabling : State := after (.keySetup 1 (.fields ⟨0, { enabled := true, action := .report }⟩)) State.reset
/-- Asleep with key 0 armed, watched or waiting. -/
def keyAsleep : State := after (.sleep 1 (.fields ())) (keyed .report State.reset)

theorem test_meets_KeyInputs :
    State.reset.serves ∧ enabling.serves ∧ (State.reset.key 5).config.enabled = false ∧
    (enabling.key 0).config.enabled = true ∧ (enabling.key 0).config.active = .low ∧ (enabling.key 0).raw = .high ∧
    waking.power.mode = .waking ∧ servingMode enabling.power.mode = true ∧
    keyAsleep.power.mode = .standby ∧ (keyAsleep.key 0).config.enabled = true ∧ (keyAsleep.key 0).sense = .watch ∧
    wakeLevel (keyAsleep.key 0).config = .low ∧ (keyAsleep.key 0).raw = .high ∧ (keyAsleep.key 1).sense = .none ∧
    ((after (.sleep 1 (.fields ())) (after (.keyInputChange 0 .low) (keyed .report State.reset))).key 0).sense = .wait := by
  unfold State.serves; decide +kernel

theorem test_meets_KeyTimers :
    enabling.coherent ∧ (after (.keyInputChange 0 .low) (keyed .report State.reset)).coherent ∧
    (pressed .report State.reset).coherent ∧ (State.reset.key 0).debounce = none ∧
    ((enabling.key 0).debounce = some (10, .high) ∧ (enabling.key 0).armed = false) ∧
    ((after (.keyInputChange 0 .low) enabling).key 0).debounce = some (10, .low) ∧
    (((after (.keyInputChange 0 .low) (keyed .report State.reset)).key 0).debounce = some (10, .low) ∧
      ((after (.keyInputChange 0 .low) (keyed .report State.reset)).key 0).armed = true) ∧
    (((pressed .report State.reset).key 0).held = true ∧ ((pressed .report State.reset).key 0).holdTimer = some 2 ∧
      ((pressed .report State.reset).key 0).repeatTimer = none) ∧
    ((after (.keyHoldExpire 0) (pressed .lightUp State.reset)).key 0).repeatTimer = some 25 ∧
    (((after (.keyInputChange 0 .high) (pressed .report State.reset)).key 0).debounce = some (10, .high) ∧
      ((after (.keyInputChange 0 .high) (pressed .report State.reset)).key 0).armed = true) :=
  ⟨coherent_of _ (by decide +kernel), coherent_of _ (by decide +kernel), coherent_of _ (by decide +kernel), by decide +kernel⟩

/-- The light ramping up to 2. -/
def lit : State := afterAll [.lightSetup 1 (.fields ⟨8, 20, 60, none, none, none⟩), .lightSet 1 (.fields ⟨some 2, some 30⟩)] State.reset

theorem test_meets_Light :
    lit.coherent ∧ State.reset.coherent ∧ lit.serves ∧ lit.link.locked = false ∧ lit.light.ramp = some 8 ∧
    lit.light.dwell = some 60 ∧ State.reset.light.ramp = none ∧ State.reset.light.dwell = none ∧
    (List.replicate 21 4095).length = 21 ∧ (∀ v ∈ List.replicate 21 4095, v ≤ 4095) ∧
    List.Pairwise (· ≤ ·) (List.replicate 21 4095) ∧ 0 < lit.light.dwellTime :=
  ⟨coherent_of _ (by decide +kernel), coherent_of _ (by decide +kernel), by unfold State.serves; decide +kernel⟩

/-- The default curve, a split duty, and the cut duties of the spec's worked sequence. -/
theorem test_worked_duties :
    defaultCurve = State.reset.light.curve ∧ curveDemand defaultCurve 100 = 4095 ∧ curveDemand defaultCurve 4 = 164 ∧
    warmDuty 2366 40 = 946 ∧ 2366 - 946 = 1420 := by decide +kernel

/-! ### The radio port -/

theorem test_meets_LineEvents :
    opened.coherent ∧ State.reset.coherent ∧ opened.serves ∧ State.reset.serves ∧
    (State.reset.radio.receiver = .stopped ∧ opened.radio.receiver ≠ .stopped ∧ opened.radio.breakHeld = false ∧
      servingMode opened.power.mode = true) ∧
    (after .radioBreak opened).radio.breakHeld = true ∧ fifoFill (List.replicate 64 (.char false 0)) = 64 ∧
    fifoFill (List.replicate 47 (.char false 0)) + 1 = 48 ∧ fifoFill (List.replicate 15 (.char false 0)) + 1 = 16 ∧
    ([FifoEntry.char false 0, .note .brk].getLast? = some (.note .brk)) ∧
    opened.radio.enabled = true ∧ State.reset.radio.enabled = false ∧ opened.radio.rate ≠ .b460800 ∧
    RadioErrorKind.crc ∉ opened.radio.marks ∧
    (after .radioLineReturn opened).radio.marks = [.framing] :=
  ⟨coherent_of _ (by decide +kernel), coherent_of _ (by decide +kernel), by unfold State.serves; decide +kernel⟩

/-- The first `n` characters of a DATA frame taken. -/
def assembling (n : Nat) (chars : List FifoEntry) (s : State) : State :=
  afterAll (List.replicate n .fifoTake) (s.onRadio (fun r => r.setFifo chars))

theorem test_meets_AssemblerStates :
    State.reset.radio.fifo = [] ∧ State.reset.radio.gap = none ∧
    (assembling 1 (frameOf 0 [0x11]) opened).radio.gap = some 20 ∧
    (let s := assembling 1 (frameOf 0 [0x11]) opened
     s.radio.waiting = false ∧ s.radio.asm = .header ∧ s.radio.frame = some ⟨.data, [], [], crc16Start, []⟩) ∧
    (let s := assembling 4 (frameOf 0 [0x11]) opened
     s.radio.asm = .header ∧ s.radio.frame.map (fun a => a.header.length) = some 3 ∧
       s.radio.fifo.head? = some (.char false 1)) ∧
    (let s := assembling 5 (frameOf 0 [0x11]) opened
     s.radio.asm = .payload ∧ s.radio.fifo.head? = some (.char false 0x11)) ∧
    (let s := assembling 6 (frameOf 0 [0x11]) opened
     s.radio.asm = .check ∧ s.radio.frame.map (fun a => a.check) = some []) ∧
    (let s := assembling 7 (frameOf 0 [0x11]) opened
     s.radio.asm = .check ∧ s.radio.frame.map (fun a => a.check.length) = some 1 ∧ s.radio.released = false ∧
       s.radio.waiting = false) := by decide +kernel

theorem test_meets_AssemblerEdges :
    (assembling 1 [.char true 0x4B, .note .brk] opened).radio.fifo = [.note .brk] ∧
    (assembling 1 [.char true 0x4B, .char true 0x5A] opened).radio.fifo = [.char true 0x5A] ∧
    (assembling 0 [.char true 0x00] opened).radio.frame = none ∧
    (assembling 4 [.char true 0x4B, .char false 1, .char false 0, .char false 0, .char false 0] opened).radio.asm = .header ∧
    (received 0 [0x11] State.reset).stream.find 1 = none ∧
    (afterAll [.radioSetup 1 (.fields ⟨true, .b460800, 20, true⟩)] writing).radio.released = true := by decide +kernel

/-! ### Streams -/

/-- A good STREAM_OPEN of another id. -/
def openTwo : StreamOpenArgs := ⟨254, 65535, 1024, 0, 60, [⟨some 1, none, none, .halt⟩, ⟨none, none, none, .chain⟩]⟩
/-- All four records open. -/
def fourOpen : State := (List.range 3).foldl (fun s i =>
  after (.streamOpen 1 (.fields ⟨2 + i, 0, 1, 0, 5, [⟨some 5, none, none, .notify⟩]⟩)) s) opened

theorem test_meets_StreamOpen :
    opened.coherent ∧ fourOpen.coherent ∧ opened.serves ∧ fourOpen.serves ∧ openGood openTwo = true ∧
    opened.stream.find 1 = some 0 ∧ opened.stream.find 254 = none ∧ (opened.record 1).mode = .closed ∧
    (∀ k, k < 1 → (opened.record k).mode ≠ .closed) ∧ fourOpen.stream.find 254 = none ∧
    (∀ n, n < 4 → (fourOpen.record n).mode ≠ .closed) ∧
    (after (.streamClose 1 (.fields 1)) opened).record 0 = { id := some 1, closing := some .host } :=
  ⟨coherent_of _ (by decide +kernel), coherent_of _ (by decide +kernel), by unfold State.serves; decide +kernel⟩

/-- Frame 5 where 0 is expected: the stream is paused GAP. -/
def gapped : State := received 5 [0x11] opened

theorem test_meets_StreamCommands :
    running.coherent ∧ gapped.coherent ∧ running.serves ∧ gapped.serves ∧ running.stream.find 1 = some 0 ∧
    running.stream.find 254 = none ∧ addGood ⟨254, [⟨some 1, none, none, .notify⟩]⟩ = true ∧
    countMissing (running.record 0).inheritedCount [⟨none, none, none, .notify⟩] = false ∧
    countMissing none [⟨none, none, none, .notify⟩] = true ∧ (running.record 0).mode = .running ∧
    (opened.record 0).mode = .opened ∧ (gapped.record 0).mode = .paused ∧ (gapped.record 0).pause = some .gap ∧
    (gapped.record 0).beforePause = some .opened ∧ (running.record 0).flight = none ∧
    (running.record 0).segments.length + 7 ≤ 8 :=
  ⟨coherent_of _ (by decide +kernel), coherent_of _ (by decide +kernel), by unfold State.serves; decide +kernel⟩

theorem test_meets_Frames :
    opened.stream.sleepHold = false ∧ opened.stream.find 1 = some 0 ∧ opened.stream.find 254 = none ∧
    (opened.record 0).mode = .opened ∧ (running.record 0).mode = .running ∧
    (after (.sleep 1 (.fields ())) opened).stream.sleepHold = true ∧
    (0 + 65536 - (gapped.record 0).expected) % 65536 = 0 ∧ (32768 + 65536 - (opened.record 0).expected) % 65536 = 32768 ∧
    (32767 + 65536 - (opened.record 0).expected) % 65536 = 32767 ∧ (opened.record 0).room = (5, false) ∧
    (running.record 0).room = (3, false) ∧ (running.record 0).limit ≤ (running.record 0).blocks.length ∧
    4096 < 4096 + [0x11#8].length ∧ (opened.record 0).blocks = [] := by decide +kernel

/-- A stream that has failed: a HALT segment of 1 byte met by a frame of 2. -/
def overrun : State := received 0 [0x11, 0x22] (after (.streamOpen 1 (.fields
  { openTwo with id := 1, sequence := 0, segments := [⟨some 1, none, none, .halt⟩] })) (after (.streamClose 1 (.fields 1)) opened))

theorem test_meets_EndedStreams :
    overrun.stream.find 1 = some 0 ∧ (overrun.record 0).mode = .failed ∧ (overrun.record 0).fail = some .overrun ∧
    ((after (.streamPause 1 (.fields 1)) opened).record 0).pause = some .host := by decide +kernel

theorem test_meets_AcceptedBytes :
    (opened.record 0).segments.map (fun g => (g.state, g.accepted, g.count)) = [(.active, 0, 5)] ∧
    0 + [0x11#8, 0x22#8, 0x33#8, 0x44#8].length < 5 ∧ (opened.record 0).segments.all (fun g => g.pattern == none) = true ∧
    (∀ n, n < 4 → (opened.record n).flight = none) ∧ (writing.record 0).flight = some ⟨0, [0x11, 0x22]⟩ ∧
    writing.radio.released = false ∧
    (afterAll [.radioSetup 1 (.fields ⟨true, .b460800, 20, true⟩)] writing).radio.waiting = false ∧
    (opened.record 3).stall = none ∧ (running.record 0).stall = some 5 ∧ (running.record 0).mode = .running := by
  decide +kernel

/-- The two bytes of the worked frame lie at the head of the stream's first block. -/
theorem test_payload_reaches_memory :
    (running.record 0).blocks.map (fun b => (Memory.read running.mem (4096 * b), Memory.read running.mem (4096 * b + 1))) =
      [(0x11, 0x22)] ∧ (running.record 0).counters.accepted = 2 := by decide +kernel

/-! ### The clauses of the larger statements, at their meeting points -/

theorem test_meets_TilesRefused :
    (servingMode preparing.power.mode = true ∧ State.reset.pool.geometry = none) ∧
    (preparing.pool.geometry = some ⟨64, 64⟩ ∧ (64 : Nat) < 61 + 4 ∧ 61 + 3 ≤ (64 : Nat) ∧ [0x12#8].length ≠ 1 * ((3 + 1) / 2)) ∧
    ((preparing.lane 0).state ≠ .free ∧ rectOverlaps (preparing.lane 0).rect ⟨1, 1, 2, 1⟩ = true) ∧
    ((queued.engine.pending.any (fun e => e.source == .target && rectOverlaps e.rect ⟨1, 1, 2, 1⟩)) = true) ∧
    (stocked.cache.leaf 5 = none ∧ (bound.cache.leaf 5).map Leaf.mode = some .ready) ∧
    leafTileCheck 5 ⟨61, 63, 3, 1⟩ [0x12, 0x30] filling = none := by decide +kernel

/-- A stream of one segment of two bytes that ends it, with the pattern 0x22, its bytes staged. -/
def ended (action : EndAction) (crc : Option Word32) : State :=
  after .payloadWriteDone (received 0 [0x11, 0x22] (afterAll [.radioSetup 1 (.fields ⟨true, .b115200, 20, true⟩),
    .streamOpen 1 (.fields ⟨1, 0, 1, 1, 5, [⟨some 2, crc, some ⟨[0x22], [0xFF]⟩, action⟩]⟩), .drainSelect 1 (.fields 1)] State.reset))

theorem test_meets_Chunks :
    (after (.drainSelect 1 (.fields 1)) opened).link.selection = some 1 ∧
    (∀ g ∈ ((after (.drainSelect 1 (.fields 1)) opened).record 0).segments, g.accepted ≤ g.drained) ∧
    ((writing.record 0).flight.map WriteFlight.start = some 0 ∧ (writing.record 0).counters.drained = 0) ∧
    ((ended .halt none).stream.find 1 = some 0 ∧ ((ended .halt none).record 0).mode = .ended ∧
      (makeChunk (ended .halt none)).bytes = [0x11, 0x22] ∧ (makeChunk (ended .halt none)).segmentEnd = true ∧
      (makeChunk (ended .halt none)).landmarks = [(1, 1)]) ∧
    ((ended .notify (some 9)).record 0).mode = .failed := by decide +kernel

/-- Draining the last bytes of an ended stream returns its block, and its descriptor leaves. -/
theorem test_drained_to_the_end :
    (ended .halt none).coherent ∧ ((ended .halt none).record 0).blocks.length = 1 ∧
    (let t := afterAll [.chipSelectAssert, .readDrain, .chipSelectRelease true] (ended .halt none)
     (t.record 0).blocks = [] ∧ (t.record 0).segments = [] ∧ (t.record 0).landmarks = [] ∧
       t.pool.freeCount = (ended .halt none).pool.freeCount + 1) :=
  ⟨coherent_of _ (by decide +kernel), by decide +kernel⟩

theorem test_meets_EngineResetOfALoad :
    (after (.waveLoad 1 (.fields ⟨5, .fullOnly, none, 1, 0, [1], [1]⟩)) reading).coherent ∧
    ((after (.waveLoad 1 (.fields ⟨5, .fullOnly, none, 1, 0, [1], [1]⟩)) reading).wave.load.map Load.slot = some 5 ∧
      reading.wave.load.map Load.slot ≠ some 5 ∧ settling.power.mode = .settling ∧
      (after (.engineReset 1 (.fields ())) reading).power.mode ≠ .standby) ∧ reading.leavesSound :=
  ⟨coherent_of _ (by decide +kernel), by decide +kernel, by unfold State.leavesSound; decide +kernel⟩

/-- `s` with `n` blocks said to be free. -/
def scarce (n : Nat) (s : State) : State := { s with pool := { s.pool with freeCount := n } }

theorem test_meets_StagingAllocations :
    (panel.pool.reserve ≤ panel.pool.freeCount - 1 ∧ 0 < panel.pool.freeCount) ∧
    ((scarce 0 panel).cache.stagingVictim = none ∧ (scarce 32 fullCache).pool.freeCount - 1 < 32 ∧
      ((scarce 32 fullCache).cache.stagingVictim).map (fun v => v.blocks.length) = some 1) ∧
    (allocateStaging 0 (scarce 32 fullCache)).1.isSome = true ∧ (allocateStaging 0 (scarce 31 fullCache)).1 = none ∧
    (allocateStaging 0 (scarce 31 fullCache)).2.pool.freeCount = 32 := by decide +kernel

/-- Two lanes DRIVING their first frames. -/
def twoDriving : State := afterAll [.preparingEnd 0, .preparingEnd 1, .powerGoodArrive] twoLanes
/-- One lane DRIVING, another in PREPARING. -/
def driveAndPrepare : State := afterAll [.preparingEnd 0, .powerGoodArrive] twoLanes

theorem test_meets_CancelOfOneOfTwo :
    twoDriving.coherent ∧ (after .frameEvent driving).coherent ∧
    (twoDriving.serves ∧ (twoDriving.lane 1).state = .driving ∧ twoDriving.rail.mode = .on ∧ twoDriving.rail.armed = 2 ∧
      twoDriving.engine.uncertain.length < 8 ∧ twoDriving.engine.scan.isSome = true) ∧
    (∀ k, k < 8 → k ≠ 0 → (driving.lane k).state ≠ .armed ∧ (driving.lane k).state ≠ .driving) :=
  ⟨coherent_of _ (by decide +kernel), coherent_of _ (by decide +kernel), by unfold State.serves; decide +kernel⟩

/-- `s` with the rails in state `m`, as the rail controller and those it tells have it. -/
def railed (m : RailMode) (s : State) : State :=
  { s with
    rail := { s.rail with mode := m }
    budget := { s.budget with rail := m }
    power := { s.power with railsOff := m = .off } }

/-- A host update in PREPARING with its slot's band selected. -/
def banded : State := after (.tempSample 210) preparing

theorem test_meets_PreparingEndByRails :
    (railed .fault banded).coherent ∧ (railed .fault (engineNotify turning)).coherent ∧ driveAndPrepare.coherent ∧
    (railed .on preparing).coherent ∧ (after (.update 9 (.fields corner)) held).coherent ∧
    { preparing with rail := { preparing.rail with powerGood := true } }.coherent ∧
    ((banded.slot 0).band.isSome = true ∧ (banded.lane 0).origin = .host ∧ banded.engine.pending = []) ∧
    (((engineNotify turning).lane 0).state = .preparing ∧ ((engineNotify turning).lane 0).origin = .turn ∧
      (engineNotify turning).cache.flight.isSome = true) ∧
    (driveAndPrepare.rail.mode = .on ∧ driveAndPrepare.engine.scan.isSome = true ∧ (driveAndPrepare.lane 1).state = .preparing) ∧
    ((after (.update 9 (.fields corner)) held).rail.mode = .hold ∧ (after (.update 9 (.fields corner)) held).engine.scan = none ∧
      ((after (.update 9 (.fields corner)) held).lane 0).state = .preparing) ∧
    (bandOf (preparing.slot 0).uppers 210 = 1 ∧ 1 < (preparing.slot 0).frames.getD 1 0) ∧
    (∀ k, k < 8 → k ≠ 0 → (preparing.lane k).state ≠ .armed ∧ (preparing.lane k).state ≠ .driving) :=
  ⟨coherent_of _ (by decide +kernel), coherent_of _ (by decide +kernel), coherent_of _ (by decide +kernel),
    coherent_of _ (by decide +kernel), coherent_of _ (by decide +kernel), coherent_of _ (by decide +kernel), by decide +kernel⟩

/-- A lane whose band request is held. -/
def bandWaits : State := after (.preparingEnd 0) { preparing with wave := preparing.wave.restart }

theorem test_meets_HeldBand :
    bandWaits.coherent ∧ (railed .fault bandWaits).coherent ∧
    ((bandWaits.lane 0).state = .preparing ∧ (bandWaits.lane 0).bandHeld = true ∧ (bandWaits.lane 0).slot = 0 ∧
      (∀ k, k < 8 → k ≠ 0 → (bandWaits.lane k).bandHeld = false) ∧ (bandWaits.slot 0).state = .valid ∧
      bandWaits.wave.timer ≠ .stopped ∧ bandWaits.rail.mode = .off ∧ bandWaits.rail.powerGood = false ∧
      bandWaits.engine.pending = [] ∧ (bandWaits.lane 0).origin = .host ∧ reportCount bandWaits.link.queue + 7 ≤ 28) ∧
    ((after (.tempSample 210) bandWaits).lane 0).state = .armed :=
  ⟨coherent_of _ (by decide +kernel), coherent_of _ (by decide +kernel), by decide +kernel⟩

/-- Waking by key 0 with action `a`; a COVER key wakes by its inactive level. -/
def keyWaking (a : KeyAction) : State :=
  afterAll [.sleep 1 (.fields ()), .keyInputChange 0 .low, .keyInputChange 0 .high, .keyInputChange 0 .low, .lowbatChange true,
    .selfRefreshEntered] (keyed a State.reset)
/-- As `keyWaking`, with the key's level gone back. -/
def keyGoneBack (a : KeyAction) (l : Level) : State := after (.keyInputChange 0 l) (keyWaking a)

theorem test_meets_WakingDelivers :
    (keyWaking .report).coherent ∧ (keyWaking .cover).coherent ∧ (keyGoneBack .report .high).coherent ∧
    (keyGoneBack .cover .high).coherent ∧
    ((keyWaking .report).power.mode = .waking ∧ (keyWaking .report).pool.refresh = .leaving ∧
      (keyWaking .report).power.wakeEnd = some .doze ∧ (keyWaking .report).link.roomForReport = true ∧
      (keyWaking .report).keys.latch = some (0, 0) ∧ ((keyWaking .report).key 0).raw = .low) ∧
    ((keyWaking .report).budget.lowbat = true ∧ (keyWaking .report).budget.reported = false) ∧
    ((keyGoneBack .report .high).keys.latch = some (0, 0) ∧ ((keyGoneBack .report .high).key 0).raw ≠ .low) ∧
    ((keyWaking .cover).power.cause = some (.cover 0) ∧ ((keyWaking .cover).key 0).raw = .low) ∧
    ((keyGoneBack .cover .high).keys.latch = some (0, 0) ∧ ((keyGoneBack .cover .high).key 0).raw ≠ .low) ∧
    (servingMode (after .wakingComplete (keyWaking .report)).power.mode = true ∧
      (after .wakingComplete (keyWaking .cover)).power.mode = .standby) :=
  ⟨coherent_of _ (by decide +kernel), coherent_of _ (by decide +kernel), coherent_of _ (by decide +kernel),
    coherent_of _ (by decide +kernel), by decide +kernel⟩

/-- A turn to leaf 6 on its last frame. -/
def turnLast : State := afterAll [.preparingEnd 0, .powerGoodArrive] (engineNotify turning)

theorem test_meets_CompletedTurn :
    turnLast.coherent ∧ (turnRequest .prev turnLast).coherent ∧ turnLast.leavesSound ∧
    (turnLast.engine.scan.isSome = true ∧ turnLast.rail.mode = .on ∧ turnLast.engine.pending = [] ∧
      (turnLast.lane 0).state = .driving ∧ (turnLast.lane 0).frames = (turnLast.lane 0).index + 1 ∧
      (turnLast.lane 0).origin = .turn ∧ turnLast.cache.flight = some ⟨6, .next, .partialTurn⟩ ∧ turnLast.cache.deferred = none) ∧
    (∀ k, k < 8 → k ≠ 0 → (turnLast.lane k).state ≠ .armed ∧ (turnLast.lane k).state ≠ .driving) ∧
    ((turnRequest .prev turnLast).cache.deferred = some ⟨.prev, 1⟩ ∧ (turnRequest .next turnLast).cache.deferred = some ⟨.next, 1⟩) ∧
    armed.rail.mode ≠ .on :=
  ⟨coherent_of _ (by decide +kernel), coherent_of _ (by decide +kernel), by unfold State.leavesSound; decide +kernel⟩

/-- The deferred turn back to leaf 5 follows the turn to leaf 6; at the last leaf a deferred turn on gives TURN_EDGE. -/
theorem test_deferred_turns :
    (after .frameEvent (turnRequest .prev turnLast)).cache.flight = some ⟨5, .prev, .partialTurn⟩ ∧
    ((after .frameEvent (turnRequest .next turnLast)).link.queue.getLast?) = some (.report (.turnEdge 6 .next)) := by
  decide +kernel

theorem test_meets_LowWater :
    bound.cache.current = none ∧
    (turnLast.cache.current = some 6 ∧ (turnLast.cache.leaf 6).map Leaf.edge = some (some .last)) ∧
    (reading.cache.current = some 5 ∧ (reading.cache.leaf 5).map Leaf.edge = some none ∧ stepLeaf (jumpLeaf 5 0 .next) .next = some 6 ∧
      (reading.cache.leaf 6).map (fun l => (l.mode, l.edge)) = some (.ready, some .last)) ∧
    (1 ≤ 6 ∧ (turnLast.cache.leaf (jumpLeaf 6 1 .prev)).map (fun l => (l.mode, l.edge)) = some (.ready, none) ∧
      stepLeaf (jumpLeaf 6 1 .prev) .prev = some 4 ∧ turnLast.cache.leaf 4 = none) ∧
    (turnLast.cache.flight.isSome = true ∧ reading.cache.flight = none) := by decide +kernel

theorem test_meets_LeafFillEvicts :
    (scarce 0 bound).serves ∧ bound.cache.leaf 4 = none ∧
    ((scarce 0 bound).cache.fillVictims 4).map (fun l => (l.number, l.blocks.length)) = [(5, 1)] ∧
    planeSize bound.pool.geometry = 1 ∧ reportCount bound.link.queue + 1 ≤ 28 ∧ bound.link.queue.length + 1 + 1 ≤ 32 := by
  unfold State.serves; decide +kernel

theorem test_meets_LightSetupUnderLock :
    (after (.setupEnd 1 (.fields ())) panel).coherent ∧ (after (.setupEnd 1 (.fields ())) panel).serves ∧
    State.reset.light.floor ≠ 20 ∧ ((⟨8, 20, 0, none, none, none⟩ : LightSetupArgs).dwell = 0) :=
  ⟨coherent_of _ (by decide +kernel), by unfold State.serves; decide +kernel⟩

/-- SETTLING with a stream paused for sleep. -/
def streamAsleep : State := afterAll [.radioSetup 1 (.fields ⟨true, .b115200, 20, true⟩),
  .streamOpen 1 (.fields ⟨1, 0, 1, 0, 5, [⟨some 5, none, none, .notify⟩]⟩), .sleep 1 (.fields ())] preparing

theorem test_meets_StreamsAtTheirEnds :
    (ended .halt none).coherent ∧ streamAsleep.coherent ∧ writing.coherent ∧
    (after (.radioSetup 1 (.fields ⟨true, .b460800, 20, true⟩)) writing).coherent ∧
    ((ended .halt none).serves ∧ ((ended .halt none).record 0).mode = .ended) ∧
    (streamAsleep.serves ∧ (streamAsleep.record 0).pause = some .sleep) ∧
    (writing.serves ∧ (writing.record 0).flight.isSome = true ∧ writing.radio.released = false) ∧
    ((after (.radioSetup 1 (.fields ⟨true, .b460800, 20, true⟩)) writing).radio.released = true ∧
      (after (.radioSetup 1 (.fields ⟨true, .b460800, 20, true⟩)) writing).radio.waiting = false) ∧
    8 < (running.record 0).segments.length + 8 ∧ openGood { openTwo with id := 255 } = false ∧
    (∀ x ∈ ({} : StreamRecord).segments, x.state ≠ .active ∧ x.state ≠ .waiting) ∧
    (∃ x ∈ (opened.record 0).segments, x.state = .active) :=
  ⟨coherent_of _ (by decide +kernel), coherent_of _ (by decide +kernel), coherent_of _ (by decide +kernel),
    coherent_of _ (by decide +kernel), by unfold State.serves; decide +kernel⟩

theorem test_meets_GoodFrame :
    ((allocateStaging 0 opened).1 = some 0 ∧ (allocateStaging 0 (scarce 0 opened)).1 = none) ∧
    (let s := assembling 7 (frameOf 0 [0x11]) opened
     s.radio.asm = .check ∧ s.radio.waiting = false ∧ s.radio.released = false ∧
      (match s.radio.frame, s.radio.fifo with
        | some a, [.char false d] => (a.check.getD 0 0).toNat * 256 + d.toNat == a.crc.toNat && a.check.length == 1
        | _, _ => false) = true) := by decide +kernel

/-- A record whose segment lacks one byte, with CRC `crc` and action `a`, and another that waits. -/
def oneByteLeft (a : EndAction) (crc : Option Word32) : StreamRecord :=
  [(⟨some 1, crc, none, a⟩ : DescriptorArgs), ⟨none, none, none, .notify⟩].foldl StreamRecord.addDescriptor { id := some 1, mode := .opened }

theorem test_meets_SegmentEnds :
    (oneByteLeft .chain none).segments.map (fun g => (g.state, g.accepted + 1 == g.count, g.pattern)) =
      [(.active, true, none), (.waiting, true, none)] ∧
    ((oneByteLeft .notify (some 9)).takeBytes false [0x11]).failed = true ∧
    (((oneByteLeft .halt none).takeBytes false [0x11]).failed = false ∧
      ((oneByteLeft .halt none).takeBytes false [0x11]).halted = some 1) ∧
    (((oneByteLeft .chain none).takeBytes false [0x11]).failed = false ∧
      ((oneByteLeft .chain none).takeBytes false [0x11]).halted = none) := by decide +kernel

/-- A segment with a pattern of two bytes, one of them seen. -/
def watching : Segment := ⟨1, 9, none, some ⟨[0x11, 0x22], [0xFF, 0xFF]⟩, .notify, .active, 1, 0, crc32Start, [0x11], 0⟩

theorem test_meets_LandmarksAndThreshold :
    ((watching.recent ++ [0x22]).length = 2 ∧ watching.resume ≤ 1 + 1 - 2 ∧ (watching.matchByte 0x22).1 = some 0) ∧
    (watching.matchByte 0x23).1 = none ∧ ({ watching with recent := [] }.matchByte 0x22).1 = none ∧
    ({ watching with resume := 1 }.matchByte 0x22).1 = none ∧ watching.accepted + 1 < watching.count ∧
    (0 < ((ended .notify none).record 0).threshold ∧ ((ended .notify none).record 0).thresholdArmed = false) ∧
    (opened.record 0).threshold = 0 ∧
    (0 < ({ (opened.record 0) with threshold := 1, blocks := [7] }).threshold ∧ (opened.record 0).thresholdArmed = true) := by
  decide +kernel

/-- Leaf 6 on its last frame over the whole panel, asked for by the host, with partial turns counted. -/
def leafLast : State := afterAll [.update 9 (.fields ⟨⟨0, 0, 64, 64⟩, 0, .all, .leaf 6, false, none⟩), .preparingEnd 0, .powerGoodArrive]
  (reading.onCache (fun c => { c with counter := 7 }))

theorem test_meets_HostLeafCompletes :
    leafLast.coherent ∧
    (leafLast.engine.scan.isSome = true ∧ leafLast.rail.mode = .on ∧ leafLast.engine.pending = [] ∧
      (leafLast.lane 0).state = .driving ∧ (leafLast.lane 0).frames = (leafLast.lane 0).index + 1 ∧
      (leafLast.lane 0).origin = .host ∧ (leafLast.lane 0).rect = leafLast.panelRect ∧ (leafLast.lane 0).selection = .all) ∧
    (∀ k, k < 8 → k ≠ 0 → (leafLast.lane k).state ≠ .armed ∧ (leafLast.lane k).state ≠ .driving) ∧
    (leafLast.cache.current = some 6 ∧ (leafLast.slot 0).useCount = 1 ∧ leafLast.cache.counter = 7 ∧
      leafLast.cache.leaves.map (fun l => (l.number, l.mode, l.useCount)) = [(5, .ready, 0), (6, .shown, 1)]) :=
  ⟨coherent_of _ (by decide +kernel), by decide +kernel⟩

theorem test_host_leaf_completes :
    (let t := after .frameEvent leafLast
     t.cache.counter = 0 ∧ (t.slot 0).useCount = 0 ∧
       t.cache.leaves.map (fun l => (l.number, l.mode, l.useCount)) = [(5, .ready, 0), (6, .shown, 0)]) := by decide +kernel

theorem test_meets_Notices :
    ((reading.cache.leaf 6).map Leaf.mode = some .ready ∧ (reading.cache.leaf 5).map Leaf.mode = some .shown ∧
      (filling.cache.leaf 5).map Leaf.mode = some .filling ∧ reading.cache.leaf 7 = none) ∧
    (({ shows := some 6 : Lane }.notice reading.cache).current = some 6 ∧
      ({ source := .leaf 7 : Lane }.notice reading.cache).current = none ∧
      ({ source := .leaf 7 : Lane }.notice reading.cache).anchor = some 5 ∧
      ({ source := .target, keepLeaf := true : Lane }.notice reading.cache) = reading.cache ∧
      ({ source := .target, keepLeaf := false : Lane }.notice reading.cache).current = none) := by decide +kernel

/-- Six bytes where five have room: the stream is paused STARVED. -/
def starved : State := received 0 (List.replicate 6 0x11) opened

theorem test_meets_FrameReports :
    ((starved.record 0).mode = .paused ∧ (starved.record 0).pause = some .starved ∧ opened.link.roomForReport = true ∧
      starved.link.queue.getLast? = some (.report (.streamStarved 1 6 5))) ∧
    ((after (.streamOpen 1 (.fields { openTwo with id := 2 })) opened).record 1).room = (1, true) ∧
    overrun.link.queue.getLast? = some (.report (.streamFailed 1 .overrun)) ∧
    (let s := received 0 [0x11] (scarce 0 opened)
     (s.record 0).mode = .paused ∧ (s.record 0).pause = some .full ∧ (allocateStaging 0 s).1 = none ∧
       (allocateStaging 0 s).2.link.roomForReport = true ∧ s.link.queue.getLast? = some (.report (.streamFull 1 .pool))) ∧
    ((running.onStream (fun t => { t with records := withRecord t.records 0 (fun r => { r with tail := 4096 }) })).record 0).limit = 1 := by
  decide +kernel

theorem test_faulty_descriptors_are_refused :
    (∀ ds ∈ ([[], List.replicate 9 ⟨some 1, none, none, .notify⟩, [⟨some 0, none, none, .notify⟩],
        [⟨some 1, none, some ⟨List.replicate 9 1, [1]⟩, .halt⟩], [⟨some 1, none, some ⟨[1], [1, 1]⟩, .halt⟩],
        [⟨some 1, none, some ⟨[1], []⟩, .halt⟩]] : List (List DescriptorArgs)),
      (after (.segmentAdd 3 (.fields ⟨1, ds⟩)) opened).link.queue.getLast? = some (.reply (plainReply 0x91 3 .badParam))) ∧
    (after (.streamOpen 3 (.fields { openTwo with segments := [⟨some 1, none, some ⟨[1], []⟩, .halt⟩] })) opened).link.queue.getLast? =
      some (.reply (plainReply 0x90 3 .badParam)) := by decide +kernel

/-- With the overflow mark set and every undrained byte in flight, the chunk has length 0 and carries the mark (R160), and reading it
out whole leaves the mark. -/
theorem test_empty_chunk_carries_the_mark :
    (let s := (after (.drainSelect 1 (.fields 1)) writing).onStream (fun t =>
        { t with records := withRecord t.records 0 (fun r =>
          { r with landmarks := List.replicate 32 (1, 0), landmarkOverflow := true }) })
     (makeChunk s).bytes = [] ∧ (makeChunk s).id = some 1 ∧ (makeChunk s).overflow = true ∧
       ((afterAll [.chipSelectAssert, .readDrain, .chipSelectRelease true] s).record 0).landmarkOverflow = true) := by decide +kernel

/-- Three samples alike. -/
def clean (b : Bool) : BitSamples := ⟨b, b, b⟩

/-- The marked character 0x5A on the line: its data bits are 0, 1, 0, 1, 1, 0, 1, 0 from the least significant on, with the samples
`second` for the second of them. -/
def typeOnLine (second : BitSamples) : Instr := .radioCharacter (clean false) (clean true)
  #v[clean false, second, clean false, clean true, clean true, clean false, clean true, clean false]

theorem test_character_is_voted :
    (let t := after (typeOnLine (clean true)) opened
     t.radio.fifo = [.char true 0x5A] ∧ t.radio.counts.noise = 0) ∧
    (let t := after (typeOnLine ⟨true, false, true⟩) opened
     t.radio.fifo = [.char true 0x5A] ∧ t.radio.counts.noise = 1 ∧ t.link.queue.getLast? = some (.report (.radioError .noise))) ∧
    (after (typeOnLine ⟨false, false, true⟩) opened).radio.fifo = [.char true 0x58] := by decide +kernel

/-- HOLD asserted and the running signal on are 0, as the first of their lists. -/
theorem test_listed_values : listedByte true = [0] ∧ listedByte false = [1] := by decide +kernel

end Sys2Proof.Tests
end

section
/-! SUPPORT. The proofs of the obligations of page memory and the block pool, with the lemmas they are built from. -/

namespace Sys2Proof.Machine

set_option Elab.async false

/-! ## The light unit: what its operations leave (R120 to R132) -/

/-- The five fields that `LightState.formDuties` forms (R120 to R122). -/
structure Duties where
  warmDemand : Nat
  coolDemand : Nat
  warmOut : Nat
  coolOut : Nat
  limited : Bool

/-- The duties a light state holds. -/
def LightState.duties (l : LightState) : Duties := ⟨l.warmDemand, l.coolDemand, l.warmOut, l.coolOut, l.limited⟩

/-- A light state with its duties replaced. -/
def LightState.withDuties (l : LightState) (d : Duties) : LightState :=
  { l with warmDemand := d.warmDemand, coolDemand := d.coolDemand, warmOut := d.warmOut, coolOut := d.coolOut,
           limited := d.limited }

/-- The duties that level, warmth, ceilings and allowance call for (R120 to R122). -/
def LightState.dueDuties (l : LightState) : Duties :=
  let d := curveDemand l.curve l.level
  let dw := warmDuty d l.warmth
  let dc := d - dw
  let demand := dw * l.warmCeiling + dc * l.coolCeiling
  let most := l.allowance * 4095
  if demand ≤ most then ⟨dw, dc, dw, dc, false⟩ else ⟨dw, dc, dw * most / demand, dc * most / demand, true⟩

theorem formDuties_eq (l : LightState) : l.formDuties = l.withDuties l.dueDuties := by
  simp only [LightState.formDuties, LightState.withDuties, LightState.dueDuties]
  split <;> rfl

theorem formDuties_eq_self_iff (l : LightState) : l.formDuties = l ↔ l.duties = l.dueDuties := by
  rw [formDuties_eq]
  constructor
  · intro h; exact (congrArg LightState.duties h).symm
  · intro h; rw [← h]; rfl

/-- `LightState.sound` but for the target: the duties are due, and the ramp runs while the level is not the target. -/
def LightState.steady (l : LightState) : Prop := l.duties = l.dueDuties ∧ (l.ramp = none ↔ l.level = l.target)

theorem sound_iff_steady (l : LightState) : l.sound ↔ l.steady ∧ l.target = l.wanted := by
  rw [LightState.sound, formDuties_eq_self_iff, LightState.steady]; tauto

theorem LightState.sound.steady {l : LightState} (h : l.sound) : l.steady := ((sound_iff_steady l).1 h).1

theorem formDuties_steady (l : LightState) (h : l.ramp = none ↔ l.level = l.target) : l.formDuties.steady := by
  rw [formDuties_eq]; exact ⟨rfl, h⟩

/-- Duties formed afresh leave the target and the ramp right. -/
theorem formDuties_sound (l : LightState) (hr : l.ramp = none ↔ l.level = l.target) (ht : l.target = l.wanted) :
    l.formDuties.sound :=
  (sound_iff_steady _).2 ⟨formDuties_steady l hr, by rw [formDuties_eq]; exact ht⟩

theorem jump_eq (l : LightState) : ∃ d, l.jump = { l with level := l.target, ramp := none }.withDuties d :=
  ⟨_, formDuties_eq _⟩

theorem jump_sound (l : LightState) (h : l.target = l.wanted) : l.jump.sound :=
  formDuties_sound _ ⟨fun _ => rfl, fun _ => rfl⟩ h

/-- The target is taken afresh: target, level, ramp and duties are all that may change. -/
theorem retarget_eq (l : LightState) :
    ∃ v r d, l.retarget = { l with target := l.wanted, level := v, ramp := r }.withDuties d := by
  simp only [LightState.retarget]
  split
  case isTrue h => exact ⟨l.level, l.ramp, l.duties, by rw [h]; rfl⟩
  case isFalse h =>
    split
    · exact ⟨l.level, none, l.duties, rfl⟩
    · split
      case h_1 r hr => exact ⟨l.level, l.ramp, l.duties, rfl⟩
      case h_2 hr =>
        split
        · obtain ⟨d, hd⟩ := jump_eq { l with target := l.wanted }
          exact ⟨l.wanted, none, d, hd⟩
        · exact ⟨l.level, _, l.duties, rfl⟩

/-- The target taken afresh makes a steady light sound (R123, R124). -/
theorem retarget_sound (l : LightState) (h : l.steady) : l.retarget.sound := by
  obtain ⟨hd, hr⟩ := h
  simp only [LightState.retarget]
  split
  case isTrue ht => exact (sound_iff_steady l).2 ⟨⟨hd, hr⟩, ht.symm⟩
  case isFalse ht =>
    split
    case isTrue hl => exact (sound_iff_steady _).2 ⟨⟨hd, ⟨fun _ => hl.symm, fun _ => rfl⟩⟩, rfl⟩
    case isFalse hl =>
      split
      case h_1 r hr' =>
        have hr' : l.ramp = some r := hr'
        exact (sound_iff_steady _).2 ⟨⟨hd, by simp [hr', Ne.symm hl]⟩, rfl⟩
      case h_2 hr' =>
        split
        · exact jump_sound _ rfl
        · exact (sound_iff_steady _).2 ⟨⟨hd, by simp [Ne.symm hl]⟩, rfl⟩

/-- A light state follows another within an event: soundness is kept, and allowance and floor are as they were. -/
def LightState.follows (l m : LightState) : Prop :=
  (l.sound → m.sound) ∧ m.allowance = l.allowance ∧ m.floor = l.floor

theorem LightState.follows.refl (l : LightState) : l.follows l := ⟨id, rfl, rfl⟩

theorem LightState.follows.trans {l m n : LightState} (h : l.follows m) (h' : m.follows n) : l.follows n :=
  ⟨h'.1 ∘ h.1, h'.2.1.trans h.2.1, h'.2.2.trans h.2.2⟩

/-- Any change that leaves the light steady is completed by taking the target afresh. -/
theorem retarget_follows {l m : LightState} (h : l.steady → m.steady) (ha : m.allowance = l.allowance)
    (hf : m.floor = l.floor) : l.follows m.retarget := by
  refine ⟨fun hs => retarget_sound m (h hs.steady), ?_⟩
  obtain ⟨v, r, d, he⟩ := retarget_eq m
  rw [he]; exact ⟨ha, hf⟩

/-- Any change of what the duties are formed from is completed by forming them afresh. -/
theorem formDuties_follows {l m : LightState} (hr : m.ramp = l.ramp) (hl : m.level = l.level) (ht : m.target = l.target)
    (hw : m.wanted = l.wanted) (ha : m.allowance = l.allowance) (hf : m.floor = l.floor) : l.follows m.formDuties := by
  refine ⟨fun hs => formDuties_sound m ?_ ?_, ?_⟩
  · rw [hr, hl, ht]; exact hs.steady.2
  · rw [ht, hw]; exact ((sound_iff_steady l).1 hs).2
  · rw [formDuties_eq]; exact ⟨ha, hf⟩

theorem startDwell_eq (l : LightState) : ∃ w, l.startDwell = { l with dwell := w } := by
  simp only [LightState.startDwell]
  split
  · exact ⟨_, rfl⟩
  · exact ⟨l.dwell, rfl⟩

theorem activity_follows (l : LightState) : l.follows l.activity := by
  obtain ⟨w, hw⟩ := startDwell_eq { l with dimmed := false, dark := false }
  simp only [LightState.activity, hw]
  exact retarget_follows id rfl rfl

theorem dwellOver_follows (l : LightState) : l.follows l.dwellOver := retarget_follows id rfl rfl

theorem setTo_follows (v : Nat) (l : LightState) : l.follows (l.setTo v) := retarget_follows id rfl rfl

theorem release_follows (l : LightState) : l.follows l.release := retarget_follows id rfl rfl

theorem wake_follows (radio : Bool) (l : LightState) : l.follows (l.wake radio) := by
  obtain ⟨w, hw⟩ := startDwell_eq { l with hold := false, dimmed := false }
  simp only [LightState.wake, hw]
  exact retarget_follows id rfl rfl

/-- A held light wants level 0, so the ramp runs exactly while the level is above it (R125). -/
theorem settle_follows (l : LightState) : l.follows l.settle := by
  have h : l.follows { l with hold := true }.retarget := retarget_follows id rfl rfl
  refine h.trans ?_
  obtain ⟨v, r, d, he⟩ := retarget_eq { l with hold := true }
  have htarget : ({ l with hold := true }.retarget).target = 0 := by rw [he]; rfl
  have hwanted : ({ l with hold := true }.retarget).wanted = 0 := by rw [he]; rfl
  simp only [LightState.settle]
  generalize { l with hold := true }.retarget = m at htarget hwanted
  split
  case h_1 t ht =>
    refine ⟨fun hs => (sound_iff_steady _).2 ⟨⟨hs.steady.1, ?_⟩, htarget.trans hwanted.symm⟩, rfl, rfl⟩
    have := hs.steady.2
    rw [ht] at this
    simpa using this
  case h_2 hn =>
    split
    case isTrue hpos =>
      refine ⟨fun hs => absurd (hs.steady.2.1 hn) ?_, rfl, rfl⟩
      omega
    case isFalse => exact .refl m

/-- The ramp's step (R124). -/
theorem rampStep_follows (l : LightState) : l.follows l.rampStep := by
  simp only [LightState.rampStep, formDuties_eq]
  have hwanted : ∀ (hs : l.sound), l.target = l.wanted := fun hs => ((sound_iff_steady l).1 hs).2
  split
  case isTrue h => exact ⟨fun hs => (sound_iff_steady _).2 ⟨⟨rfl, ⟨fun _ => h, fun _ => rfl⟩⟩, hwanted hs⟩, rfl, rfl⟩
  case isFalse h =>
    split
    · refine ⟨fun hs => jump_sound _ (hwanted hs), ?_⟩
      rw [LightState.jump, formDuties_eq]; exact ⟨rfl, rfl⟩
    · refine ⟨fun hs => (sound_iff_steady _).2 ⟨⟨rfl, ⟨fun hr => by simp at hr, fun he => absurd he h⟩⟩, hwanted hs⟩, rfl, rfl⟩

theorem warm_follows (w : Nat) (l : LightState) : l.follows (l.warm w) := by
  rw [LightState.warm]
  split
  · exact .refl l
  · exact formDuties_follows rfl rfl rfl rfl rfl rfl

theorem set_follows (a : LightSetArgs) (l : LightState) : l.follows (l.set a) :=
  ((activity_follows l).trans (setTo_follows _ _)).trans (warm_follows _ _)

theorem setRamp_follows (v : Nat) (l : LightState) : l.follows (l.setRamp v) := by
  simp only [LightState.setRamp]
  split
  · refine ⟨fun hs => jump_sound _ ((sound_iff_steady l).1 hs).2, ?_⟩
    rw [LightState.jump, formDuties_eq]; exact ⟨rfl, rfl⟩
  · exact ⟨fun hs => (sound_iff_steady _).2 ((sound_iff_steady l).1 hs), rfl, rfl⟩

theorem setDwell_follows (v : Nat) (l : LightState) : l.follows (l.setDwell v) := by
  rw [LightState.setDwell]
  split
  · exact retarget_follows id rfl rfl
  · split <;> exact ⟨fun hs => (sound_iff_steady _).2 ((sound_iff_steady l).1 hs), rfl, rfl⟩

theorem setCeilings_follows (w c : Nat) (l : LightState) : l.follows (l.setCeilings w c) := by
  rw [LightState.setCeilings]
  split
  · exact .refl l
  · exact formDuties_follows rfl rfl rfl rfl rfl rfl

theorem setDim_follows (v : Nat) (l : LightState) : l.follows (l.setDim v) := retarget_follows id rfl rfl

theorem setup_follows (a : LightSetupArgs) (l : LightState) : l.follows (l.setup a) := by
  have h₁ := setRamp_follows (clampNat 0 255 a.ramp) l
  have h₂ := setDim_follows (clampNat 0 100 a.dim) (l.setRamp (clampNat 0 255 a.ramp))
  have h₃ := setDwell_follows (clampNat 0 3600 a.dwell) ((l.setRamp (clampNat 0 255 a.ramp)).setDim (clampNat 0 100 a.dim))
  simp only [LightState.setup]
  exact ((h₁.trans h₂).trans h₃).trans (setCeilings_follows _ _ _)

theorem curve_follows (ps : List Nat) (l : LightState) : l.follows { l with curve := ps }.formDuties :=
  formDuties_follows rfl rfl rfl rfl rfl rfl

/-! ## What each part of an event leaves of the copies between the blocks -/

/-! ### Within an event -/

/-- How far an event has come with what its parts tell each other: the engine has told whether it is idle, the stream engine
has formed its signals, the rails have told whether they are OFF, and the budget unit has heard of an entry to FAULT. Between
steps all four are done. -/
structure Phase where
  idleTold : Bool := true
  signalsFormed : Bool := true
  railsTold : Bool := true
  faultTold : Bool := true

/-- The engine may be at work: the power controller is told at the end of the event (log 16). -/
def Phase.busy (p : Phase) : Phase := { p with idleTold := false }

/-- A record changed: the signals are to be formed afresh. -/
def Phase.stale (p : Phase) : Phase := { p with signalsFormed := false }

/-- The rails changed: the power controller is still to be told. -/
def Phase.untold (p : Phase) : Phase := { p with railsTold := false }

/-- `State.coherent` within an event, but for what the phase says is still to be told. -/
structure State.inStep (p : Phase) (s : State) : Prop where
  idle : p.idleTold = true → s.power.engineIdle = s.engine.idle
  railsOff : p.railsTold = true → s.power.railsOff = decide (s.rail.mode = .off)
  lightDark : s.power.lightDark = s.light.isDark
  running : s.power.running = s.stream.running
  signals : p.signalsFormed = true →
    s.stream.running = s.stream.anyRunning ∧ s.stream.headroom = s.stream.wantsHeadroom
  headroom : s.radio.headroomCopy = s.stream.headroom
  free : s.radio.freeCopy = s.pool.freeCount
  reserve : s.radio.reserveCopy = s.pool.reserve
  radioMode : s.radio.powerCopy = s.power.mode
  linkMode : s.link.powerCopy = s.power.mode
  budgetMode : s.budget.power = s.power.mode
  rail : if p.faultTold then s.budget.rail = s.rail.mode else s.rail.mode = .fault
  load : s.budget.load = s.engine.load
  floor : s.budget.floor = s.light.floor
  allowance : s.light.allowance = s.budget.allowance
  wakeCount : s.link.wakeCount = worthyCount s.power.mask s.link.queue
  wakeCopy : s.power.wakeCount = s.link.wakeCount
  hold : s.radio.hold = s.radio.holdConditions.any id
  light : s.light.sound

theorem coherent_iff (s : State) : s.coherent ↔ s.inStep {} := by
  constructor
  · rintro ⟨h1, h2, h3, h4, h5, h6, h7, h8, h9, h10, h11, h12, h13, h14, h15, h16, h17, h18, h19, h20⟩
    exact ⟨fun _ => h1, fun _ => h2, h3, h4, fun _ => ⟨h5, h6⟩, h7, h8, h9, h10, h11, h12, h13, h14, h15, h16, h17, h18, h19, h20⟩
  · intro h
    exact ⟨h.idle rfl, h.railsOff rfl, h.lightDark, h.running, (h.signals rfl).1, (h.signals rfl).2, h.headroom, h.free,
      h.reserve, h.radioMode, h.linkMode, h.budgetMode, h.rail, h.load, h.floor, h.allowance, h.wakeCount, h.wakeCopy,
      h.hold, h.light⟩

theorem State.inStep.busy {p : Phase} {s : State} (h : s.inStep p) : s.inStep p.busy := { h with idle := nofun }

theorem State.inStep.stale {p : Phase} {s : State} (h : s.inStep p) : s.inStep p.stale := { h with signals := nofun }

/-- A part of an event takes the copies from one phase to another. -/
def Effect (p q : Phase) (s t : State) : Prop := s.inStep p → t.inStep q

theorem Effect.refl (p : Phase) (s : State) : Effect p p s s := id

theorem Effect.trans {p q r : Phase} {s t u : State} (h : Effect p q s t) (h' : Effect q r t u) : Effect p r s u :=
  h' ∘ h

theorem Effect.busy {p q : Phase} {s t : State} (h : Effect p q s t) : Effect p q.busy s t := fun hs => (h hs).busy

theorem Effect.stale {p q : Phase} {s t : State} (h : Effect p q s t) : Effect p q.stale s t := fun hs => (h hs).stale

theorem Effect.ite {p q : Phase} {s t u : State} (c : Prop) [Decidable c] (ht : c → Effect p q s t)
    (hu : ¬ c → Effect p q s u) : Effect p q s (if c then t else u) := by
  split
  · exact ht ‹_›
  · exact hu ‹_›

theorem foldl_effect {α : Type} {p : Phase} (f : State → α → State) (h : ∀ s a, Effect p p s (f s a)) (l : List α) :
    ∀ s, Effect p p s (l.foldl f s) := by
  induction l with
  | nil => intro s; exact .refl p s
  | cons a l ih => intro s; exact (h s a).trans (ih _)

/-! ### One update of one block -/

theorem onMem_effect (p : Phase) (f : Memory → Memory) (s : State) : Effect p p s (s.onMem f) := fun h => { h with }

theorem onWave_effect (p : Phase) (f : WaveState → WaveState) (s : State) : Effect p p s (s.onWave f) := fun h => { h with }

theorem onKeys_effect (p : Phase) (f : KeyState → KeyState) (s : State) : Effect p p s (s.onKeys f) := fun h => { h with }

theorem onRail_effect (p : Phase) (f : RailState → RailState) (s : State) (hf : (f s.rail).mode = s.rail.mode := by rfl) :
    Effect p p s (s.onRail f) :=
  fun h => { h with
    railsOff := fun hp => by rw [onRail_rail, hf]; exact h.railsOff hp
    rail := by rw [onRail_rail, hf]; exact h.rail }

/-- An engine change that is heard of at the end of the event. -/
theorem onEngine_effect (p : Phase) (f : EngineState → EngineState) (s : State)
    (hf : (f s.engine).load = s.engine.load := by rfl) :
    Effect p p.busy s (s.onEngine f) :=
  fun h => { h with idle := nofun, load := h.load.trans hf.symm }

/-- An engine change that leaves the engine as idle or as busy as it was. -/
theorem onEngine_effect_idle (p : Phase) (f : EngineState → EngineState) (s : State)
    (hf : (f s.engine).load = s.engine.load := by rfl) (hi : (f s.engine).idle = s.engine.idle := by rfl) :
    Effect p p s (s.onEngine f) :=
  fun h => { h with idle := fun hp => (h.idle hp).trans hi.symm, load := h.load.trans hf.symm }

theorem onCache_effect (p : Phase) (f : CacheState → CacheState) (s : State) : Effect p p s (s.onCache f) := fun h => { h with }

/-- The power controller changes what no other block copies. -/
theorem onPower_effect (p : Phase) (f : PowerState → PowerState) (s : State)
    (hi : (f s.power).engineIdle = s.power.engineIdle := by rfl) (ho : (f s.power).railsOff = s.power.railsOff := by rfl)
    (hd : (f s.power).lightDark = s.power.lightDark := by rfl) (hr : (f s.power).running = s.power.running := by rfl)
    (hm : (f s.power).mode = s.power.mode := by rfl) (hk : (f s.power).mask = s.power.mask := by rfl)
    (hc : (f s.power).wakeCount = s.power.wakeCount := by rfl) : Effect p p s (s.onPower f) :=
  fun h => { h with
    idle := fun hp => hi.trans (h.idle hp)
    railsOff := fun hp => ho.trans (h.railsOff hp)
    lightDark := hd.trans h.lightDark
    running := hr.trans h.running
    radioMode := h.radioMode.trans hm.symm
    linkMode := h.linkMode.trans hm.symm
    budgetMode := h.budgetMode.trans hm.symm
    wakeCount := by rw [onPower_power, hk]; exact h.wakeCount
    wakeCopy := hc.trans h.wakeCopy }

/-- The link changes what is neither the queue nor a copy. -/
theorem onLink_effect (p : Phase) (f : LinkState → LinkState) (s : State) (hm : (f s.link).powerCopy = s.link.powerCopy := by rfl)
    (hq : (f s.link).queue = s.link.queue := by rfl) (hc : (f s.link).wakeCount = s.link.wakeCount := by rfl) :
    Effect p p s (s.onLink f) :=
  fun h => { h with
    linkMode := hm.trans h.linkMode
    wakeCount := by rw [onLink_link, hc, hq]; exact h.wakeCount
    wakeCopy := h.wakeCopy.trans hc.symm }

/-- The budget unit changes what is neither a copy nor the allowance. -/
theorem onBudget_effect (p : Phase) (f : BudgetState → BudgetState) (s : State)
    (hp : (f s.budget).power = s.budget.power := by rfl) (hr : (f s.budget).rail = s.budget.rail := by rfl)
    (hl : (f s.budget).load = s.budget.load := by rfl) (hf : (f s.budget).floor = s.budget.floor := by rfl)
    (ha : (f s.budget).allowance = s.budget.allowance := by rfl) : Effect p p s (s.onBudget f) :=
  fun h => { h with
    budgetMode := hp.trans h.budgetMode
    rail := by rw [onBudget_budget, hr]; exact h.rail
    load := hl.trans h.load
    floor := hf.trans h.floor
    allowance := h.allowance.trans ha.symm }

/-- The pool changes neither its free count nor its reserve. -/
theorem onPool_effect (p : Phase) (f : PoolState → PoolState) (s : State) (hf : (f s.pool).freeCount = s.pool.freeCount := by rfl)
    (hr : (f s.pool).reserve = s.pool.reserve := by rfl) : Effect p p s (s.onPool f) :=
  fun h => { h with free := h.free.trans hf.symm, reserve := h.reserve.trans hr.symm }

/-! ### Message queue -/

/-- The standby delay timer is all that follows the five conditions (R175). -/
theorem recheckDoze_eq (p : PowerState) : ∃ t, p.recheckDoze = { p with timer := t } := by
  simp only [PowerState.recheckDoze]
  split
  · split <;> exact ⟨_, rfl⟩
  · exact ⟨p.timer, rfl⟩

theorem recheckDoze_effect (p : Phase) (s : State) : Effect p p s (s.onPower PowerState.recheckDoze) := by
  obtain ⟨t, ht⟩ := recheckDoze_eq s.power
  rw [State.onPower, ht]
  exact onPower_effect p (fun q => { q with timer := t }) s

/-- The mask and the queue change, and the reports are counted afresh (R169, R184). -/
theorem recount_effect (p : Phase) (f : LinkState → LinkState) (mask : List ReportKind) (s : State)
    (hm : (f s.link).powerCopy = s.link.powerCopy := by rfl) :
    Effect p p s (recount ((s.onLink f).onPower (fun q => { q with mask := mask }))) := by
  refine Effect.trans (t := { s with
    link := { f s.link with wakeCount := worthyCount mask (f s.link).queue }
    power := { s.power with mask := mask, wakeCount := worthyCount mask (f s.link).queue } }) ?_ (recheckDoze_effect p _)
  exact fun h => { h with linkMode := hm.trans h.linkMode, wakeCount := rfl, wakeCopy := rfl }

/-- The queue changes and is counted afresh (R169, R184). -/
theorem requeue_effect (p : Phase) (f : LinkState → LinkState) (s : State)
    (hm : (f s.link).powerCopy = s.link.powerCopy := by rfl) : Effect p p s (recount (s.onLink f)) :=
  recount_effect p f s.power.mask s hm

theorem raise_effect (p : Phase) (r : Report) (s : State) : Effect p p s (raise r s) :=
  .ite _ (fun _ => .refl p s) fun _ =>
    .ite _ (fun _ => requeue_effect p _ s) fun _ => onLink_effect p _ s

theorem raiseAll_effect (p : Phase) (rs : List Report) (s : State) : Effect p p s (raiseAll rs s) :=
  foldl_effect _ (fun s r => raise_effect p r s) rs s

theorem replyWith_effect (p : Phase) (code tag : Nat) (st : Status) (x : ReplyState) (s : State) :
    Effect p p s (replyWith code tag st x s) := requeue_effect p _ s

theorem reply_effect (p : Phase) (code tag : Nat) (st : Status) (s : State) : Effect p p s (reply code tag st s) :=
  replyWith_effect p code tag st .none s

/-! ## Within an event: the radio port, the light, the rails, the streams' signals, sleep and waking -/

/-! ### The radio port -/

/-- The radio port keeps the copies it has been handed, and HOLD as its conditions give it. -/
def RadioState.follows (r q : RadioState) : Prop :=
  (r.hold = r.holdConditions.any id → q.hold = q.holdConditions.any id) ∧ q.headroomCopy = r.headroomCopy ∧
    q.freeCopy = r.freeCopy ∧ q.reserveCopy = r.reserveCopy ∧ q.powerCopy = r.powerCopy

theorem RadioState.follows.refl (r : RadioState) : r.follows r := ⟨id, rfl, rfl, rfl, rfl⟩

theorem RadioState.follows.trans {r q u : RadioState} (h : r.follows q) (h' : q.follows u) : r.follows u := by
  obtain ⟨hhold, hhead, hfree, hres, hmode⟩ := h
  obtain ⟨hhold', hhead', hfree', hres', hmode'⟩ := h'
  exact ⟨hhold' ∘ hhold, hhead'.trans hhead, hfree'.trans hfree, hres'.trans hres, hmode'.trans hmode⟩

/-- Any change that keeps the copies is completed by forming HOLD afresh. -/
theorem rehold_follows {r q : RadioState} (hh : q.headroomCopy = r.headroomCopy) (hf : q.freeCopy = r.freeCopy)
    (hr : q.reserveCopy = r.reserveCopy) (hp : q.powerCopy = r.powerCopy) : r.follows q.rehold := ⟨fun _ => rfl, hh, hf, hr, hp⟩

theorem setFifo_follows (q : List FifoEntry) (r : RadioState) : r.follows (r.setFifo q) := rehold_follows rfl rfl rfl rfl

theorem flush_follows (r : RadioState) : r.follows r.flush := (setFifo_follows [] r).trans ⟨id, rfl, rfl, rfl, rfl⟩

theorem toStandby_follows (r : RadioState) : r.follows r.toStandby := (flush_follows r).trans ⟨id, rfl, rfl, rfl, rfl⟩

theorem configure_follows (a : RadioArgs) (r : RadioState) : r.follows (r.configure a) := by
  simp only [RadioState.configure]
  split
  case isTrue hr =>
    split
    · exact rehold_follows rfl rfl rfl rfl
    · rename_i ha
      have hr : r.enabled = false := by simpa using hr
      have ha : a.enabled = false := by simpa using ha
      refine ⟨fun h => h.trans ?_, rfl, rfl, rfl, rfl⟩
      simp [RadioState.holdConditions, hr, ha]
  case isFalse hr =>
    have hr : r.enabled = true := by simpa using hr
    split
    case isTrue => exact ⟨fun _ => rfl, rfl, rfl, rfl, rfl⟩
    case isFalse ha =>
      have ha : a.enabled = true := by simpa using ha
      split
      · exact rehold_follows rfl rfl rfl rfl
      · refine ⟨fun h => h.trans ?_, rfl, rfl, rfl, rfl⟩
        simp [RadioState.holdConditions, hr, ha]

theorem resetRadio_follows (r : RadioState) : r.follows (resetRadio r) := rehold_follows rfl rfl rfl rfl

theorem onRadio_effect (p : Phase) (f : RadioState → RadioState) (s : State) (hf : s.radio.follows (f s.radio)) :
    Effect p p s (s.onRadio f) := by
  obtain ⟨hhold, hhead, hfree, hres, hmode⟩ := hf
  exact fun h => { h with
    headroom := hhead.trans h.headroom
    free := hfree.trans h.free
    reserve := hres.trans h.reserve
    radioMode := hmode.trans h.radioMode
    hold := hhold h.hold }

/-- A radio change apart from HOLD, its conditions and the copies. -/
theorem onRadio_effect_quiet (p : Phase) (f : RadioState → RadioState) (s : State)
    (hh : (f s.radio).hold = s.radio.hold := by rfl)
    (hc : (f s.radio).holdConditions = s.radio.holdConditions := by rfl)
    (h₁ : (f s.radio).headroomCopy = s.radio.headroomCopy := by rfl)
    (h₂ : (f s.radio).freeCopy = s.radio.freeCopy := by rfl) (h₃ : (f s.radio).reserveCopy = s.radio.reserveCopy := by rfl)
    (h₄ : (f s.radio).powerCopy = s.radio.powerCopy := by rfl) : Effect p p s (s.onRadio f) :=
  onRadio_effect p f s ⟨fun h => by rw [hh, hc]; exact h, h₁, h₂, h₃, h₄⟩

/-- The pool's free count and reserve reach the port, whatever they have become (R2, R9). -/
theorem handPool_effect (p : Phase) (f : PoolState → PoolState) (s : State) : Effect p p s (handPool (s.onPool f)) :=
  fun h => { h with free := rfl, reserve := rfl, hold := rfl }

theorem countRadio_effect (p : Phase) (c : CountKind) (s : State) : Effect p p s (countRadio c s) :=
  onRadio_effect_quiet p _ s

theorem radioError_effect (p : Phase) (c : CountKind) (k : RadioErrorKind) (s : State) :
    Effect p p s (radioError c k s) :=
  (countRadio_effect p c s).trans <| .ite _ (fun _ => .refl p _) fun _ =>
    (onRadio_effect_quiet p _ _).trans (raise_effect p _ _)

/-! ### The power state and the entry to STANDBY -/

/-- A power state reaches everyone that copies it (R168). -/
theorem setMode_effect (p : Phase) (m : PowerMode) (f : PowerState → PowerState) (s : State)
    (hi : (f s.power).engineIdle = s.power.engineIdle := by rfl) (ho : (f s.power).railsOff = s.power.railsOff := by rfl)
    (hd : (f s.power).lightDark = s.power.lightDark := by rfl) (hr : (f s.power).running = s.power.running := by rfl)
    (hk : (f s.power).mask = s.power.mask := by rfl) (hc : (f s.power).wakeCount = s.power.wakeCount := by rfl) :
    Effect p p s (setMode m (s.onPower f)) :=
  fun h => { h with
    idle := fun hp => hi.trans (h.idle hp)
    railsOff := fun hp => ho.trans (h.railsOff hp)
    lightDark := hd.trans h.lightDark
    running := hr.trans h.running
    radioMode := rfl
    linkMode := rfl
    budgetMode := rfl
    wakeCount := by show _ = worthyCount (f s.power).mask _; rw [hk]; exact h.wakeCount
    wakeCopy := hc.trans h.wakeCopy
    hold := rfl }

theorem mapRecords_any (t : StreamState) (f : StreamRecord → StreamRecord) (g : StreamRecord → Bool) (h : ∀ r, g (f r) = g r) :
    (t.records.map f).any g = t.records.any g := by
  rw [Vector.any_map]
  exact congrArg (Vector.any t.records) (funext h)

/-- The records change, and the signals are still to be formed (R150). -/
theorem onStream_effect_stale (p : Phase) (f : StreamState → StreamState) (s : State)
    (hh : (f s.stream).headroom = s.stream.headroom := by rfl) (hr : (f s.stream).running = s.stream.running := by rfl) :
    Effect p p.stale s (s.onStream f) :=
  fun h => { h with running := h.running.trans hr.symm, signals := nofun, headroom := h.headroom.trans hh.symm }

/-- A record with its stall timer stopped. -/
def StreamRecord.calm (r : StreamRecord) : StreamRecord := { r with stall := none }

theorem stopStalls_effect (p : Phase) (s : State) :
    Effect p p s (s.onStream (fun t => { t with records := t.records.map StreamRecord.calm })) := by
  refine fun h => { h with signals := fun hp => ?_ }
  obtain ⟨h₁, h₂⟩ := h.signals hp
  exact ⟨h₁.trans (mapRecords_any s.stream StreamRecord.calm _ (fun _ => rfl)).symm,
    h₂.trans (mapRecords_any s.stream StreamRecord.calm _ (fun _ => rfl)).symm⟩

theorem stopDwell_effect (p : Phase) (s : State) : Effect p p s (s.onLight (fun l => { l with dwell := none })) :=
  fun h => { h with light := (sound_iff_steady _).2 ((sound_iff_steady s.light).1 h.light) }

theorem enterStandby_effect (p : Phase) (s : State) : Effect p p s (enterStandby s) := by
  have h₁ := setMode_effect p .standby (fun q => { q with leftMode := none, hostAsked := false, timer := none }) s
  have h₂ := h₁.trans (onCache_effect p (fun c => { c with sleepMark := false }) _)
  have h₃ := h₂.trans (stopDwell_effect p _)
  have h₄ := h₃.trans (stopStalls_effect p _)
  have h₅ := h₄.trans (onWave_effect p (fun w => { w with timer := .stopped }) _)
  have h₆ := h₅.trans (onKeys_effect p (fun k => { k with inputs := k.inputs.map KeyInput.toStandby }) _)
  have h₇ := h₆.trans (onRadio_effect p RadioState.toStandby _ (toStandby_follows _))
  exact h₇.trans (onPool_effect p PoolState.askRefresh _)

theorem powerReact_effect (p : Phase) (s : State) : Effect p p s (powerReact s) := by
  rw [powerReact]
  split
  · exact .ite _ (fun _ => enterStandby_effect p s) fun _ => .refl p s
  · exact recheckDoze_effect p s
  · exact .refl p s
  · exact .refl p s
  · exact .refl p s

/-! ### The notices of idleness -/

theorem engineNotify_effect (p : Phase) (s : State) : Effect p.busy p s (engineNotify s) := by
  have htold : Effect p.busy p s (s.onPower (fun q => { q with engineIdle := s.engine.idle })) :=
    fun h => { h with idle := fun _ => rfl }
  rw [engineNotify, tellEngineIdle]
  split
  case isTrue he => exact fun h => { h with idle := fun _ => he }
  case isFalse => exact htold.trans (powerReact_effect p _)

/-- The light changes, and the power controller's copy of its darkness with it (R127). -/
theorem onLight_told_effect (p : Phase) (f : LightState → LightState) (s : State) (hf : s.light.follows (f s.light)) :
    Effect p p s ((s.onLight f).onPower (fun q => { q with lightDark := (f s.light).isDark })) := by
  obtain ⟨hsound, hallow, hfloor⟩ := hf
  exact fun h => { h with
    lightDark := rfl
    floor := h.floor.trans hfloor.symm
    allowance := hallow.trans h.allowance
    light := hsound h.light }

/-- The light unit's copy in the power controller, where it has changed, is what the power controller acts on (R127, R173). -/
theorem tellLightDark_effect {p q : Phase} {s t : State}
    (h : Effect p q s (t.onPower (fun x => { x with lightDark := t.light.isDark }))) :
    Effect p q s (tellLightDark t.light.isDark t) := by
  rw [tellLightDark]
  split
  case isTrue he =>
    have : t.onPower (fun x => { x with lightDark := t.light.isDark }) = t := by
      simp only [State.onPower, ← he]
    rwa [this] at h
  case isFalse => exact h.trans (powerReact_effect q _)

theorem lightEvent_effect (p : Phase) (f : LightState → LightState) (s : State) (hf : s.light.follows (f s.light)) :
    Effect p p s (lightEvent f s) := tellLightDark_effect (onLight_told_effect p f s hf)

theorem lightActivity_effect (p : Phase) (s : State) : Effect p p s (lightActivity s) :=
  .ite _ (fun _ => lightEvent_effect p _ s (activity_follows _)) fun _ => .refl p s

theorem lightRequest_effect (p : Phase) (level : Nat) (s : State) : Effect p p s (lightRequest level s) :=
  .ite _ (fun _ => .refl p s) fun _ =>
    (lightEvent_effect p (fun l => l.setTo level) s (setTo_follows _ _)).trans (raise_effect p _ _)

/-! ### Budget and rails -/

/-- The light under a new allowance (R122). -/
def LightState.allow (l : LightState) (a : Nat) : LightState := { l with allowance := a }.formDuties

theorem allow_floor (a : Nat) (l : LightState) : (l.allow a).floor = l.floor := by rw [LightState.allow, formDuties_eq]; rfl

theorem allow_allowance (a : Nat) (l : LightState) : (l.allow a).allowance = a := by rw [LightState.allow, formDuties_eq]; rfl

theorem allow_sound (a : Nat) (l : LightState) (h : l.sound) : (l.allow a).sound :=
  formDuties_sound _ h.steady.2 ((sound_iff_steady l).1 h).2

/-- The state a recomputation leaves before the power controller acts: budget, light, and the copy of the light's darkness. -/
def State.withBudget (s : State) (b : BudgetState) : State :=
  { s with
    budget := b
    light := s.light.allow b.allowance
    power := { s.power with lightDark := (s.light.allow b.allowance).isDark } }

/-- A recomputation changes four fields of the budget unit (R78). -/
theorem recompute_eq (b : BudgetState) :
    ∃ e p o a, b.recompute = { b with effective := e, panel := p, budgetOver := o, allowance := a } := ⟨_, _, _, _, rfl⟩

theorem rebudget_effect {p q : Phase} {s t : State} (f : BudgetState → BudgetState)
    (h : ∀ e n o a, Effect p q s
      (t.withBudget { f t.budget with effective := e, panel := n, budgetOver := o, allowance := a })) :
    Effect p q s (rebudget f t) := by
  obtain ⟨e, n, o, a, he⟩ := recompute_eq (f t.budget)
  have h := h e n o a
  rw [← he] at h
  exact tellLightDark_effect h

/-- A recomputation after a change of what the budget unit alone keeps (R76, R79), or of the load with the engine's (R49). -/
theorem rebudget_effect_load (p : Phase) (g : EngineState → EngineState) (f : BudgetState → BudgetState) (s : State)
    (hi : (g s.engine).idle = s.engine.idle := by rfl) (hp : (f s.budget).power = s.budget.power := by rfl)
    (hr : (f s.budget).rail = s.budget.rail := by rfl)
    (hl : s.budget.load = s.engine.load → (f s.budget).load = (g s.engine).load := by intro _; rfl)
    (hf : (f s.budget).floor = s.budget.floor := by rfl) : Effect p p s (rebudget f (s.onEngine g)) :=
  rebudget_effect f fun _ _ _ _ => fun h => { h with
    idle := fun hi' => (h.idle hi').trans hi.symm
    lightDark := rfl
    budgetMode := hp.trans h.budgetMode
    rail := by have := h.rail; rw [← hr] at this; exact this
    load := hl h.load
    floor := (hf.trans h.floor).trans (allow_floor _ _).symm
    allowance := allow_allowance _ _
    light := allow_sound _ _ h.light }

theorem rebudget_effect_own (p : Phase) (f : BudgetState → BudgetState) (s : State)
    (hp : (f s.budget).power = s.budget.power := by rfl) (hr : (f s.budget).rail = s.budget.rail := by rfl)
    (hl : (f s.budget).load = s.budget.load := by rfl) (hf : (f s.budget).floor = s.budget.floor := by rfl) :
    Effect p p s (rebudget f s) :=
  rebudget_effect_load p id f s rfl hp hr hl.trans hf

theorem stopScan_effect (p : Phase) (s : State) : Effect p p s (stopScan s) :=
  rebudget_effect_load p _ _ s

theorem driveFrame_effect (p : Phase) (s : State) : Effect p p s (driveFrame s) :=
  rebudget_effect_load p _ _ s

/-- A recomputation with a floor handed on by the light unit (R78, R132). -/
theorem rebudget_effect_light (p : Phase) (g : LightState → LightState) (f : BudgetState → BudgetState) (s : State)
    (hg : s.light.sound → (g s.light).sound) (hp : (f s.budget).power = s.budget.power := by rfl)
    (hr : (f s.budget).rail = s.budget.rail := by rfl) (hl : (f s.budget).load = s.budget.load := by rfl)
    (hf : (f s.budget).floor = (g s.light).floor := by rfl) : Effect p p s (rebudget f (s.onLight g)) :=
  rebudget_effect f fun _ _ _ _ => fun h => { h with
    lightDark := rfl
    budgetMode := hp.trans h.budgetMode
    rail := by have := h.rail; rw [← hr] at this; exact this
    load := hl.trans h.load
    floor := hf.trans (allow_floor _ _).symm
    allowance := allow_allowance _ _
    light := allow_sound _ _ (hg h.light) }

theorem setFloor_effect (p : Phase) (v : Nat) (s : State) : Effect p p s (setFloor v s) :=
  .ite _ (fun _ => .refl p s) fun _ => rebudget_effect_light p _ _ s
    (fun h => (sound_iff_steady _).2 ((sound_iff_steady s.light).1 h))

theorem reportLowBattery_effect (p : Phase) (s : State) : Effect p p s (reportLowBattery s) :=
  (onBudget_effect p _ s).trans (raise_effect p _ _)

theorem powerReact_rail (s : State) : (powerReact s).rail = s.rail := by
  have hstandby : (enterStandby s).rail = s.rail := by simp [enterStandby, setMode, handMode]
  cases h : s.power.mode <;> simp only [powerReact, h, onPower_rail]
  split
  · exact hstandby
  · rfl

theorem lightEvent_rail (f : LightState → LightState) (s : State) : (lightEvent f s).rail = s.rail := by
  rw [lightEvent, tellLightDark]
  split
  · rfl
  · exact powerReact_rail _

theorem tellRailsOff_effect (p : Phase) (s : State) : Effect p.untold p s (tellRailsOff (s.rail.mode = .off) s) := by
  have htold : Effect p.untold p s (s.onPower (fun q => { q with railsOff := s.rail.mode = .off })) :=
    fun h => { h with railsOff := fun _ => rfl }
  rw [tellRailsOff]
  split
  case isTrue he => exact fun h => { h with railsOff := fun _ => he }
  case isFalse => exact htold.trans (powerReact_effect p _)

/-- The rails' state is told to everyone that copies it (R63). -/
theorem setRail_effect (p : Phase) (m : RailMode) (s : State) (hp : p.faultTold = true) : Effect p p s (setRail m s) := by
  have hbudget : Effect p p.untold s (rebudget (fun b => { b with rail := m }) (s.onRail (fun r => { r with mode := m }))) :=
    rebudget_effect _ fun _ _ _ _ => fun h => { h with
      railsOff := nofun
      lightDark := rfl
      rail := by show if p.faultTold then m = m else m = .fault; rw [if_pos hp]
      floor := h.floor.trans (allow_floor _ s.light).symm
      allowance := allow_allowance _ _
      light := allow_sound _ _ h.light }
  have htell := tellRailsOff_effect p (rebudget (fun b => { b with rail := m }) (s.onRail (fun r => { r with mode := m })))
  have hm : (rebudget (fun b => { b with rail := m }) (s.onRail (fun r => { r with mode := m }))).rail.mode = m := by
    rw [rebudget, lightEvent_rail]; rfl
  rw [hm] at htell
  exact hbudget.trans htell

theorem startFall_effect (p : Phase) (s : State) (hp : p.faultTold = true) : Effect p p s (startFall s) :=
  (onRail_effect p _ s).trans (setRail_effect p _ _ hp)

theorem enterHold_effect (p : Phase) (s : State) (hp : p.faultTold = true) : Effect p p s (enterHold s) :=
  ((onRail_effect p _ s).trans (setRail_effect p _ _ hp)).trans <|
    .ite _ (fun _ => startFall_effect p _ hp) fun _ => .refl p _

/-- A lane has left ARMED or DRIVING. In FAULT the rails stay, whether the budget unit has heard of it or not. -/
theorem laneLeft_effect (p : Phase) (s : State) : Effect p p s (laneLeft s) := by
  intro h
  have hleft := (onRail_effect p (fun r => { r with armed := r.armed - 1 }) s) h
  rw [laneLeft]
  split
  case isFalse => exact hleft
  case isTrue hon =>
    have hon : s.rail.mode = .on := of_decide_eq_true (Bool.and_eq_true_iff.1 hon).1
    have hp : p.faultTold = true := by
      by_contra hp
      have := h.rail
      rw [if_neg hp, hon] at this
      cases this
    exact enterHold_effect p _ hp hleft

/-! ### The streams' signals -/

theorem handHeadroom_effect (p : Phase) (s : State) :
    Effect p.stale p s ((handHeadroom s).onPower (fun q => { q with running := s.stream.anyRunning })) :=
  fun h => { h with running := rfl, signals := fun _ => ⟨rfl, rfl⟩, headroom := rfl, hold := rfl }

theorem handSignals_effect (p : Phase) (s : State) : Effect p.stale p s (handSignals s) := by
  have htold := handHeadroom_effect p s
  simp only [handSignals, tellRunning]
  split
  case isTrue he =>
    have : (handHeadroom s).onPower (fun q => { q with running := s.stream.anyRunning }) = handHeadroom s := by
      have he : s.power.running = s.stream.anyRunning := he
      simp only [handHeadroom, State.onPower, State.onRadio, State.onStream, ← he]
    rwa [this] at htold
  case isFalse => exact htold.trans (powerReact_effect p _)

/-! ### Sleep and waking -/

theorem settle_effect (p : Phase) (hostAsked : Bool) (s : State) : Effect p p s (settle hostAsked s) := by
  refine .ite _ (fun _ => ?_) fun _ => .refl p s
  have h₁ := setMode_effect p .settling
    (fun q => { q with leftMode := some q.mode, hostAsked := hostAsked, timer := none }) s
  have h₂ := h₁.trans (onCache_effect p (fun c => { c with sleepMark := true }) _)
  have h₃ := h₂.trans (onLight_told_effect p LightState.settle _ (settle_follows _))
  have h₄ := h₃.trans (onStream_effect_stale p StreamState.settle _)
  exact (h₄.trans (handHeadroom_effect p _)).trans (powerReact_effect p _)

theorem cancelSettling_effect (p : Phase) (byLink : Bool) (s : State) : Effect p p s (cancelSettling byLink s) := by
  refine .ite _ (fun _ => ?_) fun _ => .refl p s
  have h₁ := setMode_effect p (if byLink then PowerMode.active else s.power.leftMode.getD .active)
    (fun q => { q with leftMode := none, hostAsked := false }) s
  have h₂ := h₁.trans (onCache_effect p (fun c => { c with sleepMark := false }) _)
  have h₃ := h₂.trans (lightEvent_effect p LightState.release _ (release_follows _))
  have h₄ := h₃.trans (onStream_effect_stale p StreamState.release _)
  exact (h₄.trans (handSignals_effect p _)).trans (recheckDoze_effect p _)

theorem activityNotice_effect (p : Phase) (s : State) : Effect p p s (activityNotice s) := by
  rw [activityNotice]
  split
  · exact cancelSettling_effect p false s
  · exact onPower_effect p _ s
  all_goals exact .refl p s

theorem wakeReport_effect (p : Phase) (c : WakeCause) (s : State) : Effect p p s (wakeReport c s) := by
  cases c with
  | link => exact raise_effect p _ s
  | radio => exact raise_effect p _ s
  | key => exact .refl p s
  | cover => exact .refl p s

theorem beginWaking_effect (p : Phase) (c : WakeCause) (s : State) : Effect p p s (beginWaking c s) := by
  refine .ite _ (fun _ => ?_) fun _ => .refl p s
  have h₁ := setMode_effect p .waking (fun q => { q with
    cause := some c, wakeEnd := some (if c = .link then .active else .doze), linkDuringWake := false }) s
  have h₂ := h₁.trans (onKeys_effect p (fun k => { k with inputs := k.inputs.map (fun i => { i with sense := .none }) }) _)
  have h₃ := h₂.trans (onRadio_effect_quiet p (fun r => { r with watching := false }) _)
  exact (h₃.trans (wakeReport_effect p c _)).trans (onPool_effect p PoolState.askReady _)

theorem linkNotice_effect (p : Phase) (s : State) : Effect p p s (linkNotice s) := by
  rw [linkNotice]
  split
  · exact .refl p s
  · exact setMode_effect p _ _ s
  · exact .ite _ (fun _ => .refl p s) fun _ => cancelSettling_effect p true s
  · exact beginWaking_effect p .link s
  · refine .ite _ (fun _ => .refl p s) fun _ => ?_
    have h := onPower_effect p (fun q => { q with linkDuringWake := true, wakeEnd := some .active }) s
    exact .ite _ (fun _ => h) fun _ => h.trans (raise_effect p _ _)

/-! ## Within an event: slots, leaves, lanes, turns, frames and keys -/

/-! ### Slots, leaves and blocks -/

theorem selectBand_effect (p : Phase) (t : Int) (n : Nat) (s : State) : Effect p p s (selectBand t n s) :=
  .ite _ (fun _ => (onWave_effect p _ s).trans (raiseAll_effect p _ _)) fun _ => .refl p s

theorem takeReading_effect (p : Phase) (reading : Int) (s : State) : Effect p p s (takeReading reading s) :=
  (onWave_effect p _ s).trans (foldl_effect _ (fun s n => selectBand_effect p _ n s) _ _)

theorem onSlot_effect (p : Phase) (n : Nat) (f : Slot → Slot) (s : State) : Effect p p s (onSlot n f s) := onWave_effect p _ s

theorem useSlot_effect (p : Phase) (n : Nat) (s : State) : Effect p p s (useSlot n s) := onSlot_effect p n _ s

theorem unuseSlot_effect (p : Phase) (n : Nat) (s : State) : Effect p p s (unuseSlot n s) := onSlot_effect p n _ s

theorem abandonLoad_effect (p : Phase) (s : State) : Effect p p s (abandonLoad s) := by
  rw [abandonLoad]
  split
  · exact .refl p s
  · exact (onWave_effect p (fun w => { w with load := none }) s).trans (onWave_effect p _ _)

theorem useSource_effect (p : Phase) (src : Source) (s : State) : Effect p p s (useSource src s) := by
  cases src with
  | target => exact .refl p s
  | leaf n => exact onCache_effect p (fun c => c.withLeaf n _) s

theorem unuseSource_effect (p : Phase) (src : Source) (s : State) : Effect p p s (unuseSource src s) := by
  cases src with
  | target => exact .refl p s
  | leaf n => exact onCache_effect p (fun c => c.withLeaf n _) s

theorem allocate_effect (p : Phase) (k : Nat) (o : Owner) (s : State) : Effect p p s (allocate k o s) := handPool_effect p _ s

theorem releaseBlocks_effect (p : Phase) (bs : List Nat) (s : State) : Effect p p s (releaseBlocks bs s) :=
  handPool_effect p _ s

theorem removeLeaf_effect (p : Phase) (l : Leaf) (s : State) : Effect p p s (removeLeaf l s) :=
  (onCache_effect p _ s).trans (releaseBlocks_effect p _ _)

theorem allocateStaging_effect (p : Phase) (r : Nat) (s : State) : Effect p p s (allocateStaging r s).2 := by
  simp only [allocateStaging]
  split
  · exact allocate_effect p _ _ s
  · split
    · exact .refl p s
    · rename_i l _
      have h := (raise_effect p (.leafEvicted l.number) s).trans (removeLeaf_effect p l _)
      split
      · exact h.trans (allocate_effect p _ _ _)
      · exact h

theorem turnAbandoned_effect (p : Phase) (c : MissCause) (s : State) : Effect p p s (turnAbandoned c s) := by
  rw [turnAbandoned]
  split
  · exact .refl p s
  · exact (raise_effect p _ s).trans (onCache_effect p _ _)

/-! ### Lanes and entries -/

theorem onLane_effect (p : Phase) (n : Nat) (f : Lane → Lane) (s : State) : Effect p p.busy s (onLane n f s) :=
  onEngine_effect p _ s

theorem appendEntry_effect (p : Phase) (e : PendingEntry) (s : State) : Effect p p.busy s (appendEntry e s) :=
  (onEngine_effect p (fun g => { g with pending := g.pending ++ [e] }) s).trans
    ((useSlot_effect p.busy e.slot _).trans (useSource_effect p.busy e.source _))

theorem startLane_effect (p : Phase) (n : Nat) (e : PendingEntry) (s : State) : Effect p p.busy s (startLane n e s) := by
  have h : Effect p p s (if (startChoice e s).2.1 = e.slot then s else useSlot (startChoice e s).2.1 (unuseSlot e.slot s)) :=
    .ite _ (fun _ => .refl p s) fun _ => (unuseSlot_effect p e.slot s).trans (useSlot_effect p _ _)
  exact h.trans (onLane_effect p n _ _)

theorem walkFrom_effect (p : Phase) (es : List PendingEntry) :
    ∀ (ahead : List PendingEntry) (s : State), Effect p.busy p.busy s (walkFrom ahead es s) := by
  induction es with
  | nil => intro ahead s; exact onEngine_effect p.busy _ s
  | cons e es ih =>
    intro ahead s
    rw [walkFrom]
    split
    · exact (startLane_effect p.busy _ e s).trans (ih ahead _)
    · exact ih _ s

theorem walk_effect (p : Phase) (s : State) : Effect p p.busy s (walk s) := fun h => walkFrom_effect p _ [] s h.busy

theorem freeLane_effect (p : Phase) (inFrame : Bool) (n : Nat) (s : State) : Effect p p.busy s (freeLane inFrame n s) := by
  have h := (onLane_effect p n (fun _ => {}) s).trans
    ((unuseSlot_effect p.busy (s.lane n).slot _).trans (unuseSource_effect p.busy (s.lane n).source _))
  have h' := h.trans (Effect.ite (c := (s.lane n).armed = true) (fun _ => laneLeft_effect p.busy _) fun _ => .refl p.busy _)
  exact h'.trans (.ite _ (fun _ => stopScan_effect p.busy _) fun _ => .refl p.busy _)

theorem tellLane_effect (p : Phase) (l : Lane) (o : UpdateOutcome) (c : MissCause) (s : State) :
    Effect p p s (tellLane l o c s) := by
  rw [tellLane]
  split
  · exact raise_effect p _ s
  · exact turnAbandoned_effect p c s

theorem endLane_effect (p : Phase) (n : Nat) (o : UpdateOutcome) (c : MissCause) (s : State) :
    Effect p p.busy s (endLane n o c s) := (freeLane_effect p false n s).trans (tellLane_effect p.busy _ o c _)

/-- Something done for each lane or entry, with the power controller still to be told. -/
theorem foldl_busy_effect {α : Type} (p : Phase) (f : State → α → State) (h : ∀ s a, Effect p.busy p.busy s (f s a)) (l : List α)
    (s : State) : Effect p p.busy s (l.foldl f s) := fun hs => foldl_effect f h l s hs.busy

theorem freeChanged_effect (p : Phase) (s : State) : Effect p p.busy s (freeChanged s) :=
  foldl_busy_effect p _ (fun s n => .ite _ (fun _ => endLane_effect p.busy n _ _ s) fun _ => .refl p.busy s) _ s

theorem addUncertain_effect (p : Phase) (r : Rect) (s : State) : Effect p p.busy s (addUncertain r s) := by
  refine .ite _ (fun _ => State.inStep.busy) fun _ => .ite _ (fun _ => onEngine_effect p _ s) fun _ => ?_
  exact (onEngine_effect p (fun e => { e with uncertain := [s.panelRect], whole := true }) s).trans (freeChanged_effect p.busy _)

/-! ### Turns -/

theorem submitTurn_effect (p : Phase) (d : TurnDir) (t : Nat) (s : State) : Effect p p.busy s (submitTurn d t s) := by
  simp only [submitTurn]
  split
  · exact (raise_effect p _ s).busy
  · split
    · exact (raise_effect p _ s).busy
    · exact (((appendEntry_effect p _ s).trans (walk_effect p.busy _)).trans (onCache_effect p.busy _ _)).trans
        (lightActivity_effect p.busy _)

theorem takeTurnTo_effect (p : Phase) (d : TurnDir) (t : Nat) (s : State) : Effect p p.busy s (takeTurnTo d t s) := by
  rw [takeTurnTo]
  split
  · exact (raise_effect p _ s).busy
  · exact .ite _ (fun _ => (raise_effect p _ s).busy) fun _ => submitTurn_effect p d t s

theorem resolveTurn_effect (p : Phase) (d : TurnDir) (wanted : Nat → Nat) (s : State) :
    Effect p p.busy s (resolveTurn d wanted s) := by
  refine .ite _ (fun _ => (raise_effect p _ s).busy) fun _ => ?_
  split
  · exact (raise_effect p _ s).busy
  · exact .ite _ (fun _ => (raise_effect p _ s).busy) fun _ => takeTurnTo_effect p d _ s

theorem turnRequest_effect (p : Phase) (d : TurnDir) (s : State) : Effect p p.busy s (turnRequest d s) := by
  refine .ite _ (fun _ => (raise_effect p _ s).busy) fun _ => ?_
  split
  · exact (onCache_effect p _ s).busy
  · exact resolveTurn_effect p d _ s

theorem resolveDeferred_effect (p : Phase) (s : State) : Effect p p.busy s (resolveDeferred s) := by
  rw [resolveDeferred]
  split
  · exact State.inStep.busy
  · exact (onCache_effect p (fun c => { c with deferred := none }) s).trans (resolveTurn_effect p _ _ _)

theorem turnDone_effect (p : Phase) (l : Lane) (s : State) : Effect p p.busy s (turnDone l s) := by
  simp only [turnDone]
  split
  · exact State.inStep.busy
  · exact ((((onCache_effect p _ s).trans (raise_effect p _ _)).trans (raiseAll_effect p _ _)).trans
      (onCache_effect p _ _)).trans (resolveDeferred_effect p _)

/-! ### Frames -/

theorem joinLane_effect (p : Phase) (n : Nat) (s : State) : Effect p p.busy s (joinLane n s) :=
  .ite _ (fun _ => (onLane_effect p n _ s).trans (onCache_effect p.busy _ _)) fun _ => State.inStep.busy

theorem completedLane_effect (p : Phase) (l : Lane) (s : State) : Effect p p.busy s (completedLane l s) := by
  rw [completedLane]
  split
  · have h := (raise_effect p (.updateDone l.tag .done l.promoted) s).busy
    exact h.trans (.ite _ (fun _ => onCache_effect p.busy _ _) fun _ => .refl p.busy _)
  · exact turnDone_effect p l s

theorem completeLane_effect (p : Phase) (n : Nat) (s : State) : Effect p p.busy s (completeLane n s) := by
  refine .ite _ (fun _ => ?_) fun _ => State.inStep.busy
  have h := onMem_effect p (fun m => m.setPixels (shownBlocks s.pool.geometry)
    ((s.lanePixels (s.lane n)).map (fun q => (q.1, q.2.2)))) s
  have h' := h.trans (Effect.ite (c := (s.lane n).selection = .all)
    (fun _ => onEngine_effect p (fun e => e.clearUncertain (s.lane n).rect) _) fun _ => State.inStep.busy)
  exact (h'.trans (completedLane_effect p.busy _ _)).trans (freeLane_effect p.busy true n _)

theorem eachLane_effect (p : Phase) (f : Nat → State → State) (h : ∀ n s, Effect p.busy p.busy s (f n s)) (s : State) :
    Effect p p.busy s (eachLane f s) := foldl_busy_effect p _ (fun s n => h n s) _ s

theorem advanceLanes_effect (p : Phase) (s : State) : Effect p p.busy s
    (s.onEngine (fun e => { e with lanes := e.lanes.map Lane.advance, scan := some e.framePeriod })) := onEngine_effect p _ s

theorem runFrame_effect (p : Phase) (s : State) : Effect p p.busy s (runFrame s) := by
  have hjoin := eachLane_effect p joinLane (fun n s => joinLane_effect p.busy n s) s
  have hdrive := hjoin.trans (driveFrame_effect p.busy (eachLane joinLane s))
  have hadvance := hdrive.trans (advanceLanes_effect p.busy _)
  have hcomplete := hadvance.trans (eachLane_effect p.busy completeLane (fun n s => completeLane_effect p.busy n s) _)
  have hwalk := hcomplete.trans (walk_effect p.busy _)
  unfold runFrame
  exact hwalk.trans (.ite _ (fun _ => .refl p.busy _) fun _ => stopScan_effect p.busy _)

/-! ### Rails that reach ON or FAULT -/

theorem reportOn_effect (p : Phase) (s : State) : Effect p p.busy s (reportOn s) :=
  .ite _ (fun _ => runFrame_effect p s) fun _ => State.inStep.busy

theorem endRise_effect (p : Phase) (s : State) (hp : p.faultTold = true) : Effect p p.busy s (endRise s) := by
  have h := (onRail_effect p (fun r => { r with rise := none }) s).trans (setRail_effect p .on _ hp)
  exact h.trans (.ite _ (fun _ => (enterHold_effect p _ hp).busy) fun _ => reportOn_effect p _)

theorem startRise_effect (p : Phase) (s : State) (hp : p.faultTold = true) : Effect p p.busy s (startRise s) := by
  have h := (onRail_effect p (fun r => { r with rise := some r.riseTime }) s).trans (setRail_effect p .rising _ hp)
  exact h.trans (.ite _ (fun _ => endRise_effect p _ hp) fun _ => State.inStep.busy)

theorem laneArmed_effect (p : Phase) (s : State) (hp : p.faultTold = true) : Effect p p.busy s (laneArmed s) := by
  have h := onRail_effect p (fun r => { r with armed := r.armed + 1 }) s
  rw [laneArmed]
  split
  · exact h.trans (startRise_effect p _ hp)
  · exact h.busy
  · exact h.trans (reportOn_effect p _)
  · have h' := (h.trans (onRail_effect p (fun r => { r with hold := none }) _)).trans (setRail_effect p .on _ hp)
    exact h'.trans (reportOn_effect p _)
  · exact h.busy
  · exact h.busy

theorem endFall_effect (p : Phase) (s : State) (hp : p.faultTold = true) : Effect p p.busy s (endFall s) := by
  have h := (onRail_effect p (fun r => { r with fall := none }) s).trans (setRail_effect p .off _ hp)
  exact h.trans (.ite _ (fun _ => State.inStep.busy) fun _ => startRise_effect p _ hp)

theorem faultLanes_effect (p : Phase) (s : State) : Effect p p.busy s (faultLanes s) := by
  have hend := eachLane_effect p (fun n s => if (s.lane n).armed then endLane n .railFault .rail s else s)
    (fun n s => .ite _ (fun _ => endLane_effect p.busy n _ _ s) fun _ => .refl p.busy s) s
  have hadd := hend.trans (foldl_busy_effect p.busy (fun s r => addUncertain r s) (fun s r => addUncertain_effect p.busy r s)
    ((s.engine.lanes.toList.filter (fun l => l.state = .driving)).map Lane.rect) _)
  exact hadd.trans (.ite _ (fun _ => stopScan_effect p.busy _) fun _ => .refl p.busy _)

/-- The rails have entered FAULT, and the budget unit has not heard of it yet (R71). -/
def Phase.faulting : Phase := { faultTold := false }

theorem budgetFault_effect (s : State) :
    Effect Phase.faulting.busy (Phase.busy {}) s (rebudget (fun b => { b with rail := .fault }) s) :=
  rebudget_effect _ fun _ _ _ _ h => { h with
    lightDark := rfl
    rail := h.rail.symm
    floor := h.floor.trans (allow_floor _ s.light).symm
    allowance := allow_allowance _ _
    light := allow_sound _ _ h.light }

/-- An entry to FAULT from a state that is not OFF: the power controller's copy stays right, and the budget unit's is brought
in step by the recomputation (R71). -/
theorem enterFault_effect (c : FaultCause) (s : State) (hs : s.rail.mode ≠ .off) : Effect {} {} s (enterFault c s) := by
  have hfault : Effect {} .faulting s (s.onRail (fun r =>
      { r with mode := .fault, cause := some c, rise := none, hold := none, fall := none })) :=
    fun h => { h with
      railsOff := fun hp => (h.railsOff hp).trans (decide_eq_false hs)
      rail := rfl }
  have hlanes := hfault.trans ((faultLanes_effect .faulting _).trans (walk_effect _ _))
  exact hlanes.trans ((budgetFault_effect _).trans ((raise_effect _ (.railFault c s.rail.mode) _).trans
    (engineNotify_effect {} _)))

/-! ### The band answer -/

theorem answerBand_effect (p : Phase) (n : Nat) (s : State) (hp : p.faultTold = true) : Effect p p.busy s (answerBand n s) :=
  .ite _ (fun _ => (endLane_effect p n _ _ s).trans (walk_effect p.busy _)) fun _ =>
    (onLane_effect p n _ s).trans (laneArmed_effect p.busy _ hp)

theorem askBand_effect (p : Phase) (n : Nat) (s : State) (hp : p.faultTold = true) : Effect p p.busy s (askBand n s) := by
  simp only [askBand]
  split
  · exact onLane_effect p n _ s
  · exact (Effect.ite _ (fun _ => selectBand_effect p _ _ s) fun _ => .refl p s).trans (answerBand_effect p n _ hp)

theorem answerHeld_effect (p : Phase) (s : State) (hp : p.faultTold = true) : Effect p p.busy s (answerHeld s) :=
  foldl_busy_effect p _ (fun s n => .ite _ (fun _ => answerBand_effect p.busy n s hp) fun _ => .refl p.busy s) _ s

/-! ### Keys -/

theorem keyNotice_effect (p : Phase) (c : KeyConfig) (e : KeyEvent) (s : State) : Effect p p s (keyNotice c e s) := by
  cases e with
  | press =>
    exact .ite _ (fun _ => settle_effect p false s) fun _ => .ite _ (fun _ => activityNotice_effect p s) fun _ => .refl p s
  | release => exact .ite _ (fun _ => cancelSettling_effect p false s) fun _ => .refl p s
  | again => exact .refl p s

theorem keyRequest_effect (p : Phase) (c : KeyConfig) (e : KeyEvent) (s : State) : Effect p p s (keyRequest c e s) := by
  refine .ite _ (fun _ => .refl p s) fun _ => ?_
  split
  · exact (turnRequest_effect p .next s).trans (engineNotify_effect p _)
  · exact (turnRequest_effect p .prev s).trans (engineNotify_effect p _)
  · exact lightRequest_effect p _ s
  · exact lightRequest_effect p _ s
  all_goals exact .refl p s

theorem keyEvent_effect (p : Phase) (k : Nat) (e : KeyEvent) (time : Nat) (s : State) : Effect p p s (keyEvent k e time s) := by
  have h := (lightActivity_effect p s).trans (Effect.ite (c := keyReported (s.key k).config.action e = true)
    (fun _ => raise_effect p (.key k e time) _) fun _ => .refl p _)
  exact (h.trans (keyNotice_effect p _ e _)).trans (keyRequest_effect p _ e _)

theorem pressKey_effect (p : Phase) (k time : Nat) (s : State) : Effect p p s (pressKey k time s) :=
  (onKeys_effect p _ s).trans (keyEvent_effect p k .press time _)

theorem releaseKey_effect (p : Phase) (k time : Nat) (s : State) : Effect p p s (releaseKey k time s) :=
  (onKeys_effect p _ s).trans (keyEvent_effect p k .release time _)

theorem repeatKey_effect (p : Phase) (k : Nat) (s : State) : Effect p p s (repeatKey k s) :=
  (onKeys_effect p _ s).trans (keyEvent_effect p k .again _ _)

theorem acceptLevel_effect (p : Phase) (k : Nat) (l : Level) (s : State) : Effect p p s (acceptLevel k l s) := by
  have h := onKeys_effect p (fun u => { u with inputs := withRecord u.inputs k (fun i =>
    { i with debounce := none, debounced := (s.key k).meaning l }) }) s
  refine h.trans (.ite _ (fun _ => ?_) fun _ => ?_)
  · exact .ite _ (fun _ => pressKey_effect p k _ _) fun _ => releaseKey_effect p k _ _
  · exact .ite _ (fun _ => onKeys_effect p _ _) fun _ => .refl p _

theorem senseWake_effect (p : Phase) (k : Nat) (s : State) : Effect p p s (senseWake k s) :=
  (onKeys_effect p _ s).trans (beginWaking_effect p _ _)

theorem senseChange_effect (p : Phase) (k : Nat) (l : Level) (s : State) : Effect p p s (senseChange k l s) := by
  have h := onKeys_effect p (fun u => { u with inputs := withRecord u.inputs k (fun i => { i with raw := l }) }) s
  simp only [senseChange]
  split
  · exact h
  · exact h.trans (.ite _ (fun _ => .refl p _) fun _ => onKeys_effect p _ _)
  · exact h.trans (.ite _ (fun _ => senseWake_effect p k _) fun _ => .refl p _)

theorem deliverLatched_effect (p : Phase) (k time : Nat) (s : State) : Effect p p s (deliverLatched k time s) :=
  .ite _
    (fun _ => (releaseKey_effect p k time s).trans (.ite _ (fun _ => pressKey_effect p k _ _) fun _ => .refl p _))
    fun _ => (pressKey_effect p k time s).trans (.ite _ (fun _ => .refl p _) fun _ => releaseKey_effect p k _ _)

theorem keysAwake_effect (p : Phase) (s : State) : Effect p p s (keysAwake s) := by
  rw [keysAwake]
  split
  · exact onKeys_effect p _ s
  · exact ((onKeys_effect p _ s).trans (deliverLatched_effect p _ _ _)).trans
      (.ite _ (fun _ => onKeys_effect p _ _) fun _ => .refl p _)

/-! ## Within an event: stream records, frames handed over, and the assembler -/

/-! ### Stream records -/

theorem withRecord_any {α : Type} {n : Nat} (v : Vector α n) (i : Nat) (f : α → α) (g : α → Bool) (h : ∀ x, g (f x) = g x) :
    (withRecord v i f).any g = v.any g := by
  by_cases hi : i < n
  · rw [withRecord, dif_pos hi, Bool.eq_iff_iff, Vector.any_eq_true, Vector.any_eq_true]
    refine exists_congr fun j => exists_congr fun hj => ?_
    by_cases hij : i = j
    · subst hij; simp [h]
    · simp [Vector.getElem_set_ne, hij]
  · rw [withRecord_beyond v i f (by omega)]

/-- A record changes, and the signals are still to be formed (R150). -/
theorem onRecord_effect_stale (p : Phase) (r : Nat) (f : StreamRecord → StreamRecord) (s : State) :
    Effect p p.stale s (onRecord r f s) := onStream_effect_stale p _ s

/-- A record changes in what the signals are not formed from (R150). -/
theorem onRecord_effect (p : Phase) (r : Nat) (f : StreamRecord → StreamRecord) (s : State)
    (hm : ∀ x, (f x).mode = x.mode := by intro; rfl)
    (hl : ∀ x, (f x).limit = x.limit := by intro; rfl)
    (hb : ∀ x, (f x).blocks.length = x.blocks.length := by intro; rfl) : Effect p p s (onRecord r f s) := by
  refine fun h => { h with signals := fun hp => ?_ }
  obtain ⟨h₁, h₂⟩ := h.signals hp
  exact ⟨h₁.trans (withRecord_any _ r f _ (fun x => by rw [hm])).symm,
    h₂.trans (withRecord_any _ r f _ (fun x => by rw [hm, hl, hb])).symm⟩

theorem pauseStream_effect (p : Phase) (r : Nat) (c : PauseCause) (report : Report) (s : State) :
    Effect p p s (pauseStream r c report s) :=
  .ite _
    (fun _ => (onRecord_effect_stale p r (fun x => x.hush c) s).trans
      ((raise_effect p.stale report _).trans (handSignals_effect p _)))
    fun _ => .ite _ (fun _ => .refl p s) fun _ =>
      (onRecord_effect p r _ s).trans (raise_effect p report _)

theorem thresholdRise_effect (p : Phase) (r : Nat) (s : State) : Effect p p s (thresholdRise r s) :=
  .ite _ (fun _ => (onRecord_effect p r _ s).trans (raise_effect p _ _))
    fun _ => .refl p s

/-- A frame is accepted: the signals are formed afresh in each of its three ends (R158, R159). -/
theorem acceptFrame_effect (p : Phase) (r : Nat) (granted : Bool) (payload : List Byte) (s : State) :
    Effect p p s (acceptFrame r granted payload s) := by
  let f := (s.record r).takeBytes granted payload
  have h := (onRecord_effect_stale p r (fun _ => f.record) s).trans (raiseAll_effect p.stale f.reports _)
  have hend : ∀ (g : StreamRecord → StreamRecord) (x : Report) (t : State),
      Effect p.stale p t (handSignals (raise x (onRecord r g t))) := fun g x t =>
    (onRecord_effect_stale p.stale r g t).trans ((raise_effect p.stale x _).trans (handSignals_effect p _))
  refine h.trans (.ite _ (fun _ => hend _ _ _) fun _ => ?_)
  split
  · exact hend _ _ _
  · exact handSignals_effect p _

theorem placeFrame_effect (p : Phase) (r : Nat) (payload : List Byte) (s : State) :
    Effect p p s (placeFrame r payload s).2 := by
  simp only [placeFrame]
  split
  · split
    · exact pauseStream_effect p r _ _ s
    · have h := allocateStaging_effect p r s
      split
      · rename_i s' he
        rw [he] at h
        exact h.trans (pauseStream_effect p r _ _ s')
      · rename_i b s' he
        rw [he] at h
        have hgrown := (onRecord_effect_stale p r (fun x => { x with blocks := x.blocks ++ [b] }) s').trans
          (handSignals_effect p _)
        exact h.trans (hgrown.trans ((thresholdRise_effect p r _).trans (acceptFrame_effect p r true payload _)))
  · exact acceptFrame_effect p r false payload s

theorem expectedFrame_effect (p : Phase) (r : Nat) (payload : List Byte) (s : State) :
    Effect p p s (expectedFrame r payload s).2 := by
  simp only [expectedFrame]
  split
  · have h := placeFrame_effect p r payload s
    split <;> rename_i s' he <;> rw [he] at h <;> exact h
  · split
    · exact (onRecord_effect_stale p r _ s).trans ((raise_effect p.stale _ _).trans (handSignals_effect p _))
    · exact pauseStream_effect p r _ _ s

theorem decideFrame_effect (p : Phase) (f : Frame) (s : State) : Effect p p s (decideFrame f s).2 := by
  simp only [decideFrame]
  split
  · exact .refl p s
  · split
    · exact .refl p s
    · split
      · exact .refl p s
      · split
        · exact .ite _ (fun _ => onRecord_effect p _ _ s) fun _ => .refl p s
        · split
          · exact expectedFrame_effect p _ _ s
          · split
            · exact (onRecord_effect p _ _ s).trans (pauseStream_effect p _ _ _ _)
            · exact onRecord_effect p _ _ s

theorem commitChunk_effect (p : Phase) (c : Chunk) (s : State) : Effect p p s (commitChunk c s) := by
  simp only [commitChunk]
  split
  · exact .refl p s
  · rename_i n _
    have hdrain := (onRecord_effect_stale p n (fun r => r.drain c) s).trans
      (onRecord_effect_stale p.stale n StreamRecord.dropBlocks _)
    have hrelease (gone : List Nat) := hdrain.trans ((releaseBlocks_effect p.stale gone _).trans
      (onRecord_effect_stale p.stale n (fun r => r.prune.dropLandmarks c) _))
    exact (hrelease _).trans ((Effect.ite _ (fun _ => .refl p.stale _) fun _ =>
      onRecord_effect_stale p.stale n StreamRecord.thresholdFall _).trans (handSignals_effect p _))

/-! ### The port's answers and the assembler -/

theorem idleAssembler_effect (p : Phase) (s : State) : Effect p p s (s.onRadio RadioState.idleAssembler) :=
  onRadio_effect_quiet p _ s

theorem countAnswer_effect (p : Phase) (a : PortAnswer) (s : State) : Effect p p s (countAnswer a s) := by
  cases a with
  | taken => exact countRadio_effect p _ s
  | orphan => exact countRadio_effect p _ s

theorem handFrame_effect (p : Phase) (s : State) : Effect p p s (handFrame s) := by
  rw [handFrame]
  split
  · exact .refl p s
  · rename_i a _
    have h := decideFrame_effect p a.toFrame s
    split <;> rename_i he <;> rw [he] at h
    · exact h
    · exact h.trans ((countAnswer_effect p _ _).trans (idleAssembler_effect p _))

theorem handOverFrame_effect (p : Phase) (s : State) : Effect p p s (handOverFrame s) :=
  (onRadio_effect_quiet p (fun r => { r with waiting := true, gap := none }) s).trans <|
    .ite _ (fun _ => .refl p _) fun _ => handFrame_effect p _

theorem lateAnswer_effect (p : Phase) (a : PortAnswer) (s : State) : Effect p p s (lateAnswer a s) :=
  (countAnswer_effect p a s).trans <| .ite _
    (fun _ => (onRadio_effect_quiet p (fun r => { r with released := false }) _).trans <|
      .ite _ (fun _ => handFrame_effect p _) fun _ => .refl p _)
    fun _ => idleAssembler_effect p _

theorem dropFrame_effect (p : Phase) (c : CountKind) (k : RadioErrorKind) (s : State) : Effect p p s (dropFrame c k s) :=
  (radioError_effect p c k s).trans (idleAssembler_effect p _)

theorem huntChar_effect (p : Phase) (mark : Bool) (data : Byte) (s : State) : Effect p p s (huntChar mark data s) := by
  refine .ite _ (fun _ => ?_) fun _ => .refl p s
  split
  · exact radioError_effect p _ _ s
  · exact onRadio_effect_quiet p _ s

theorem headerChar_effect (p : Phase) (a : Assembly) (data : Byte) (s : State) : Effect p p s (headerChar a data s) := by
  refine .ite _ (fun _ => onRadio_effect_quiet p _ s) fun _ => ?_
  split
  · exact dropFrame_effect p _ _ s
  · exact onRadio_effect_quiet p _ s

theorem payloadChar_effect (p : Phase) (a : Assembly) (data : Byte) (s : State) : Effect p p s (payloadChar a data s) := by
  unfold payloadChar; exact onRadio_effect_quiet p _ s

theorem checkChar_effect (p : Phase) (a : Assembly) (data : Byte) (s : State) : Effect p p s (checkChar a data s) :=
  .ite _ (fun _ => onRadio_effect_quiet p _ s) fun _ =>
    .ite _ (fun _ => (onRadio_effect_quiet p _ s).trans (handOverFrame_effect p _)) fun _ =>
      dropFrame_effect p _ _ s

theorem takeChar_effect (p : Phase) (mark : Bool) (data : Byte) (s : State) : Effect p p s (takeChar mark data s) := by
  rw [takeChar]
  split
  · exact huntChar_effect p mark data s
  · refine .ite _ (fun _ => (dropFrame_effect p _ _ s).trans (huntChar_effect p mark data _)) fun _ => ?_
    split
    · exact huntChar_effect p mark data s
    · exact headerChar_effect p _ data s
    · exact payloadChar_effect p _ data s
    · exact checkChar_effect p _ data s

theorem takeNote_effect (p : Phase) (s : State) : Effect p p s (takeNote s) :=
  .ite _ (fun _ => .refl p s) fun _ => (countRadio_effect p _ s).trans (idleAssembler_effect p _)

theorem takeEntryAt_effect (p : Phase) (e : FifoEntry) (rest : List FifoEntry) (s : State) :
    Effect p p s (takeEntryAt e rest s) := by
  have h := onRadio_effect p (fun r => r.setFifo rest) s (setFifo_follows rest _)
  cases e with
  | note c => exact h.trans (takeNote_effect p _)
  | char mark data => exact h.trans (takeChar_effect p mark data _)

theorem placeNote_effect (p : Phase) (c : NoteCause) (s : State) : Effect p p s (placeNote c s) :=
  onRadio_effect p _ s (setFifo_follows _ _)

theorem placeChar_effect (p : Phase) (mark : Bool) (data : Byte) (s : State) : Effect p p s (placeChar mark data s) :=
  .ite _ (fun _ => onRadio_effect p _ s (setFifo_follows _ _)) fun _ =>
    (radioError_effect p _ _ s).trans (placeNote_effect p _ _)

theorem closeStream_effect (p : Phase) (n : Nat) (s : State) : Effect p p s (closeStream n s) := by
  have h₁ := (onRecord_effect_stale p n (fun r => r.close .host) s).trans (releaseBlocks_effect p.stale (s.record n).blocks _)
  have h₂ := h₁.trans (onLink_effect p.stale (fun l => { l with transaction := forgetRecord l.transaction n }) _)
  have h₃ := h₂.trans (handSignals_effect p _)
  exact h₃.trans (.ite _ (fun _ => lateAnswer_effect p .taken _) fun _ => .refl p _)

/-! ## Every row keeps the copies between the blocks in step -/

/-- A row leaves the copies in step: it goes on, and what it leaves is coherent where it found them so. -/
def KeepsStep (s : State) (o : Host.Outcome State Fault Refusal) : Prop := ∀ t, o = .next t → Effect {} {} s t

theorem Effect.keepsStep {s t : State} (h : Effect {} {} s t) : KeepsStep s (.next t) := by
  rintro u ⟨⟩; exact h

/-! ### Taking packets -/

theorem popPacket_effect (p : Phase) (i : Instr) (s : State) : Effect p p s (popPacket i s) := by
  rw [popPacket_eq]; exact onLink_effect p (fun l => { l with buffer := bufferAfter i l.buffer }) s

theorem takePacket_effect (p : Phase) (i : Instr) (owner : State → State) (s : State) (h : ∀ s, Effect p p s (owner s)) :
    Effect p p s (takePacket i owner s) :=
  .ite _ (fun _ => (popPacket_effect p i s).trans (h _)) fun _ => .refl p s

theorem withReplyPlace_effect (p : Phase) (owner : State → State) (s : State) (h : ∀ s, Effect p p s (owner s)) :
    Effect p p s (withReplyPlace owner s) :=
  .ite _ (fun _ => (onLink_effect p (fun l => { l with reserved := true }) s).trans (h _)) fun _ => onLink_effect p _ s

theorem takeCommand_effect {α : Type} (p : Phase) (i : Instr) (code tag : Nat) (b : Body α) (owner : α → State → State)
    (s : State)
    (h : ∀ a s, Effect p p s (owner a s)) : Effect p p s (takeCommand i code tag b owner s) := by
  refine takePacket_effect p i _ s fun s => withReplyPlace_effect p _ s fun s => ?_
  cases b with
  | fields a => exact h a s
  | badLength => exact reply_effect p _ _ _ s
  | badParam => exact reply_effect p _ _ _ s

/-! ### The pool and the waveform unit -/

theorem replacePlanes_effect (p : Phase) (a : PanelArgs) (s : State) : Effect p p s (replacePlanes a s) := by
  have hplanes := (releaseBlocks_effect p (s.pool.ownedBy Owner.isPlane) s).trans (handPool_effect p (fun q =>
    ({ q with geometry := some a }.give (List.range (planeSize (some a))) (.plane 0)).give
      (List.range' (planeSize (some a)) (planeSize (some a))) (.plane 1)) _)
  exact hplanes.trans ((onMem_effect p _ _).trans
    (onEngine_effect_idle p (fun e => { e with uncertain := [wholePanel a], whole := true }) _))

theorem ownPanelSetup_effect (p : Phase) (tag : Nat) (a : PanelArgs) (s : State) : Effect p p s (ownPanelSetup tag a s) :=
  .ite _ (fun _ => reply_effect p _ _ _ s) fun _ => .ite _ (fun _ => reply_effect p _ _ _ s) fun _ =>
    .ite _ (fun _ => .ite _ (fun _ => reply_effect p _ _ _ s) fun _ => (replacePlanes_effect p a s).trans
      (reply_effect p _ _ _ _))
      fun _ => reply_effect p _ _ _ s

theorem ownPoolSetup_effect (p : Phase) (tag r : Nat) (s : State) : Effect p p s (ownPoolSetup tag r s) :=
  .ite _ (fun _ => reply_effect p _ _ _ s) fun _ => (handPool_effect p _ s).trans (reply_effect p _ _ _ _)

theorem ownWaveLoad_effect (p : Phase) (tag : Nat) (a : WaveLoadArgs) (s : State) : Effect p p s (ownWaveLoad tag a s) := by
  refine (abandonLoad_effect p s).trans (.ite _ (fun _ => reply_effect p _ _ _ _) fun _ =>
    .ite _ (fun _ => reply_effect p _ _ _ _)
    fun _ => .ite _ (fun _ => reply_effect p _ _ _ _) fun _ => ?_)
  exact (onSlot_effect p _ _ _).trans ((onWave_effect p _ _).trans (reply_effect p _ _ _ _))

theorem dropSlot_effect (p : Phase) (n : Nat) (s : State) : Effect p p s (dropSlot n s) := by
  rw [dropSlot]
  split
  · exact abandonLoad_effect p s
  · exact onSlot_effect p n _ s
  · exact .refl p s

theorem ownWaveDrop_effect (p : Phase) (tag n : Nat) (s : State) : Effect p p s (ownWaveDrop tag n s) :=
  .ite _ (fun _ => reply_effect p _ _ _ s) fun _ => .ite _ (fun _ => reply_effect p _ _ _ s) fun _ =>
    (dropSlot_effect p n s).trans (reply_effect p _ _ _ _)

theorem completeLoad_effect (p : Phase) (l : Load) (s : State) : Effect p p s (completeLoad l s) :=
  (onWave_effect p (fun w => { w with load := none }) s).trans
    (.ite _ (fun _ => (onSlot_effect p l.slot _ _).trans (raise_effect p _ _)) fun _ =>
      (onSlot_effect p l.slot _ _).trans (raise_effect p _ _))

theorem ownTable_effect (p : Phase) (body : List Byte) (s : State) : Effect p p s (ownTable body s) := by
  rw [ownTable]
  split
  · exact raise_effect p _ s
  · exact .ite _ (fun _ => raise_effect p _ s) fun _ => (onMem_effect p _ s).trans
      (.ite _ (fun _ => completeLoad_effect p _ _) fun _ => onWave_effect p _ _)

/-! ### Updates and leaves -/

theorem hostUpdate_effect (p : Phase) (code tag : Nat) (a : UpdateArgs) (s : State) :
    Effect p p s (hostUpdate code tag a s) := by
  rw [hostUpdate]
  split
  · exact reply_effect p _ _ _ s
  · have h := (appendEntry_effect p (hostEntry tag a) s).trans (lightActivity_effect p.busy _)
    exact h.trans ((reply_effect p.busy code tag .accepted _).trans ((walk_effect p.busy _).trans (engineNotify_effect p _)))

theorem cancelOnLane_effect (p : Phase) (tag n : Nat) (s : State) : Effect p p s (cancelOnLane tag n s) := by
  have h := (freeLane_effect p false n s).trans ((reply_effect p.busy 0x31 tag .ok _).trans
    (raise_effect p.busy (.updateDone tag .cancelled (s.lane n).promoted) _))
  have h' := h.trans (Effect.ite (c := (s.lane n).state = .driving)
    (fun _ => addUncertain_effect p.busy (s.lane n).rect _) fun _ => .refl p.busy _)
  exact h'.trans ((walk_effect p.busy _).trans (engineNotify_effect p _))

theorem cancelEntry_effect (p : Phase) (tag : Nat) (e : PendingEntry) (rest : List PendingEntry) (s : State) :
    Effect p p s (cancelEntry tag e rest s) := by
  have h := (onEngine_effect p (fun g => { g with pending := rest }) s).trans
    ((unuseSlot_effect p.busy e.slot _).trans (unuseSource_effect p.busy e.source _))
  exact h.trans ((reply_effect p.busy _ _ _ _).trans ((raise_effect p.busy _ _).trans ((walk_effect p.busy _).trans
    (engineNotify_effect p _))))

theorem ownUpdateCancel_effect (p : Phase) (tag : Nat) (s : State) : Effect p p s (ownUpdateCancel tag s) := by
  rw [ownUpdateCancel]
  split
  · exact cancelOnLane_effect p tag _ s
  · split
    · exact cancelEntry_effect p tag _ _ s
    · exact reply_effect p _ _ _ s

theorem ownTileTarget_effect (p : Phase) (b : TileBody) (s : State) : Effect p p s (ownTileTarget b s) := by
  rw [ownTileTarget]
  split
  · exact raise_effect p _ s
  · cases b with
    | short => exact .refl p s
    | tile dest r pixels => unfold writeTarget; exact onMem_effect p _ s

theorem execPreparingEnd_keeps (n : Nat) (s : State) : KeepsStep s (execPreparingEnd n s) :=
  (Effect.ite _ (fun _ => (onLane_effect {} n _ s).trans ((askBand_effect (Phase.busy {}) n _ rfl).trans
    (engineNotify_effect {} _))) fun _ => .refl {} s).keepsStep

theorem execFrameEvent_keeps (s : State) : KeepsStep s (execFrameEvent s) :=
  (Effect.ite _ (fun _ => (runFrame_effect {} s).trans (engineNotify_effect {} _)) fun _ => .refl {} s).keepsStep

theorem execTempSample_keeps (reading : Int) (s : State) : KeepsStep s (execTempSample reading s) :=
  (Effect.ite _ (fun _ => .refl {} s) fun _ => (takeReading_effect {} reading s).trans
    ((answerHeld_effect {} _ rfl).trans (engineNotify_effect {} _))).keepsStep

theorem createLeaf_effect (p : Phase) (a : LeafFillArgs) (s : State) : Effect p p s (createLeaf a s) := by
  unfold createLeaf
  exact (allocate_effect p _ _ s).trans (onCache_effect p _ _)

theorem fillNew_effect (p : Phase) (tag : Nat) (a : LeafFillArgs) (s : State) : Effect p p s (fillNew tag a s) := by
  rw [fillNew]
  split
  · exact reply_effect p _ _ _ s
  · rename_i vs _
    have h := (foldl_effect _ (fun s l => removeLeaf_effect p l s) vs s).trans (createLeaf_effect p a _)
    exact h.trans ((reply_effect p _ _ _ _).trans (raiseAll_effect p _ _))

theorem ownLeafFill_effect (p : Phase) (tag : Nat) (a : LeafFillArgs) (s : State) : Effect p p s (ownLeafFill tag a s) := by
  refine .ite _ (fun _ => reply_effect p _ _ _ s) fun _ => .ite _ (fun _ => reply_effect p _ _ _ s) fun _ => ?_
  split
  · exact fillNew_effect p tag a s
  · exact .ite _ (fun _ => (onPool_effect p (fun q => q.mark _ false) s).trans ((onCache_effect p _ _).trans
    (reply_effect p _ _ _ _)))
      fun _ => reply_effect p _ _ _ s

theorem ownLeafClose_effect (p : Phase) (tag n : Nat) (s : State) : Effect p p s (ownLeafClose tag n s) := by
  refine .ite _ (fun _ => reply_effect p _ _ _ s) fun _ => ?_
  split
  · exact reply_effect p _ _ _ s
  · exact .ite _ (fun _ => (onCache_effect p _ s).trans (reply_effect p _ _ _ _)) fun _ => reply_effect p _ _ _ s

theorem ownLeafDrop_effect (p : Phase) (tag n : Nat) (s : State) : Effect p p s (ownLeafDrop tag n s) := by
  refine .ite _ (fun _ => reply_effect p _ _ _ s) fun _ => ?_
  split
  · exact reply_effect p _ _ _ s
  · exact .ite _ (fun _ => reply_effect p _ _ _ s) fun _ => (removeLeaf_effect p _ s).trans (reply_effect p _ _ _ _)

theorem lazyClear_effect (p : Phase) (background : Nat) (blocks : List Nat) (s : State) :
    Effect p p s (lazyClear background blocks s) := by
  unfold lazyClear
  exact (onMem_effect p _ s).trans (onPool_effect p (fun q => q.mark (blocks.filter (fun b => !s.pool.written b)) true) _)

theorem ownTileLeaf_effect (p : Phase) (n : Nat) (r : Rect) (pixels : List Byte) (s : State) :
    Effect p p s (ownTileLeaf n r pixels s) := by
  rw [ownTileLeaf]
  split
  · exact raise_effect p _ s
  · split
    · exact .refl p s
    · unfold writeLeaf
      exact (lazyClear_effect p _ _ s).trans (onMem_effect p _ _)

theorem ownShowLeaf_effect (p : Phase) (tag : Nat) (a : ShowLeafArgs) (s : State) : Effect p p s (ownShowLeaf tag a s) := by
  rw [ownShowLeaf]
  split
  · exact reply_effect p _ _ _ s
  · exact hostUpdate_effect p _ _ _ s

theorem ownDeclare_effect (p : Phase) (tag : Nat) (a : ShowLeafArgs) (s : State) : Effect p p s (ownDeclare tag a s) :=
  .ite _ (fun _ => reply_effect p _ _ _ s) fun _ => .ite _ (fun _ => reply_effect p _ _ _ s) fun _ =>
    .ite _ (fun _ => reply_effect p _ _ _ s) fun _ => (onCache_effect p _ s).trans (reply_effect p _ _ _ _)

/-! ### Rails and budget -/

theorem ownRailSetup_effect (p : Phase) (tag : Nat) (a : RailArgs) (s : State) : Effect p p s (ownRailSetup tag a s) :=
  .ite _ (fun _ => reply_effect p _ _ _ s) fun _ => (onRail_effect p (fun r =>
    { r with riseTime := clampNat 1 50 a.rise, fallTime := clampNat 1 50 a.fall, holdTime := clampNat 0 255 a.hold }) s).trans
      (reply_effect p _ _ _ _)

theorem ownRailClear_effect (p : Phase) (tag : Nat) (s : State) (hp : p.faultTold = true) :
    Effect p p s (ownRailClear tag s) := by
  refine .ite _ (fun _ => reply_effect p _ _ _ s) fun _ => .ite _ (fun _ => reply_effect p _ _ _ s) fun _ => ?_
  have h := (onRail_effect p (fun r => { r with cause := none }) s).trans (setRail_effect p .off _ hp)
  exact h.trans ((reply_effect p _ _ _ _).trans ((walk_effect p _).trans (engineNotify_effect p _)))

theorem ownBudgetSetup_effect (p : Phase) (tag : Nat) (a : BudgetArgs) (s : State) : Effect p p s (ownBudgetSetup tag a s) :=
  .ite _ (fun _ => reply_effect p _ _ _ s) fun _ => .ite _ (fun _ => reply_effect p _ _ _ s) fun _ =>
    (rebudget_effect_own p (fun b => { b with normal := a.normal, low := a.low, base := a.base, coeff := a.coeff }) s).trans
      (reply_effect p _ _ _ _)

theorem execPowerGoodArrive_keeps (s : State) : KeepsStep s (execPowerGoodArrive s) :=
  (Effect.ite _ (fun _ => .refl {} s) fun _ => (onRail_effect {} (fun r => { r with powerGood := true }) s).trans
    (.ite _ (fun _ => (endRise_effect {} _ rfl).trans (engineNotify_effect {} _)) fun _ => .refl {} _)).keepsStep

theorem execPowerGoodLost_keeps (s : State) : KeepsStep s (execPowerGoodLost s) := by
  have hlost := onRail_effect {} (fun r => { r with powerGood := false }) s
  refine (Effect.ite _ (fun _ => .refl {} s) fun _ => hlost.trans (.ite _ (fun h => ?_) fun _ => .refl {} _)).keepsStep
  refine enterFault_effect .powerLost _ fun hoff => ?_
  rw [hoff] at h
  exact absurd h (by decide)

theorem execRiseTimerExpire_keeps (s : State) : KeepsStep s (execRiseTimerExpire s) := by
  refine (Effect.ite _ (fun h => enterFault_effect .riseTimeout s fun hoff => ?_) fun _ => .refl {} s).keepsStep
  rw [hoff] at h
  exact absurd h (by simp)

theorem execHoldTimerExpire_keeps (s : State) : KeepsStep s (execHoldTimerExpire s) :=
  (Effect.ite _ (fun _ => startFall_effect {} s rfl) fun _ => .refl {} s).keepsStep

theorem execFallTimerExpire_keeps (s : State) : KeepsStep s (execFallTimerExpire s) :=
  (Effect.ite _ (fun _ => (endFall_effect {} s rfl).trans (engineNotify_effect {} _)) fun _ => .refl {} s).keepsStep

theorem execLowbatChange_keeps (asserted : Bool) (s : State) : KeepsStep s (execLowbatChange asserted s) :=
  (Effect.ite _ (fun _ => .refl {} s) fun _ => (rebudget_effect_own {} (fun b => { b with lowbat := asserted }) s).trans
    (.ite _ (fun _ => onBudget_effect {} _ _) fun _ => .ite _ (fun _ => reportLowBattery_effect {} _) fun _ =>
      onBudget_effect {} _ _)).keepsStep

/-! ### Keys and the light -/

theorem rawChanged_effect (p : Phase) (k : Nat) (l : Level) (s : State) : Effect p p s (rawChanged k l s) := by
  refine .ite _ (fun _ => onKeys_effect p _ s) fun _ => ?_
  split
  · exact onKeys_effect p _ s
  · exact onKeys_effect p _ s
  · exact onKeys_effect p _ s
  · exact senseChange_effect p k l s
  · exact onKeys_effect p _ s

theorem execDebounceExpire_keeps (k : Nat) (s : State) : KeepsStep s (execDebounceExpire k s) := by
  refine Effect.keepsStep ?_
  split
  · exact .refl {} s
  · exact acceptLevel_effect {} k _ s

theorem ownLightSetup_effect (p : Phase) (tag : Nat) (a : LightSetupArgs) (s : State) : Effect p p s (ownLightSetup tag a s) :=
  .ite _ (fun _ => reply_effect p _ _ _ s) fun _ => (lightEvent_effect p (fun l => l.setup a) s (setup_follows a _)).trans
    ((setFloor_effect p _ _).trans (reply_effect p _ _ _ _))

/-! ### The link -/

theorem ownUnknown_effect (p : Phase) (b : UnknownBody) (s : State) : Effect p p s (ownUnknown b s) := by
  cases b with
  | short => exact reply_effect p _ _ _ s
  | code c t => exact reply_effect p _ _ _ s

theorem discardWrite_effect (p : Phase) (c : LinkErrorCause) (s : State) : Effect p p s (discardWrite c s) :=
  (onLink_effect p (fun l => l.endWrite .ignored) s).trans (raise_effect p _ _)

theorem writeByte_effect (p : Phase) (b : Byte) (s : State) : Effect p p s (writeByte b s) := by
  simp only [writeByte]
  split
  · split
    · exact onLink_effect p _ s
    · exact discardWrite_effect p _ s
    · exact onLink_effect p _ s
  all_goals exact .refl p s

theorem execWrite_keeps (bytes : List Byte) (s : State) : KeepsStep s (execWrite bytes s) := by
  have hbegin : Effect {} {} s (if s.link.transaction = .begun then beginWrite s else s) :=
    .ite _ (fun _ => .ite _ (fun _ => discardWrite_effect {} _ s) fun _ => onLink_effect {} _ s) fun _ => .refl {} s
  exact (hbegin.trans (foldl_effect _ (fun s b => writeByte_effect {} b s) bytes _)).keepsStep

theorem statusReadOut_effect (p : Phase) (r : StatusReply) (s : State) : Effect p p s (statusReadOut r s) :=
  (onLink_effect p (fun l => { l with overflow := l.overflow.readOut r.link.overflow r.marks.overflow }) s).trans
    ((onBudget_effect p (fun b => { b with budgetOver := b.budgetOver.readOut r.budget.budgetOver r.marks.budgetOver }) _).trans
      ((onWave_effect p _ _).trans
        (onRadio_effect_quiet p (fun q => { q with counts := lowerCounts q.counts r.radio.counts, marks := [] }) _)))

theorem messageReadOut_effect (p : Phase) (e : Entry) (queued : Bool) (s : State) : Effect p p s (messageReadOut e queued s) := by
  have h : Effect p p s (if queued then recount (s.onLink (fun l => { l with queue := l.queue.tail })) else s) :=
    .ite _ (fun _ => requeue_effect p _ s) fun _ => .refl p s
  simp only [messageReadOut]
  split
  · exact h
  · split
    · exact h.trans (statusReadOut_effect p _ _)
    all_goals exact h

theorem releaseEffect_effect (p : Phase) (t : Transaction) (whole : Bool) (s : State) :
    Effect p p s (releaseEffect t whole s) := by
  unfold releaseEffect
  split
  · exact raise_effect p _ s
  · exact .ite _ (fun _ => messageReadOut_effect p _ _ s) fun _ => .refl p s
  · exact .ite _ (fun _ => commitChunk_effect p _ s) fun _ => .refl p s
  all_goals exact .refl p s

/-! ### The radio port and the streams -/

theorem execRadioCharacter_keeps (start mark : BitSamples) (data : Vector BitSamples 8) (s : State) :
    KeepsStep s (execRadioCharacter start mark data s) :=
  (Effect.ite _ (fun _ => (onRadio_effect_quiet {} (fun r => { r with receiver := .ready }) s).trans
    ((Effect.ite _ (fun _ => radioError_effect {} _ _ _) fun _ => .refl {} _).trans (placeChar_effect {} _ _ _)))
      fun _ => .refl {} s).keepsStep

theorem execFifoTake_keeps (s : State) : KeepsStep s (execFifoTake s) := by
  refine (Effect.ite _ (fun _ => .refl {} s) fun _ => ?_).keepsStep
  split
  · exact .refl {} s
  · exact takeEntryAt_effect {} _ _ s

theorem ownStreamOpen_effect (p : Phase) (tag : Nat) (a : StreamOpenArgs) (s : State) : Effect p p s (ownStreamOpen tag a s) := by
  refine .ite _ (fun _ => reply_effect p _ _ _ s) fun _ => .ite _ (fun _ => reply_effect p _ _ _ s) fun _ => ?_
  split
  · exact reply_effect p _ _ _ s
  · rename_i n _
    have h := (onStream_effect_stale p (fun t => { t with records := t.records.map (fun r => r.loseId a.id) }) s).trans
      (onRecord_effect_stale p.stale n (fun _ => openedRecord a) _)
    exact h.trans ((handSignals_effect p _).trans (reply_effect p _ _ _ _))

/-- Descriptors join a record's queue, and nothing that the signals are formed from changes. -/
theorem addDescriptors_same (ds : List DescriptorArgs) (r : StreamRecord) :
    (ds.foldl StreamRecord.addDescriptor r).mode = r.mode ∧ (ds.foldl StreamRecord.addDescriptor r).limit = r.limit ∧
      (ds.foldl StreamRecord.addDescriptor r).blocks = r.blocks := by
  induction ds generalizing r with
  | nil => exact ⟨rfl, rfl, rfl⟩
  | cons d ds ih => exact ih (r.addDescriptor d)

theorem ownSegmentAdd_effect (p : Phase) (tag : Nat) (a : SegmentAddArgs) (s : State) : Effect p p s (ownSegmentAdd tag a s) := by
  refine .ite _ (fun _ => reply_effect p _ _ _ s) fun _ => ?_
  split
  · exact reply_effect p _ _ _ s
  · refine .ite _ (fun _ => reply_effect p _ _ _ s) fun _ => .ite _ (fun _ => reply_effect p _ _ _ s) fun _ =>
      .ite _ (fun _ => reply_effect p _ _ _ s) fun _ => ?_
    exact (onRecord_effect p _ _ s (fun r => (addDescriptors_same a.segments r).1)
      (fun r => (addDescriptors_same a.segments r).2.1)
      (fun r => congrArg List.length (addDescriptors_same a.segments r).2.2)).trans (reply_effect p _ _ _ _)

theorem withStream_effect (p : Phase) (code tag id : Nat) (f : Nat → State → State) (s : State) (h : ∀ n, Effect p p s (f n s)) :
    Effect p p s (withStream code tag id f s) := by
  refine .ite _ (fun _ => reply_effect p _ _ _ s) fun _ => ?_
  split
  · exact reply_effect p _ _ _ s
  · exact h _

/-- A record changes, the signals are formed afresh, and the command is answered. -/
theorem answerSignals_effect (p : Phase) (code tag n : Nat) (f : StreamRecord → StreamRecord) (s : State) :
    Effect p p s (reply code tag .ok (handSignals (onRecord n f s))) :=
  (onRecord_effect_stale p n f s).trans ((handSignals_effect p _).trans (reply_effect p _ _ _ _))

theorem pauseByHost_effect (p : Phase) (tag n : Nat) (s : State) : Effect p p s (pauseByHost tag n s) := by
  rw [pauseByHost]
  split
  · exact answerSignals_effect p _ _ _ _ s
  · exact answerSignals_effect p _ _ _ _ s
  · exact .ite _ (fun _ => reply_effect p _ _ _ s) fun _ => answerSignals_effect p _ _ _ _ s
  all_goals exact reply_effect p _ _ _ s

theorem resumeByHost_effect (p : Phase) (tag : Nat) (q : Option Nat) (n : Nat) (s : State) :
    Effect p p s (resumeByHost tag q n s) := by
  rw [resumeByHost]
  split
  · exact .ite _ (fun _ => reply_effect p _ _ _ s) fun _ => answerSignals_effect p _ _ _ _ s
  · exact .ite _ (fun _ => reply_effect p _ _ _ s) fun _ => answerSignals_effect p _ _ _ _ s
  · exact .ite _ (fun _ => reply_effect p _ _ _ s) fun _ => answerSignals_effect p _ _ _ _ s
  all_goals exact reply_effect p _ _ _ s

theorem ownStreamQuery_effect (p : Phase) (tag id : Nat) (s : State) : Effect p p s (ownStreamQuery tag id s) := by
  refine .ite _ (fun _ => reply_effect p _ _ _ s) fun _ => ?_
  split
  · exact reply_effect p _ _ _ s
  · exact replyWith_effect p _ _ _ _ s

theorem execPayloadWriteDone_keeps (s : State) : KeepsStep s (execPayloadWriteDone s) := by
  refine Effect.keepsStep ?_
  split
  · exact .refl {} s
  · exact (onMem_effect {} _ s).trans ((onRecord_effect {} _ (fun r => { r with flight := none }) _).trans
    (lateAnswer_effect {} _ _))

/-! ### Power states -/

theorem ownDoze_effect (p : Phase) (tag : Nat) (d : Option Nat) (s : State) : Effect p p s (ownDoze tag d s) := by
  have hdelay := onPower_effect p (fun q => { q with delay := givenOr q.delay (clampNat 1 255) d }) s
  simp only [ownDoze]
  split
  · exact hdelay.trans ((setMode_effect p .doze id _).trans ((recheckDoze_effect p _).trans (reply_effect p _ _ _ _)))
  all_goals exact hdelay.trans (reply_effect p _ _ _ _)

theorem ownWakeMask_effect (p : Phase) (tag : Nat) (ks : List Nat) (s : State) : Effect p p s (ownWakeMask tag ks s) :=
  .ite _ (fun _ => (recount_effect p id _ s).trans (reply_effect p _ _ _ _)) fun _ => reply_effect p _ _ _ s

theorem entered_effect (p : Phase) (s : State) : Effect p p s (s.onPool PoolState.entered) := by
  cases h : s.pool.refresh <;>
    exact onPool_effect p _ s (by simp only [PoolState.entered, h]) (by simp only [PoolState.entered, h])

theorem reportSleptBattery_effect (p : Phase) (s : State) : Effect p p s (reportSleptBattery s) :=
  .ite _ (fun _ => reportLowBattery_effect p s) fun _ => .refl p s

/-- As WAKING completes: the end state, page memory ready, the receiver on an empty FIFO, the streams out of their sleep pauses
(R178). -/
def State.roused (s : State) : State :=
  (((setMode (s.power.wakeEnd.getD .active) (s.onPower (fun p => { p with wakeEnd := none, linkDuringWake := false }))).onPool
    (fun p => { p with refresh := .awake })).onRadio
      (fun r => ((r.setFifo []).startReceiver).rehold)).onStream StreamState.release

/-- Then the streams' signals, the filter's restart and LOW_BATTERY. -/
def State.reported (s : State) : State := reportSleptBattery ((handSignals s.roused).onWave WaveState.restart)

/-- Then the light: what a latched key finds (R178). -/
def State.wakened (s : State) : State :=
  lightEvent (fun l => l.wake (s.power.cause = some .radio && !s.power.linkDuringWake)) s.reported

theorem completeWaking_eq (s : State) :
    completeWaking s = engineNotify ((keysAwake s.wakened).onPower PowerState.recheckDoze) := rfl

theorem wakened_effect (p : Phase) (s : State) : Effect p p s s.wakened := by
  have h₁ := setMode_effect p (s.power.wakeEnd.getD .active) (fun q => { q with wakeEnd := none, linkDuringWake := false }) s
  have h₂ := h₁.trans (onPool_effect p (fun q => { q with refresh := .awake }) _)
  have h₃ := h₂.trans (onRadio_effect p (fun r => ((r.setFifo []).startReceiver).rehold) _ (rehold_follows rfl rfl rfl rfl))
  have h₄ := h₃.trans ((onStream_effect_stale p StreamState.release _).trans (handSignals_effect p _))
  have h₅ := h₄.trans (onWave_effect p WaveState.restart _)
  have h₆ := h₅.trans (reportSleptBattery_effect p _)
  exact h₆.trans (lightEvent_effect p
    (fun l => l.wake (decide (s.power.cause = some .radio) && !s.power.linkDuringWake)) _ (wake_follows _ _))

/-- WAKING completes, in the order of R178. -/
theorem completeWaking_effect (p : Phase) (s : State) : Effect p p s (completeWaking s) :=
  (wakened_effect p s).trans ((keysAwake_effect p _).trans ((recheckDoze_effect p _).busy.trans (engineNotify_effect p _)))

/-! ### Resets -/

theorem resetLane_effect (p : Phase) (n : Nat) (s : State) : Effect p p.busy s (resetLane n s) := by
  refine .ite _ (fun _ => State.inStep.busy) fun _ => (freeLane_effect p false n s).trans ?_
  split
  · exact raise_effect p.busy _ _
  · exact .refl p.busy _

theorem resetEntry_effect (p : Phase) (e : PendingEntry) (s : State) : Effect p p s (resetEntry e s) := by
  have h := (unuseSlot_effect p e.slot s).trans (unuseSource_effect p e.source _)
  unfold resetEntry
  split
  · exact h.trans (raise_effect p _ _)
  · exact h

theorem setPending_effect (p : Phase) (es : List PendingEntry) (s : State) :
    Effect p p.busy s (s.onEngine (fun g => { g with pending := es })) := onEngine_effect p _ s

theorem resetEngine_effect (p : Phase) (s : State) : Effect p p.busy s (resetEngine s) := by
  have hlanes := eachLane_effect p resetLane (fun n s => resetLane_effect p.busy n s) s
  have hpending := hlanes.trans (setPending_effect p.busy [] _)
  have hentries := hpending.trans (foldl_effect (p := p.busy) (fun s e => resetEntry e s)
    (fun s e => resetEntry_effect p.busy e s) s.engine.pending _)
  have hadd := hentries.trans (foldl_effect (p := p.busy) (fun s r => addUncertain r s)
    (fun s r => addUncertain_effect p.busy r s) (drivingRects s.engine) _)
  unfold resetEngine
  exact hadd.trans (stopScan_effect p.busy _)

theorem resetCache_effect (p : Phase) (s : State) : Effect p p s (resetCache s) := by
  unfold resetCache
  exact (foldl_effect _ (fun s l => removeLeaf_effect p l s) _ s).trans (onCache_effect p _ _)

theorem resetStreams_effect (p : Phase) (s : State) : Effect p p s (resetStreams s) := by
  have hrelease := releaseBlocks_effect p (s.pool.ownedBy Owner.isStage) s
  have hclose := hrelease.trans (onStream_effect_stale p
    (fun t => { t with records := t.records.map (fun r => r.close .closedByReset) }) _)
  have hradio := hclose.trans (onRadio_effect_quiet p.stale (fun r => { r with released := false }) _)
  have hlink := hradio.trans (onLink_effect p.stale
    (fun l => { l with transaction := (List.range 4).foldl forgetRecord l.transaction }) _)
  exact hlink.trans (handSignals_effect p _)

theorem resetAll_effect (p : Phase) (tag : Nat) (s : State) : Effect p p s (resetAll tag s) := by
  have hqueue : Effect p p s (emptyQueue s) := requeue_effect p _ s
  have hengine := (hqueue.trans (reply_effect p 0xB4 tag .ok _)).trans
    ((abandonLoad_effect p _).trans (resetEngine_effect p _))
  have hcache := hengine.trans (resetCache_effect p.busy _)
  have hports := hcache.trans ((onKeys_effect p.busy resetKeys _).trans (onRadio_effect p.busy resetRadio _
    (resetRadio_follows _)))
  exact hports.trans ((resetStreams_effect p.busy _).trans (engineNotify_effect p _))

/-! ## Power-on and pin reset, and every row together -/

/-! ### Power-on and pin reset -/

/-- An unlit light is sound under any allowance. -/
theorem dark_light_sound (a : Nat) : ({ allowance := a } : LightState).sound :=
  (sound_iff_steady _).2 ⟨⟨by simp [LightState.duties, LightState.dueDuties, curveDemand, warmDuty], by simp⟩, rfl⟩

theorem reset_engine_idle : State.reset.engine.idle = true := by decide +kernel

theorem reset_signals : State.reset.stream.anyRunning = false ∧ State.reset.stream.wantsHeadroom = false := by decide +kernel

/-- Every lane of a reset engine is FREE. -/
theorem reset_lane_free (n : Nat) : (recordAt State.reset.engine.lanes n {}).state = .free := by
  by_cases hn : n < 8
  · simp [recordAt, State.reset, hn]
  · rw [recordAt_beyond _ _ _ (by omega)]

theorem freshState_inStep (inputs : InputLevels) (s : State) : (freshState inputs s).inStep {} := by
  obtain ⟨e, n, o, a, he⟩ := recompute_eq { lowbat := inputs.lowbat }
  have hfresh : freshState inputs s = { State.reset with
      pending := s.pending
      rail := { powerGood := inputs.powerGood }
      budget := { lowbat := inputs.lowbat, effective := e, panel := n, budgetOver := o, allowance := a }
      light := { allowance := a }
      keys := { inputs := Vector.ofFn (fun k => { raw := inputs.keys[k] }) }
      link := { transaction := abandonedTransaction s.link.transaction } } := by
    simp only [freshState, he]
  rw [hfresh]
  exact {
    idle := fun _ => reset_engine_idle.symm
    railsOff := fun _ => rfl
    lightDark := rfl
    running := rfl
    signals := fun _ => ⟨reset_signals.1.symm, reset_signals.2.symm⟩
    headroom := rfl
    free := rfl
    reserve := rfl
    radioMode := rfl
    linkMode := rfl
    budgetMode := rfl
    rail := rfl
    load := rfl
    floor := rfl
    allowance := rfl
    wakeCount := rfl
    wakeCopy := rfl
    hold := rfl
    light := dark_light_sound a }

theorem announceReset_effect (p : Phase) (k : ResetKind) (s : State) : Effect p p s (announceReset k s) :=
  (raise_effect p _ s).trans (.ite _ (fun _ => reportLowBattery_effect p _) fun _ => .refl p _)

/-- With every lane FREE a collapse frees nothing. -/
theorem freeChanged_of_free (s : State) (h : ∀ n, (s.lane n).state = .free) : freeChanged s = s := by
  have hskip : ∀ l : List Nat, l.foldl (fun s n =>
      if (s.lane n).state ≠ .free && (s.lane n).selection = .changed then endLane n .uncertain .uncertain s else s) s = s := by
    intro l
    induction l with
    | nil => rfl
    | cons n l ih => simpa [h] using ih
  exact hskip _

/-- With every lane FREE an uncertain rectangle changes the uncertain region list alone. -/
theorem addUncertain_of_free (r : Rect) (s : State) (h : ∀ n, (s.lane n).state = .free) :
    ∃ us w, addUncertain r s = s.onEngine (fun e => { e with uncertain := us, whole := w }) := by
  simp only [addUncertain]
  split
  · exact ⟨s.engine.uncertain, s.engine.whole, rfl⟩
  · split
    · exact ⟨_, s.engine.whole, rfl⟩
    · exact ⟨_, true, freeChanged_of_free _ h⟩

theorem addUncertains_effect (p : Phase) (rs : List Rect) : ∀ s : State, (∀ n, (s.lane n).state = .free) →
    Effect p p s (rs.foldl (fun s r => addUncertain r s) s) := by
  induction rs with
  | nil => intro s _; exact .refl p s
  | cons r rs ih =>
    intro s h
    obtain ⟨us, w, he⟩ := addUncertain_of_free r s h
    rw [List.foldl_cons, he]
    exact (onEngine_effect_idle p (fun e => { e with uncertain := us, whole := w }) s).trans (ih _ h)

theorem execPowerOnReset_keeps (inputs : InputLevels) (s : State) : KeepsStep s (execPowerOnReset inputs s) :=
  Effect.keepsStep fun _ => announceReset_effect {} .powerOn _ (freshState_inStep inputs s)

theorem execPinReset_keeps (inputs : InputLevels) (s : State) : KeepsStep s (execPinReset inputs s) := by
  refine Effect.keepsStep fun _ => ?_
  have hpool := handPool_effect {} (fun _ => pinPool s.pool) _ (freshState_inStep inputs s)
  have hmem := onMem_effect {} (fun _ => s.mem) _ hpool
  have hlist := onEngine_effect_idle {} (fun e => { e with uncertain := s.engine.uncertain, whole := s.engine.whole })
    ((handPool ((freshState inputs s).onPool (fun _ => pinPool s.pool))).onMem (fun _ => s.mem)) rfl rfl hmem
  exact announceReset_effect {} .pin _ (addUncertains_effect {} (drivingRects s.engine) _ reset_lane_free hlist)

/-! ### Every row -/

theorem execLightCurve_keeps (tag : Nat) (b : Body (List Nat)) (s : State) : KeepsStep s (execLightCurve tag b s) := by
  refine (takeCommand_effect {} _ _ _ b _ s fun ps s => ?_).keepsStep
  have hcurve : Effect {} {} s (lightEvent (fun l => { l with curve := ps }.formDuties) s) := by
    refine lightEvent_effect {} _ s ?_
    exact curve_follows ps s.light
  split
  · exact reply_effect {} _ _ _ s
  · split
    · exact reply_effect {} _ _ _ s
    · exact hcurve.trans (reply_effect {} _ _ _ _)

theorem tick_effect (s : State) : Effect {} {} s (tickMillisecond s) := onKeys_effect {} _ s

theorem exec_keepsStep (i : Instr) (s : State) : KeepsStep s (exec i s) := by
  cases i with
  | panelSetup tag b => exact (takeCommand_effect {} _ _ _ b _ s fun a s => ownPanelSetup_effect {} tag a s).keepsStep
  | poolSetup tag b => exact (takeCommand_effect {} _ _ _ b _ s fun r s => ownPoolSetup_effect {} tag r s).keepsStep
  | waveLoad tag b => exact (takeCommand_effect {} _ _ _ b _ s fun a s => ownWaveLoad_effect {} tag a s).keepsStep
  | waveAbort tag b =>
    refine (takeCommand_effect {} _ _ _ b _ s fun _ s => ?_).keepsStep
    split
    · exact reply_effect {} _ _ _ s
    · exact (abandonLoad_effect {} s).trans (reply_effect {} _ _ _ _)
  | waveDrop tag b => exact (takeCommand_effect {} _ _ _ b _ s fun n s => ownWaveDrop_effect {} tag n s).keepsStep
  | tempSetup tag b =>
    exact (takeCommand_effect {} _ _ _ b _ s fun _ s => (onWave_effect {} _ s).trans (reply_effect {} _ _ _ _)).keepsStep
  | update tag b => exact (takeCommand_effect {} _ _ _ b _ s fun a s => hostUpdate_effect {} _ tag a s).keepsStep
  | updateCancel tag b => exact (takeCommand_effect {} _ _ _ b _ s fun _ s => ownUpdateCancel_effect {} tag s).keepsStep
  | scanSetup tag b =>
    exact (takeCommand_effect {} _ _ _ b _ s fun p s => (onEngine_effect_idle {}
      (fun e => { e with framePeriod := clampNat 500 5000 p }) s).trans (reply_effect {} _ _ _ _)).keepsStep
  | railSetup tag b => exact (takeCommand_effect {} _ _ _ b _ s fun a s => ownRailSetup_effect {} tag a s).keepsStep
  | railClear tag b => exact (takeCommand_effect {} _ _ _ b _ s fun _ s => ownRailClear_effect {} tag s rfl).keepsStep
  | budgetSetup tag b => exact (takeCommand_effect {} _ _ _ b _ s fun a s => ownBudgetSetup_effect {} tag a s).keepsStep
  | leafFill tag b => exact (takeCommand_effect {} _ _ _ b _ s fun a s => ownLeafFill_effect {} tag a s).keepsStep
  | leafClose tag b => exact (takeCommand_effect {} _ _ _ b _ s fun n s => ownLeafClose_effect {} tag n s).keepsStep
  | leafDrop tag b => exact (takeCommand_effect {} _ _ _ b _ s fun n s => ownLeafDrop_effect {} tag n s).keepsStep
  | showLeaf tag b => exact (takeCommand_effect {} _ _ _ b _ s fun a s => ownShowLeaf_effect {} tag a s).keepsStep
  | showLeafDeclare tag a =>
    exact (takeCommand_effect {} _ _ _ (.fields a) _ s fun a s => ownDeclare_effect {} tag a s).keepsStep
  | cacheSetup tag b =>
    exact (takeCommand_effect {} _ _ _ b _ s fun a s => .ite _
      (fun _ => (onCache_effect {} _ s).trans (reply_effect {} _ _ _ _)) fun _ => reply_effect {} _ _ _ s).keepsStep
  | cacheQuery tag b => exact (takeCommand_effect {} _ _ _ b _ s fun _ s => replyWith_effect {} _ _ _ _ s).keepsStep
  | keySetup tag b =>
    exact (takeCommand_effect {} _ _ _ b _ s fun a s => .ite _ (fun _ => reply_effect {} _ _ _ s)
      fun _ => (onKeys_effect {} _ s).trans (reply_effect {} _ _ _ _)).keepsStep
  | keyQuery tag b => exact (takeCommand_effect {} _ _ _ b _ s fun _ s => replyWith_effect {} _ _ _ _ s).keepsStep
  | lightCurve tag b => exact execLightCurve_keeps tag b s
  | lightSet tag b =>
    exact (takeCommand_effect {} _ _ _ b _ s fun a s =>
      (lightEvent_effect {} (fun l => l.set a) s (set_follows a _)).trans (reply_effect {} _ _ _ _)).keepsStep
  | lightSetup tag b => exact (takeCommand_effect {} _ _ _ b _ s fun a s => ownLightSetup_effect {} tag a s).keepsStep
  | radioSetup tag b =>
    exact (takeCommand_effect {} _ _ _ b _ s fun a s =>
      (onRadio_effect {} _ s (configure_follows a _)).trans (reply_effect {} _ _ _ _)).keepsStep
  | streamOpen tag b => exact (takeCommand_effect {} _ _ _ b _ s fun a s => ownStreamOpen_effect {} tag a s).keepsStep
  | segmentAdd tag b => exact (takeCommand_effect {} _ _ _ b _ s fun a s => ownSegmentAdd_effect {} tag a s).keepsStep
  | streamPause tag b =>
    exact (takeCommand_effect {} _ _ _ b _ s fun _ s =>
      withStream_effect {} _ _ _ _ s fun n => pauseByHost_effect {} tag n s).keepsStep
  | streamResume tag b =>
    exact (takeCommand_effect {} _ _ _ b _ s fun a s => .ite _ (fun _ => reply_effect {} _ _ _ s) fun _ =>
      withStream_effect {} _ _ _ _ s fun n => resumeByHost_effect {} tag _ n s).keepsStep
  | streamClose tag b =>
    exact (takeCommand_effect {} _ _ _ b _ s fun _ s => withStream_effect {} _ _ _ _ s fun n =>
      (closeStream_effect {} n s).trans (reply_effect {} _ _ _ _)).keepsStep
  | streamQuery tag b => exact (takeCommand_effect {} _ _ _ b _ s fun id s => ownStreamQuery_effect {} tag id s).keepsStep
  | drainSelect tag b =>
    exact (takeCommand_effect {} _ _ _ b _ s fun id s => withStream_effect {} _ _ _ _ s fun _ =>
      (onLink_effect {} (fun l => { l with selection := some id }) s).trans (reply_effect {} _ _ _ _)).keepsStep
  | doze tag b => exact (takeCommand_effect {} _ _ _ b _ s fun d s => ownDoze_effect {} tag d s).keepsStep
  | sleep tag b =>
    exact (takeCommand_effect {} _ _ _ b _ s fun _ s => (settle_effect {} true s).trans (reply_effect {} _ _ _ _)).keepsStep
  | wakeMask tag b => exact (takeCommand_effect {} _ _ _ b _ s fun ks s => ownWakeMask_effect {} tag ks s).keepsStep
  | status tag b => exact (takeCommand_effect {} _ _ _ b _ s fun _ s => replyWith_effect {} _ _ _ _ s).keepsStep
  | identify tag b => exact (takeCommand_effect {} _ _ _ b _ s fun _ s => replyWith_effect {} _ _ _ _ s).keepsStep
  | linkSetup tag b =>
    exact (takeCommand_effect {} _ _ _ b _ s fun t s =>
      (onLink_effect {} (fun l => { l with timeout := clampNat 1 64 t }) s).trans (reply_effect {} _ _ _ _)).keepsStep
  | setupEnd tag b =>
    exact (takeCommand_effect {} _ _ _ b _ s fun _ s => .ite _ (fun _ => reply_effect {} _ _ _ s) fun _ =>
      (onLink_effect {} (fun l => { l with locked := true }) s).trans (reply_effect {} _ _ _ _)).keepsStep
  | engineReset tag b =>
    refine Effect.keepsStep ?_
    cases b with
    | fields a => exact takePacket_effect {} _ _ s fun s => resetAll_effect {} tag s
    | badLength => exact takeCommand_effect {} _ _ _ _ _ s fun _ s => resetAll_effect {} tag s
    | badParam => exact takeCommand_effect {} _ _ _ _ _ s fun _ s => resetAll_effect {} tag s
  | unknownCommand b =>
    exact (takePacket_effect {} _ _ s fun s => withReplyPlace_effect {} _ s fun s => ownUnknown_effect {} b s).keepsStep
  | tileTarget b => exact (takePacket_effect {} _ _ s fun s => ownTileTarget_effect {} b s).keepsStep
  | tileLeaf leaf rect pixels => exact (takePacket_effect {} _ _ s fun s => ownTileLeaf_effect {} leaf rect pixels s).keepsStep
  | table body => exact (takePacket_effect {} _ _ s fun s => ownTable_effect {} body s).keepsStep
  | unknownPacketKind kind => exact (takePacket_effect {} _ _ s fun s => raise_effect {} _ s).keepsStep
  | chipSelectAssert =>
    exact (Effect.ite _ (fun _ => (linkNotice_effect {} s).trans (onLink_effect {}
      (fun l => { l with transaction := if servingMode s.power.mode then Transaction.begun else .unserved }) _))
      fun _ => .refl {} s).keepsStep
  | write bytes => exact execWrite_keeps bytes s
  | readMessage =>
    exact (Effect.ite _ (fun _ => onLink_effect {} _ s) fun _ => .ite _ (fun _ => onLink_effect {} _ s)
      fun _ => .refl {} s).keepsStep
  | readDrain =>
    exact (Effect.ite _ (fun _ => onLink_effect {} (fun l => { l with transaction := .readDrain (makeChunk s) }) s)
      fun _ => .ite _ (fun _ => onLink_effect {} _ s) fun _ => .refl {} s).keepsStep
  | voidTransaction =>
    exact (Effect.ite _ (fun _ => (onLink_effect {} (fun l => { l with transaction := .ignored }) s).trans
      (raise_effect {} _ _)) fun _ => .refl {} s).keepsStep
  | chipSelectRelease whole =>
    exact ((onLink_effect {} (fun l => l.endWrite .none) s).trans (releaseEffect_effect {} _ whole _)).keepsStep
  | linkStallExpire => exact (Effect.ite _ (fun _ => discardWrite_effect {} _ s) fun _ => .refl {} s).keepsStep
  | radioCharacter start mark data => exact execRadioCharacter_keeps start mark data s
  | radioLineReturn =>
    exact (Effect.ite _ (fun _ => (onRadio_effect_quiet {} (fun r => { r with receiver := .ready }) s).trans
      ((radioError_effect {} _ _ _).trans (placeNote_effect {} _ _))) fun _ => .refl {} s).keepsStep
  | radioBreak =>
    exact (Effect.ite _ (fun _ => (onRadio_effect_quiet {} (fun r => { r with receiver := .seekHigh, breakHeld := true }) s).trans
      ((countRadio_effect {} _ _).trans (placeNote_effect {} _ _))) fun _ => .refl {} s).keepsStep
  | fifoTake => exact execFifoTake_keeps s
  | gapTimerExpire => exact (Effect.ite _ (fun _ => dropFrame_effect {} _ _ s) fun _ => .refl {} s).keepsStep
  | radioBreakWake =>
    exact (Effect.ite _ (fun _ => (onRadio_effect_quiet {} (fun r => { r with watching := false, breakHeld := true }) s).trans
      ((countRadio_effect {} _ _).trans ((countRadio_effect {} _ _).trans (beginWaking_effect {} _ _))))
      fun _ => .refl {} s).keepsStep
  | payloadWriteDone => exact execPayloadWriteDone_keeps s
  | stallTimerExpire record => exact (Effect.ite _ (fun _ => pauseStream_effect {} _ _ _ s) fun _ => .refl {} s).keepsStep
  | tempSample reading => exact execTempSample_keeps reading s
  | preparingEnd lane => exact execPreparingEnd_keeps lane s
  | frameEvent => exact execFrameEvent_keeps s
  | powerGoodArrive => exact execPowerGoodArrive_keeps s
  | powerGoodLost => exact execPowerGoodLost_keeps s
  | riseTimerExpire => exact execRiseTimerExpire_keeps s
  | holdTimerExpire => exact execHoldTimerExpire_keeps s
  | fallTimerExpire => exact execFallTimerExpire_keeps s
  | lowbatChange asserted => exact execLowbatChange_keeps asserted s
  | keyInputChange key level => exact (Effect.ite _ (fun _ => rawChanged_effect {} key level s) fun _ => .refl {} s).keepsStep
  | debounceExpire key => exact execDebounceExpire_keeps key s
  | keyHoldExpire key => exact (Effect.ite _ (fun _ => repeatKey_effect {} key s) fun _ => .refl {} s).keepsStep
  | keyRepeatExpire key => exact (Effect.ite _ (fun _ => repeatKey_effect {} key s) fun _ => .refl {} s).keepsStep
  | rampStep => exact (Effect.ite _ (fun _ => lightEvent_effect {} _ s (rampStep_follows _)) fun _ => .refl {} s).keepsStep
  | dwellExpire => exact (Effect.ite _ (fun _ => lightEvent_effect {} _ s (dwellOver_follows _)) fun _ => .refl {} s).keepsStep
  | standbyDelayExpire => exact (Effect.ite _ (fun _ => settle_effect {} false s) fun _ => .refl {} s).keepsStep
  | selfRefreshEntered => exact (Effect.ite _ (fun _ => .refl {} s) fun _ => entered_effect {} s).keepsStep
  | wakingComplete => exact (Effect.ite _ (fun _ => completeWaking_effect {} s) fun _ => .refl {} s).keepsStep
  | powerOnReset inputs => exact execPowerOnReset_keeps inputs s
  | pinReset inputs => exact execPinReset_keeps inputs s
  | breakEnd => exact (Effect.ite _ (fun _ => onRadio_effect_quiet {} _ s) fun _ => .refl {} s).keepsStep

theorem step_keepsStep (s : State) : KeepsStep s (step s) := by
  rw [step]
  split
  · rw [idleStep]
    split
    · exact exec_keepsStep _ s
    · exact (tick_effect s).keepsStep
  · rename_i i rest _
    exact fun t ht => fun h => exec_keepsStep i { s with pending := rest } t ht { h with }

/-- Settles O26: every row is made of parts that carry the copies from one phase of the event to the next, and ends with all
told. -/
theorem copiesStayInStep : Obligations.CopiesStayInStep := fun s t hs ht =>
  (coherent_iff t).2 (step_keepsStep s t ht ((coherent_iff s).1 hs))

/-! ## The pool's books fail from a record that was paused as CLOSED -/

/-- A stream paused by the host whose state before the pause is CLOSED, which `State.poolSound` does not exclude, with
block 0 staged. -/
def pausedFromClosed : StreamRecord :=
  { id := some 1, mode := .paused, pause := some .host, beforePause := some .closed, blocks := [0] }

/-- That stream in record 0, its block in the pool's table, and a STREAM_RESUME of it waiting. -/
def resumesIntoClosed : State :=
  { State.reset with
    pending := [.streamResume 1 (.fields ⟨1, none⟩)]
    pool := { table := [⟨0, .stage 0⟩], freeCount := 3903 }
    stream := { records := (Vector.replicate 4 {}).set 0 pausedFromClosed } }

theorem resumesIntoClosed_leavesSound : resumesIntoClosed.leavesSound := ⟨.nil, by decide, nofun⟩

theorem resumesIntoClosed_poolSound : resumesIntoClosed.poolSound := by
  have hentry : ∀ e ∈ resumesIntoClosed.pool.table, e = ⟨0, .stage 0⟩ := fun e he => List.mem_singleton.1 he
  refine ⟨by decide, by decide, by decide, nofun, by decide, by decide, ?_, nofun, ?_, by decide, ?_⟩
  · intro e he i hi; rw [hentry e he] at hi; cases hi
  · intro e he n w hw; rw [hentry e he] at hw; cases hw
  · intro e he r hr; rw [hentry e he] at hr; cases hr; decide

/-- The resume takes the record back to CLOSED with its block still staged. -/
theorem resumesIntoClosed_step :
    ∃ t, step resumesIntoClosed = .next t ∧ (t.record 0).mode = .closed ∧ (t.record 0).blocks = [0] :=
  ⟨_, rfl, by decide +kernel, by decide +kernel⟩

/-- Refutes O25: the pause of a record may hold CLOSED as the state to go back to, and a STREAM_RESUME then leaves a CLOSED
record that holds a block. -/
theorem not_poolBooksStaySound : ¬ Obligations.PoolBooksStaySound := by
  intro h
  obtain ⟨t, ht, hmode, hblocks⟩ := resumesIntoClosed_step
  obtain ⟨-, -, -, -, -, -, -, -, -, hrecords, -⟩ := h _ t resumesIntoClosed_leavesSound resumesIntoClosed_poolSound ht
  have hempty := (hrecords 0 (by decide)).2 hmode
  rw [hblocks] at hempty
  cases hempty

/-! ## The planes, and the pool's allocations and releases (R2, R3, R4, R6, R10, R11) -/

/-! ### Planes -/

/-- A plane takes its image's bytes, rounded up to whole blocks (R6). -/
theorem planeSize_bounds (p : PanelArgs) (h : p.width % 8 = 0) :
    p.width * p.height ≤ 2 * 4096 * planeSize (some p) ∧
      2 * 4096 * planeSize (some p) < p.width * p.height + 2 * 4096 := by
  have heven : p.width * p.height % 2 = 0 := by
    rw [Nat.mul_mod, show p.width % 2 = 0 by omega, Nat.zero_mul, Nat.zero_mod]
  simp only [planeSize, Config.blockBytes]
  omega

/-- Byte `k` of an image lies at offset `k mod 4096` of block `k / 4096` of the list (R6). -/
theorem imageAddr_of_block (blocks : List Nat) (k b : Nat) (h : blocks[k / 4096]? = some b) :
    imageAddr blocks k = 4096 * b + k % 4096 := by
  rw [imageAddr, show Config.blockBytes = 4096 from rfl, List.getD_eq_getElem?_getD, h, Option.getD_some, Nat.mul_comm]

theorem pixel_even (m : Memory) (blocks : List Nat) (k : Nat) :
    Memory.pixel m blocks (2 * k) = (Memory.read m (imageAddr blocks k)).toNat / 16 := by
  rw [Memory.pixel, pixelOf, if_pos (by omega), show 2 * k / 2 = k by omega]

theorem pixel_odd (m : Memory) (blocks : List Nat) (k : Nat) :
    Memory.pixel m blocks (2 * k + 1) = (Memory.read m (imageAddr blocks k)).toNat % 16 := by
  rw [Memory.pixel, pixelOf, if_neg (by omega), show (2 * k + 1) / 2 = k by omega]

/-! ### The lowest free blocks -/

/-- All free blocks, in ascending order (R2, R5). -/
def PoolState.freeBlocks (p : PoolState) : List Nat := (List.range Config.waveBase).filter (fun b => !p.held.contains b)

theorem lowestFree_eq (p : PoolState) (k : Nat) : p.lowestFree k = p.freeBlocks.take k := rfl

theorem mem_freeBlocks (p : PoolState) (b : Nat) : b ∈ p.freeBlocks ↔ b < 3904 ∧ b ∉ p.held := by
  simp [PoolState.freeBlocks, Config.waveBase]

theorem freeBlocks_sorted (p : PoolState) : List.Pairwise (· < ·) p.freeBlocks := List.pairwise_lt_range.filter _

/-- With the held blocks distinct and below the waveform store, the free ones are the rest. -/
theorem freeBlocks_length (p : PoolState) (hn : p.held.Nodup) (hb : ∀ b ∈ p.held, b < 3904) :
    p.freeBlocks.length + p.held.length = 3904 := by
  have hheld : ((List.range 3904).filter (fun b => p.held.contains b)).Perm p.held := by
    refine (List.perm_ext_iff_of_nodup (List.nodup_range.filter _) hn).2 fun b => ?_
    simpa using hb b
  have hsplit := List.length_eq_length_filter_add (l := List.range 3904) (fun b => p.held.contains b)
  rw [hheld.length_eq, List.length_range] at hsplit
  have : p.freeBlocks = (List.range 3904).filter (fun b => !p.held.contains b) := rfl
  rw [this]; omega

theorem lowestFree_length (p : PoolState) (k : Nat) (hn : p.held.Nodup) (hb : ∀ b ∈ p.held, b < 3904)
    (hk : k + p.held.length ≤ 3904) : (p.lowestFree k).length = k := by
  have := freeBlocks_length p hn hb
  rw [lowestFree_eq, List.length_take]; omega

theorem lowestFree_sorted (p : PoolState) (k : Nat) : List.Pairwise (· < ·) (p.lowestFree k) :=
  (freeBlocks_sorted p).sublist (List.take_sublist k _)

theorem lowestFree_free (p : PoolState) (k b : Nat) (h : b ∈ p.lowestFree k) : b < 3904 ∧ b ∉ p.held :=
  (mem_freeBlocks p b).1 (List.mem_of_mem_take h)

/-- A free block that is not among the lowest lies above them all. -/
theorem lowestFree_lowest (p : PoolState) (k b c : Nat) (hb : b ∈ p.lowestFree k) (hc : c ∉ p.lowestFree k) (hlt : c < 3904)
    (hfree : c ∉ p.held) : b < c := by
  have hmem : c ∈ p.freeBlocks := (mem_freeBlocks p c).2 ⟨hlt, hfree⟩
  have hsorted := freeBlocks_sorted p
  rw [lowestFree_eq] at hb hc
  rw [← List.take_append_drop k p.freeBlocks] at hmem hsorted
  have hdrop : c ∈ p.freeBlocks.drop k := (List.mem_append.1 hmem).resolve_left hc
  exact (List.pairwise_append.1 hsorted).2.2 b hb c hdrop

/-! ### Giving and returning blocks -/

theorem insertEntry_perm (e : BlockEntry) (t : List BlockEntry) : (insertEntry e t).Perm (e :: t) := by
  induction t with
  | nil => exact .refl _
  | cons x xs ih =>
    rw [insertEntry]
    split
    · exact .refl _
    · exact (ih.cons x).trans (List.Perm.swap e x xs)

/-- The table after a gift: the old entries and one for each block given. -/
theorem give_table_perm (o : Owner) (blocks : List Nat) : ∀ t : List BlockEntry,
    (blocks.foldl (fun t b => insertEntry ⟨b, o⟩ t) t).Perm (blocks.map (fun b => ⟨b, o⟩) ++ t) := by
  induction blocks with
  | nil => intro t; exact .refl t
  | cons b bs ih =>
    intro t
    refine (ih _).trans ((insertEntry_perm _ t).append_left _ |>.trans ?_)
    exact List.perm_middle

theorem mem_give (p : PoolState) (blocks : List Nat) (o : Owner) (e : BlockEntry) :
    e ∈ (p.give blocks o).table ↔ e ∈ p.table ∨ ∃ b ∈ blocks, e = ⟨b, o⟩ := by
  rw [show (p.give blocks o).table = blocks.foldl (fun t b => insertEntry ⟨b, o⟩ t) p.table from rfl,
    (give_table_perm o blocks p.table).mem_iff]
  simp only [List.mem_append, List.mem_map, or_comm, eq_comm]

theorem block_mem_held (p : PoolState) (e : BlockEntry) (h : e ∈ p.table) : e.block ∈ p.held := List.mem_map_of_mem h

/-- What is given and at once returned leaves the table's entries as they were. -/
theorem mem_release_give (p : PoolState) (blocks : List Nat) (o : Owner) (hfree : ∀ b ∈ blocks, b ∉ p.held) (e : BlockEntry) :
    e ∈ ((p.give blocks o).release blocks).table ↔ e ∈ p.table := by
  rw [show ((p.give blocks o).release blocks).table = (p.give blocks o).table.filter (fun e => !blocks.contains e.block) from rfl,
    List.mem_filter, mem_give]
  constructor
  · rintro ⟨h | ⟨b, hb, rfl⟩, hout⟩
    · exact h
    · simp [hb] at hout
  · intro h
    refine ⟨.inl h, ?_⟩
    have hout : e.block ∉ blocks := fun hb => hfree e.block hb (block_mem_held p e h)
    simp [hout]

theorem freeCount_release_give (p : PoolState) (blocks : List Nat) (o : Owner) (hfree : ∀ b ∈ blocks, b ∉ p.held)
    (hk : blocks.length ≤ p.freeCount) : ((p.give blocks o).release blocks).freeCount = p.freeCount := by
  have hold : p.table.filter (fun e => blocks.contains e.block) = [] := by
    refine List.filter_eq_nil_iff.2 fun e he hb => hfree e.block (by simpa using hb) (block_mem_held p e he)
  have hnew : (blocks.map (fun b => (⟨b, o⟩ : BlockEntry))).filter (fun e => blocks.contains e.block) =
      blocks.map (fun b => ⟨b, o⟩) := List.filter_eq_self.2 (by simp)
  have hcount : ((p.give blocks o).table.filter (fun e => blocks.contains e.block)).length = blocks.length := by
    rw [show (p.give blocks o).table = blocks.foldl (fun t b => insertEntry ⟨b, o⟩ t) p.table from rfl,
      ((give_table_perm o blocks p.table).filter _).length_eq, List.filter_append, hold, hnew]
    simp
  show p.freeCount - blocks.length + ((p.give blocks o).table.filter (fun e => blocks.contains e.block)).length = p.freeCount
  rw [hcount]; omega

/-! ### Staging allocations -/

theorem raise_cache (r : Report) (s : State) : (raise r s).cache = s.cache := (raise_frame r s).2 .cache (by simp)

theorem raise_pool (r : Report) (s : State) : (raise r s).pool = s.pool := (raise_frame r s).2 .pool (by simp)

/-- A leaf that is named for a staging allocation goes with its report (R10, R99). -/
theorem removeLeaf_raise (v : Leaf) (s : State) :
    removeLeaf v (raise (.leafEvicted v.number) s) = releaseBlocks v.blocks { raise (.leafEvicted v.number) s with
      cache := { s.cache with leaves := s.cache.leaves.filter (fun x : Leaf => x.number ≠ v.number) } } := by
  have hfilter : (fun x : Leaf => x.number != v.number) = fun x : Leaf => decide (x.number ≠ v.number) := by
    funext x; simp [bne, Bool.beq_eq_decide_eq]
  rw [removeLeaf, State.onCache, raise_cache, hfilter]

theorem allocateStaging_room (r : Nat) (s : State) (h : s.pool.reserve + 1 ≤ s.pool.freeCount) :
    allocateStaging r s = ((s.pool.lowestFree 1).head?, allocate 1 (.stage r) s) := by
  rw [allocateStaging, if_pos h]

theorem allocateStaging_none (r : Nat) (s : State) (h : s.pool.freeCount < s.pool.reserve + 1)
    (hv : s.cache.stagingVictim = none) :
    allocateStaging r s = (none, s) := by
  rw [allocateStaging, if_neg (by omega), hv]

theorem allocateStaging_victim (r : Nat) (s : State) (v : Leaf) (h : s.pool.freeCount < s.pool.reserve + 1)
    (hv : s.cache.stagingVictim = some v) :
    allocateStaging r s =
      let e := removeLeaf v (raise (.leafEvicted v.number) s)
      if e.pool.reserve + 1 ≤ e.pool.freeCount then ((e.pool.lowestFree 1).head?, allocate 1 (.stage r) e) else (none, e) := by
  rw [allocateStaging, if_neg (by omega), hv]

/-- Settles O27: the lowest free blocks are the head of the ascending list of the free ones, and a gift is a permutation of
the table with the new entries. -/
theorem planesAndLowestFreeBlocks : Obligations.PlanesAndLowestFreeBlocks := by
  refine ⟨⟨rfl, planeSize_bounds, mem_shownBlocks, mem_targetBlocks, ?_⟩, ⟨?_, ?_⟩, ?_⟩
  · intro m blocks k b hb
    rw [pixel_even, pixel_odd, imageAddr_of_block blocks k b hb]
    exact ⟨rfl, rfl⟩
  · intro k o s hn hb hk
    have hlen := lowestFree_length s.pool k hn hb hk
    have hfree : ∀ b ∈ s.pool.lowestFree k, b ∉ s.pool.held := fun b h => (lowestFree_free s.pool k b h).2
    refine ⟨s.pool.lowestFree k, hlen, lowestFree_sorted s.pool k, rfl, lowestFree_free s.pool k, lowestFree_lowest s.pool k,
      mem_give s.pool _ o, ?_, rfl, allocate_frame k o s, mem_release_give s.pool _ o hfree, ?_,
      (allocate_frame k o s).trans (releaseBlocks_frame _ _)⟩
    · show s.pool.freeCount - (s.pool.lowestFree k).length = _
      rw [hlen]
    · exact fun hle => freeCount_release_give s.pool _ o hfree (hlen.le.trans hle)
  · intro bs s
    exact ⟨_, rfl, rfl, rfl, rfl, rfl, rfl, rfl, releaseBlocks_frame bs s⟩
  · intro r s
    refine ⟨fun h hpos => allocateStaging_room r s (by omega), fun hscarce => ?_⟩
    have hscarce : s.pool.freeCount < s.pool.reserve + 1 := by omega
    refine ⟨allocateStaging_none r s hscarce, fun v e hv he => ?_⟩
    rw [allocateStaging_victim r s v hscarce hv, removeLeaf_raise, ← he]
    have hreserve : e.pool.reserve = s.pool.reserve := by
      rw [he]
      show (raise (.leafEvicted v.number) s).pool.reserve = s.pool.reserve
      rw [raise_pool]
    exact ⟨fun h => if_pos (hreserve ▸ h), fun h => if_neg (by rw [hreserve]; omega)⟩

/-! ## PANEL_SETUP (R7, R8) -/

theorem panelInRange_iff (a : PanelArgs) : panelInRange a = true ↔
    64 ≤ a.width ∧ a.width ≤ 2048 ∧ a.width % 8 = 0 ∧ 64 ≤ a.height ∧ a.height ≤ 1536 := by
  simp only [panelInRange, Bool.and_eq_true, decide_eq_true_eq, and_assoc]

/-- The engine is idle where nothing is pending and every lane is FREE (R36). -/
theorem engine_idle_iff (s : State) : s.engine.idle = true ↔ s.engine.pending = [] ∧ ∀ n, n < 8 → (s.lane n).state = .free := by
  simp only [EngineState.idle, Bool.and_eq_true, List.isEmpty_iff, Vector.all_eq_true, decide_eq_true_eq]
  refine and_congr_right fun _ => forall_congr' fun n => forall_congr' fun hn => ?_
  simp [State.lane, recordAt, hn]

/-- What stands in the way of a new geometry (R7). -/
theorem holdsPlaneUsers_iff (s : State) : holdsPlaneUsers s = true ↔
    s.cache.leaves ≠ [] ∨ (∃ n, n < 8 ∧ (s.lane n).state ≠ .free) ∨ s.engine.pending ≠ [] ∨
      ∃ e ∈ s.pool.table, e.owner.isStage = true := by
  have hidle : (!s.engine.idle) = true ↔ (∃ n, n < 8 ∧ (s.lane n).state ≠ .free) ∨ s.engine.pending ≠ [] := by
    rw [Bool.not_eq_true', ← Bool.not_eq_true, engine_idle_iff, not_and_or, or_comm]
    simp only [not_forall, exists_prop]
  have hstage : (!(s.pool.ownedBy Owner.isStage).isEmpty) = true ↔ ∃ e ∈ s.pool.table, e.owner.isStage = true := by
    simp [PoolState.ownedBy, List.filter_eq_nil_iff]
  have hleaves : (!s.cache.leaves.isEmpty) = true ↔ s.cache.leaves ≠ [] := by simp
  rw [holdsPlaneUsers, Bool.or_eq_true, Bool.or_eq_true, hidle, hstage, hleaves, or_assoc, or_assoc]

/-- A served PANEL_SETUP with the lock open is its owner's affair, whose replies go out from the held place. -/
theorem execPanelSetup_served (tag : Nat) (a : PanelArgs) (s : State) (h : s.serves) :
    exec (.panelSetup tag (.fields a)) s = .next (ownPanelSetup tag a (s.placed (.panelSetup tag (.fields a)))) :=
  congrArg Host.Outcome.next (takeCommand_fields _ _ _ a _ s h)

theorem execPanelSetup_badParam (tag : Nat) (a : PanelArgs) (s : State) (h : s.serves) (hl : s.link.locked = false)
    (ha : panelInRange a = false) : exec (.panelSetup tag (.fields a)) s =
      .next (s.answered (.panelSetup tag (.fields a)) (plainReply 0x10 tag .badParam)) := by
  have hl' : ¬(s.placed (.panelSetup tag (.fields a))).link.locked = true := by simp [State.placed, hl]
  rw [execPanelSetup_served tag a s h, ownPanelSetup, if_neg hl', if_pos (by simp [ha]), reply_placed]

/-- A geometry that is in force already changes nothing. -/
theorem execPanelSetup_same (tag : Nat) (a : PanelArgs) (s : State) (h : s.serves) (hl : s.link.locked = false)
    (ha : panelInRange a = true) (hg : s.pool.geometry = some a) : exec (.panelSetup tag (.fields a)) s =
      .next (s.answered (.panelSetup tag (.fields a)) (plainReply 0x10 tag .ok)) := by
  have hl' : ¬(s.placed (.panelSetup tag (.fields a))).link.locked = true := by simp [State.placed, hl]
  have hg' : ¬geometryChanges a (s.placed (.panelSetup tag (.fields a))) = true := by
    simp [geometryChanges, State.placed, hg]
  rw [execPanelSetup_served tag a s h, ownPanelSetup, if_neg hl', if_neg (by simp [ha]), if_neg hg', reply_placed]

/-- A change of geometry is refused while something lies in the planes or leans on them, and replaces them otherwise. -/
theorem execPanelSetup_change (tag : Nat) (a : PanelArgs) (s : State) (h : s.serves) (hl : s.link.locked = false)
    (ha : panelInRange a = true) (hg : s.pool.geometry ≠ some a) : exec (.panelSetup tag (.fields a)) s =
      .next (if holdsPlaneUsers s then s.answered (.panelSetup tag (.fields a)) (plainReply 0x10 tag .notIdle)
        else (replacePlanes a s).answered (.panelSetup tag (.fields a)) (plainReply 0x10 tag .ok)) := by
  have hl' : ¬(s.placed (.panelSetup tag (.fields a))).link.locked = true := by simp [State.placed, hl]
  have hg' : geometryChanges a (s.placed (.panelSetup tag (.fields a))) = true := by
    simp [geometryChanges, State.placed, hg]
  have husers : holdsPlaneUsers (s.placed (.panelSetup tag (.fields a))) = holdsPlaneUsers s := rfl
  rw [execPanelSetup_served tag a s h, ownPanelSetup, if_neg hl', if_neg (by simp [ha]), if_pos hg', husers, reply_placed]
  rfl

/-! ### New planes -/

/-- Where every entry stands for a plane, returning the planes leaves none. -/
theorem release_planes_table (p : PoolState) (h : ∀ e ∈ p.table, e.owner.isPlane = true) :
    (p.release (p.ownedBy Owner.isPlane)).table = [] := by
  refine List.filter_eq_nil_iff.2 fun e he hout => ?_
  have : e.block ∈ p.ownedBy Owner.isPlane := List.mem_map_of_mem (List.mem_filter.2 ⟨he, h e he⟩)
  simp [this] at hout

/-- The new table: the shown plane on the first blocks, the target plane on the next (R6, R8). -/
theorem mem_replacePlanes (a : PanelArgs) (s : State) (h : ∀ e ∈ s.pool.table, e.owner.isPlane = true) (e : BlockEntry) :
    e ∈ (replacePlanes a s).pool.table ↔ ∃ b, b < 2 * planeSize (some a) ∧
      e = ⟨b, .plane (if b < planeSize (some a) then 0 else 1)⟩ := by
  have hpool : (replacePlanes a s).pool = (({ s.pool.release (s.pool.ownedBy Owner.isPlane) with geometry := some a }.give
    (List.range (planeSize (some a))) (.plane 0)).give (List.range' (planeSize (some a)) (planeSize (some a))) (.plane 1)) := rfl
  rw [hpool, mem_give, mem_give, release_planes_table s.pool h]
  simp only [List.not_mem_nil, false_or, List.mem_range, List.mem_range'_1]
  constructor
  · rintro (⟨b, hb, rfl⟩ | ⟨b, hb, rfl⟩)
    · exact ⟨b, by omega, by rw [if_pos hb]⟩
    · exact ⟨b, by omega, by rw [if_neg (by omega)]⟩
  · rintro ⟨b, hb, rfl⟩
    by_cases hlow : b < planeSize (some a)
    · exact .inl ⟨b, hlow, by rw [if_pos hlow]⟩
    · exact .inr ⟨b, by omega, by rw [if_neg hlow]⟩

theorem replacePlanes_frame (a : PanelArgs) (s : State) : SameExcept [.mem, .pool, .engine, .radio] s (replacePlanes a s) :=
  ⟨rfl, by intro b hb; cases b <;> first | rfl | exact absurd hb (by simp)⟩

/-- Settles O28, along the checks of R7 in their order; the last clause is what R8 does to the planes. -/
theorem panelSetupReplacesThePlanes : Obligations.PanelSetupReplacesThePlanes := by
  intro tag a s hs hl
  refine ⟨fun hout => ?_, fun hin => ?_⟩
  · refine execPanelSetup_badParam tag a s hs hl ?_
    rw [← Bool.not_eq_true, panelInRange_iff]; omega
  · have ha := (panelInRange_iff a).2 hin
    refine ⟨execPanelSetup_same tag a s hs hl ha, fun hg husers => ?_, fun hg hleaves hlanes hpending hplanes => ?_⟩
    · rw [execPanelSetup_change tag a s hs hl ha hg, if_pos ((holdsPlaneUsers_iff s).2 husers)]
    · have hfree : ¬holdsPlaneUsers s = true := by
        rw [holdsPlaneUsers_iff]
        rintro (h | ⟨n, hn, h⟩ | h | ⟨e, he, h⟩)
        · exact h hleaves
        · exact h (hlanes n hn)
        · exact h hpending
        · have := hplanes e he
          cases ho : e.owner <;> simp [ho, Owner.isPlane, Owner.isStage] at this h
      refine ⟨_, (execPanelSetup_change tag a s hs hl ha hg).trans (congrArg _ (if_neg hfree)), rfl, rfl,
        mem_replacePlanes a s hplanes, rfl, rfl, fun x hx => ?_, fun x hx => ?_, rfl, answered_mode _ _ _, ?_⟩
      · exact Memory.read_fill_inside s.mem 0 (2 * planeSize (some a) * 4096) x (levelByte 15) (Nat.zero_le x) (by omega)
      · exact Memory.read_fill_outside s.mem 0 (2 * planeSize (some a) * 4096) x (levelByte 15) (.inr (by omega))
      · exact ((replacePlanes_frame a s).mono (by simp)).trans ((answered_frame _ _ _).mono (by simp))

/-! ## The settings commands (R9, R34, R61, R73, R100, R164, R185, R186) -/

/-- A served command whose owner ends in a reply: the reply goes out from the place held for it. -/
theorem takeCommand_reply {α : Type} {i : Instr} {code tag : Nat} {a : α} {owner : α → State → State} {s u : State}
    {st : Status} (hs : s.serves) (howner : owner a (s.placed i) = reply code tag st (u.placed i)) :
    (.next (takeCommand i code tag (.fields a) owner s) : Host.Outcome State Fault Refusal) =
      .next (u.answered i (plainReply code tag st)) := by
  rw [takeCommand_fields i code tag a owner s hs, howner, reply_placed]

/-- DRAIN_SELECT at its owner (R164). -/
def ownDrainSelect (tag id : Nat) (s : State) : State :=
  withStream 0x96 tag id (fun _ s => reply 0x96 tag .ok (s.onLink (fun l => { l with selection := some id }))) s

theorem execDrainSelect_owner (tag : Nat) (b : Body Nat) (s : State) :
    exec (.drainSelect tag b) s = .next (takeCommand (.drainSelect tag b) 0x96 tag b (ownDrainSelect tag) s) := rfl

theorem idInRange_iff (id : Nat) : idInRange id = true ↔ 1 ≤ id ∧ id ≤ 254 := by
  rw [idInRange, Bool.and_eq_true, decide_eq_true_eq, decide_eq_true_eq]

/-- The five ranges of R100, and what it is to leave one of them. -/
theorem cacheGood_iff (a : CacheArgs) : cacheGood a = true ↔
    1 ≤ a.lowWater ∧ a.lowWater ≤ 8 ∧ 1 ≤ a.cadence ∧ a.cadence ≤ 63 ∧ a.guardDist ≤ 4 ∧
      (∀ n, a.partialSlot = some n → n ≤ 5) ∧ ∀ n, a.fullSlot = some n → n ≤ 5 := by
  simp only [cacheGood, Bool.and_eq_true, decide_eq_true_eq, Option.all_eq_true, and_assoc]

theorem not_cacheGood {a : CacheArgs}
    (h : a.lowWater = 0 ∨ 8 < a.lowWater ∨ a.cadence = 0 ∨ 63 < a.cadence ∨ 4 < a.guardDist
      ∨ (∃ n, a.partialSlot = some n ∧ 5 < n) ∨ ∃ n, a.fullSlot = some n ∧ 5 < n) : ¬cacheGood a = true := by
  rw [cacheGood_iff]
  rintro ⟨hlow, hlow', hcad, hcad', hguard, hpart, hfull⟩
  rcases h with h | h | h | h | h | ⟨n, hn, h⟩ | ⟨n, hn, h⟩
  iterate 5 omega
  · exact absurd (hpart n hn) (by omega)
  · exact absurd (hfull n hn) (by omega)

/-! ### The values replaced -/

section
variable {tag : Nat} {s : State} (hs : s.serves)
include hs

theorem execPoolSetup_ok (r : Nat) (hr : r ≤ 256) : exec (.poolSetup tag (.fields r)) s = .next ({ s with
    pool := { s.pool with reserve := r }
    radio := { s.radio with freeCopy := s.pool.freeCount, reserveCopy := r }.rehold }.answered
      (.poolSetup tag (.fields r)) (plainReply 0x11 tag .ok)) :=
  takeCommand_reply hs (if_neg (by omega))

theorem execTempSetup_ok (a : TempArgs) : exec (.tempSetup tag (.fields a)) s = .next ({ s with
    wave := { s.wave with
      period := clampNat 1 60 a.period
      hyst := clampNat 0 50 a.hyst
      timer := reloadTimer s.wave.timer (clampNat 1 60 a.period) } }.answered
      (.tempSetup tag (.fields a)) (plainReply 0x23 tag .ok)) :=
  takeCommand_reply hs rfl

theorem execScanSetup_ok (p : Nat) : exec (.scanSetup tag (.fields p)) s = .next ({ s with
    engine := { s.engine with framePeriod := clampNat 500 5000 p } }.answered
      (.scanSetup tag (.fields p)) (plainReply 0x32 tag .ok)) :=
  takeCommand_reply hs rfl

theorem execRailSetup_ok (a : RailArgs) (hl : s.link.locked = false) : exec (.railSetup tag (.fields a)) s = .next ({ s with
    rail := { s.rail with
      riseTime := clampNat 1 50 a.rise
      fallTime := clampNat 1 50 a.fall
      holdTime := clampNat 0 255 a.hold } }.answered
      (.railSetup tag (.fields a)) (plainReply 0x40 tag .ok)) :=
  takeCommand_reply hs (if_neg (by simp [State.placed, hl]))

theorem execCacheSetup_ok (a : CacheArgs) (ha : cacheGood a = true) : exec (.cacheSetup tag (.fields a)) s = .next ({ s with
    cache := { s.cache with settings := a } }.answered (.cacheSetup tag (.fields a)) (plainReply 0x54 tag .ok)) :=
  takeCommand_reply hs (if_pos ha)

theorem execLinkSetup_ok (t : Nat) : exec (.linkSetup tag (.fields t)) s = .next ({ s with
    link := { s.link with timeout := clampNat 1 64 t } }.answered
      (.linkSetup tag (.fields t)) (plainReply 0xB2 tag .ok)) :=
  takeCommand_reply hs rfl

theorem execSetupEnd_ok (hg : s.pool.geometry.isSome = true) : exec (.setupEnd tag (.fields ())) s = .next ({ s with
    link := { s.link with locked := true } }.answered (.setupEnd tag (.fields ())) (plainReply 0xB3 tag .ok)) :=
  takeCommand_reply hs (if_neg (by simpa [State.placed, Option.isSome_iff_ne_none] using hg))

theorem execDrainSelect_ok (id : Nat) (hid : 1 ≤ id ∧ id ≤ 254) (hfind : (s.stream.find id).isSome = true) :
    exec (.drainSelect tag (.fields id)) s = .next ({ s with link := { s.link with selection := some id } }.answered
      (.drainSelect tag (.fields id)) (plainReply 0x96 tag .ok)) := by
  obtain ⟨n, hn⟩ := Option.isSome_iff_exists.1 hfind
  rw [execDrainSelect_owner]
  refine takeCommand_reply hs ?_
  have hplaced : (s.placed (.drainSelect tag (.fields id))).stream.find id = some n := hn
  rw [ownDrainSelect, withStream, if_neg (by simp [(idInRange_iff id).2 hid]), hplaced]
  rfl

/-! ### The refusals -/

theorem execPoolSetup_badParam (r : Nat) (hr : 256 < r) : exec (.poolSetup tag (.fields r)) s =
    .next (s.answered (.poolSetup tag (.fields r)) (plainReply 0x11 tag .badParam)) :=
  takeCommand_reply hs (if_pos hr)

theorem execCacheSetup_badParam (a : CacheArgs) (ha : ¬cacheGood a = true) : exec (.cacheSetup tag (.fields a)) s =
    .next (s.answered (.cacheSetup tag (.fields a)) (plainReply 0x54 tag .badParam)) :=
  takeCommand_reply hs (if_neg ha)

theorem execSetupEnd_state (hg : s.pool.geometry = none) : exec (.setupEnd tag (.fields ())) s =
    .next (s.answered (.setupEnd tag (.fields ())) (plainReply 0xB3 tag .state)) :=
  takeCommand_reply hs (if_pos (by simp [State.placed, hg]))

theorem execDrainSelect_badParam (id : Nat) (hid : id = 0 ∨ 254 < id) : exec (.drainSelect tag (.fields id)) s =
    .next (s.answered (.drainSelect tag (.fields id)) (plainReply 0x96 tag .badParam)) := by
  have hout : ¬idInRange id = true := by rw [idInRange_iff]; omega
  exact takeCommand_reply hs (if_pos (by simp [hout]))

theorem execDrainSelect_noSuch (id : Nat) (hid : 1 ≤ id ∧ id ≤ 254) (hfind : s.stream.find id = none) :
    exec (.drainSelect tag (.fields id)) s =
      .next (s.answered (.drainSelect tag (.fields id)) (plainReply 0x96 tag .noSuch)) := by
  rw [execDrainSelect_owner]
  refine takeCommand_reply hs ?_
  have hplaced : (s.placed (.drainSelect tag (.fields id))).stream.find id = none := hfind
  rw [ownDrainSelect, withStream, if_neg (by simp [(idInRange_iff id).2 hid]), hplaced]

/-! ### The limits lock (R186) -/

theorem execPanelSetup_locked (hl : s.link.locked = true) (a : PanelArgs) : exec (.panelSetup tag (.fields a)) s =
    .next (s.answered (.panelSetup tag (.fields a)) (plainReply 0x10 tag .locked)) :=
  takeCommand_reply hs (if_pos hl)

theorem execRailSetup_locked (hl : s.link.locked = true) (a : RailArgs) : exec (.railSetup tag (.fields a)) s =
    .next (s.answered (.railSetup tag (.fields a)) (plainReply 0x40 tag .locked)) :=
  takeCommand_reply hs (if_pos hl)

theorem execBudgetSetup_locked (hl : s.link.locked = true) (a : BudgetArgs) : exec (.budgetSetup tag (.fields a)) s =
    .next (s.answered (.budgetSetup tag (.fields a)) (plainReply 0x42 tag .locked)) :=
  takeCommand_reply hs (if_pos hl)

theorem execLightSetup_locked (hl : s.link.locked = true) (a : LightSetupArgs)
    (ha : a.warmCeiling.isSome = true ∨ a.coolCeiling.isSome = true ∨ a.floor.isSome = true) :
    exec (.lightSetup tag (.fields a)) s =
      .next (s.answered (.lightSetup tag (.fields a)) (plainReply 0x72 tag .locked)) := by
  have hlock : ((s.placed (.lightSetup tag (.fields a))).link.locked &&
      (a.warmCeiling.isSome || a.coolCeiling.isSome || a.floor.isSome)) = true := by
    simpa [State.placed, hl, or_assoc] using ha
  exact takeCommand_reply hs (if_pos hlock)

end

/-- Settles O6, command by command. -/
theorem settingsCommandsReplaceTheirValues : Obligations.SettingsCommandsReplaceTheirValues :=
  ⟨fun _ _ hs => ⟨execPoolSetup_ok hs, execTempSetup_ok hs, execScanSetup_ok hs, execRailSetup_ok hs,
      execCacheSetup_ok hs, execLinkSetup_ok hs, execSetupEnd_ok hs, fun id h h' => execDrainSelect_ok hs id ⟨h, h'⟩⟩,
    fun _ _ hs => ⟨execPoolSetup_badParam hs, fun a ha => execCacheSetup_badParam hs a (not_cacheGood ha),
      execSetupEnd_state hs, execDrainSelect_badParam hs, fun id h h' => execDrainSelect_noSuch hs id ⟨h, h'⟩⟩,
    fun _ _ hs hl => ⟨execPanelSetup_locked hs hl, execRailSetup_locked hs hl, execBudgetSetup_locked hs hl,
      execLightSetup_locked hs hl⟩⟩

/-! ## What the shared operations leave alone -/

/-! ### Page memory, the filter and the latch -/

/-- Page memory reads as before, and the filter and the latched key are as they were. -/
structure Undisturbed (s t : State) : Prop where
  mem : ∀ a, Memory.read t.mem a = Memory.read s.mem a
  filtered : t.wave.filtered = s.wave.filtered
  samples : t.wave.samples = s.wave.samples
  latch : t.keys.latch = s.keys.latch

theorem Undisturbed.refl (s : State) : Undisturbed s s := ⟨fun _ => rfl, rfl, rfl, rfl⟩

theorem Undisturbed.trans {s t u : State} (h : Undisturbed s t) (h' : Undisturbed t u) : Undisturbed s u :=
  ⟨fun a => (h'.mem a).trans (h.mem a), h'.filtered.trans h.filtered, h'.samples.trans h.samples, h'.latch.trans h.latch⟩

theorem Undisturbed.ite {s t u : State} (c : Prop) [Decidable c] (ht : c → Undisturbed s t) (hu : ¬c → Undisturbed s u) :
    Undisturbed s (if c then t else u) := by
  split
  · exact ht ‹_›
  · exact hu ‹_›

/-- An operation whose frame holds memory, waveforms and keys disturbs none of them. -/
theorem SameExcept.undisturbed {bs : List Block} {s t : State} (h : SameExcept bs s t) (hm : Block.mem ∉ bs := by decide)
    (hw : Block.wave ∉ bs := by decide) (hk : Block.keys ∉ bs := by decide) : Undisturbed s t :=
  ⟨h.2 .mem hm, congrArg WaveState.filtered (h.2 .wave hw), congrArg WaveState.samples (h.2 .wave hw),
    congrArg KeyState.latch (h.2 .keys hk)⟩

theorem handMode_frame (s : State) : SameExcept [.budget, .radio, .link] s (handMode s) :=
  ((onRadio_frame (fun r => { r with powerCopy := s.power.mode }.rehold) s).mono (by decide)).trans
    (((onLink_frame (fun l => { l with powerCopy := s.power.mode }) _).mono (by decide)).trans
      ((onBudget_frame (fun b => { b with power := s.power.mode }) _).mono (by decide)))

/-- A new power state with what else the power controller changes. -/
theorem setMode_frame (m : PowerMode) (f : PowerState → PowerState) (s : State) :
    SameExcept [.budget, .radio, .power, .link] s (setMode m (s.onPower f)) :=
  ((onPower_frame f s).mono (by decide)).trans
    (((onPower_frame (fun p => { p with mode := m }) _).mono (by decide)).trans ((handMode_frame _).mono (by decide)))

theorem enterStandby_frame (s : State) : SameExcept standbyBlocks s (enterStandby s) := by
  have h₁ := (setMode_frame .standby (fun p => { p with leftMode := none, hostAsked := false, timer := none }) s).mono
    (cs := standbyBlocks) (by decide)
  have h₂ := h₁.trans ((onCache_frame (fun c => { c with sleepMark := false }) _).mono (by decide))
  have h₃ := h₂.trans ((onLight_frame (fun l => { l with dwell := none }) _).mono (by decide))
  have h₄ := h₃.trans ((onStream_frame (fun t => { t with records := t.records.map StreamRecord.calm }) _).mono (by decide))
  have h₅ := h₄.trans ((onWave_frame (fun w => { w with timer := .stopped }) _).mono (by decide))
  have h₆ := h₅.trans ((onKeys_frame (fun k => { k with inputs := k.inputs.map KeyInput.toStandby }) _).mono (by decide))
  have h₇ := h₆.trans ((onRadio_frame RadioState.toStandby _).mono (by decide))
  exact h₇.trans ((onPool_frame PoolState.askRefresh _).mono (by decide))

theorem enterStandby_wave (s : State) : (enterStandby s).wave = { s.wave with timer := .stopped } := by
  simp [enterStandby, setMode, handMode]

theorem enterStandby_keys (s : State) :
    (enterStandby s).keys = { s.keys with inputs := s.keys.inputs.map KeyInput.toStandby } := by
  simp [enterStandby, setMode, handMode]

theorem enterStandby_undisturbed (s : State) : Undisturbed s (enterStandby s) :=
  ⟨(enterStandby_frame s).2 .mem (by decide), by rw [enterStandby_wave], by rw [enterStandby_wave], by rw [enterStandby_keys]⟩

theorem powerReact_undisturbed (s : State) : Undisturbed s (powerReact s) := by
  cases h : s.power.mode <;> simp only [powerReact, h]
  case settling => exact .ite _ (fun _ => enterStandby_undisturbed s) fun _ => .refl s
  case doze => exact (onPower_frame _ s).undisturbed
  all_goals exact .refl s

theorem onPower_undisturbed (f : PowerState → PowerState) (s : State) : Undisturbed s (s.onPower f) :=
  (onPower_frame f s).undisturbed

/-- The power controller hears of something and acts on it. -/
theorem hears_undisturbed (f : PowerState → PowerState) (s : State) : Undisturbed s (powerReact (s.onPower f)) :=
  (onPower_undisturbed f s).trans (powerReact_undisturbed _)

theorem engineNotify_undisturbed (s : State) : Undisturbed s (engineNotify s) :=
  .ite _ (fun _ => .refl s) fun _ => hears_undisturbed _ s

theorem lightEvent_undisturbed (f : LightState → LightState) (s : State) : Undisturbed s (lightEvent f s) :=
  (onLight_frame f s).undisturbed.trans <| .ite _ (fun _ => .refl _) fun _ => hears_undisturbed _ _

theorem lightActivity_undisturbed (s : State) : Undisturbed s (lightActivity s) :=
  .ite _ (fun _ => lightEvent_undisturbed _ s) fun _ => .refl s

theorem raise_undisturbed (r : Report) (s : State) : Undisturbed s (raise r s) := (raise_frame r s).undisturbed

theorem lightRequest_undisturbed (level : Nat) (s : State) : Undisturbed s (lightRequest level s) :=
  .ite _ (fun _ => .refl s) fun _ =>
    (lightEvent_undisturbed (fun l => l.setTo level) s).trans (raise_undisturbed (.lightLevel _ _) _)

/-! ### Sleep -/

theorem handHeadroom_frame (s : State) : SameExcept [.radio, .stream] s (handHeadroom s) :=
  ((onStream_frame (fun t => { t with headroom := s.stream.wantsHeadroom, running := t.anyRunning }) s).mono (by decide)).trans
    ((onRadio_frame (fun r => { r with headroomCopy := s.stream.wantsHeadroom }.rehold) _).mono (by decide))

theorem handSignals_undisturbed (s : State) : Undisturbed s (handSignals s) :=
  (handHeadroom_frame s).undisturbed.trans <| .ite _ (fun _ => .refl _) fun _ => hears_undisturbed _ _

/-- The state of a sleep request taken in ACTIVE or DOZE, before the idle conditions are tested (R172). -/
def State.settled (s : State) (hostAsked : Bool) : State :=
  let s := setMode .settling
    (s.onPower (fun p => { p with leftMode := some p.mode, hostAsked := hostAsked, timer := none }))
  let s := s.onCache (fun c => { c with sleepMark := true })
  let s := s.onLight LightState.settle
  let s := s.onPower (fun p => { p with lightDark := s.light.isDark })
  let s := handHeadroom (s.onStream StreamState.settle)
  s.onPower (fun p => { p with running := s.stream.running })

theorem settled_frame (hostAsked : Bool) (s : State) :
    SameExcept [.budget, .cache, .light, .radio, .stream, .power, .link] s (s.settled hostAsked) := by
  have h₁ := (setMode_frame .settling
    (fun p => { p with leftMode := some p.mode, hostAsked := hostAsked, timer := none }) s).mono
      (cs := [.budget, .cache, .light, .radio, .stream, .power, .link]) (by decide)
  have h₂ := h₁.trans ((onCache_frame (fun c => { c with sleepMark := true }) _).mono (by decide))
  have h₃ := h₂.trans ((onLight_frame LightState.settle _).mono (by decide))
  have h₄ := h₃.trans ((onPower_frame (fun p => { p with lightDark := s.light.settle.isDark }) _).mono (by decide))
  have h₅ := h₄.trans ((onStream_frame StreamState.settle _).mono (by decide))
  have h₆ := h₅.trans ((handHeadroom_frame _).mono (by decide))
  exact h₆.trans ((onPower_frame (fun p => { p with running := s.stream.settle.anyRunning }) _).mono (by decide))

theorem settle_undisturbed (hostAsked : Bool) (s : State) : Undisturbed s (settle hostAsked s) :=
  .ite _ (fun _ => (settled_frame hostAsked s).undisturbed.trans (powerReact_undisturbed _)) fun _ => .refl s

theorem cancelSettling_undisturbed (byLink : Bool) (s : State) : Undisturbed s (cancelSettling byLink s) := by
  refine .ite _ (fun _ => ?_) fun _ => .refl s
  have h₁ := (setMode_frame (if byLink then PowerMode.active else s.power.leftMode.getD .active)
    (fun p => { p with leftMode := none, hostAsked := false }) s).undisturbed
  have h₂ := h₁.trans (onCache_frame (fun c => { c with sleepMark := false }) _).undisturbed
  have h₃ := h₂.trans (lightEvent_undisturbed LightState.release _)
  have h₄ := h₃.trans (onStream_frame StreamState.release _).undisturbed
  exact (h₄.trans (handSignals_undisturbed _)).trans (onPower_undisturbed PowerState.recheckDoze _)

theorem activityNotice_undisturbed (s : State) : Undisturbed s (activityNotice s) := by
  cases h : s.power.mode <;> simp only [activityNotice, h]
  case settling => exact cancelSettling_undisturbed false s
  case doze => exact onPower_undisturbed _ s
  all_goals exact .refl s

/-! ### Turns -/

/-- The walk works on the slots' use counts and the engine. -/
theorem startLane_frame (n : Nat) (e : PendingEntry) (s : State) : SameExcept [.wave, .engine] s (startLane n e s) := by
  simp only [startLane]
  split
  · exact (onLane_frame n _ s).mono (by decide)
  · exact (((onSlot_frame _ _ s).mono (by decide)).trans ((onSlot_frame _ _ _).mono (by decide))).trans
      ((onLane_frame n _ _).mono (by decide))

theorem startLane_undisturbed (n : Nat) (e : PendingEntry) (s : State) : Undisturbed s (startLane n e s) := by
  simp only [startLane]
  split <;> exact ⟨fun _ => rfl, rfl, rfl, rfl⟩

theorem walkFrom_frame (es : List PendingEntry) : ∀ ahead s, SameExcept [.wave, .engine] s (walkFrom ahead es s) := by
  induction es with
  | nil => exact fun ahead s => (onEngine_frame _ s).mono (by decide)
  | cons e es ih =>
    intro ahead s
    rw [walkFrom]
    split
    · exact (startLane_frame _ e s).trans (ih ahead _)
    · exact ih _ s

theorem walkFrom_undisturbed (es : List PendingEntry) : ∀ ahead s, Undisturbed s (walkFrom ahead es s) := by
  induction es with
  | nil => exact fun ahead s => (onEngine_frame _ s).undisturbed
  | cons e es ih =>
    intro ahead s
    rw [walkFrom]
    split
    · exact (startLane_undisturbed _ e s).trans (ih ahead _)
    · exact ih _ s

theorem appendEntry_undisturbed (e : PendingEntry) (s : State) : Undisturbed s (appendEntry e s) := by
  rw [appendEntry]
  cases e.source with
  | target => exact ⟨fun _ => rfl, rfl, rfl, rfl⟩
  | leaf n => exact ⟨fun _ => rfl, rfl, rfl, rfl⟩

theorem submitTurn_undisturbed (d : TurnDir) (t : Nat) (s : State) : Undisturbed s (submitTurn d t s) := by
  simp only [submitTurn]
  split
  · exact raise_undisturbed _ s
  · split
    · exact raise_undisturbed _ s
    · exact (((appendEntry_undisturbed _ s).trans (walkFrom_undisturbed _ [] _)).trans (onCache_frame _ _).undisturbed).trans
        (lightActivity_undisturbed _)

theorem takeTurnTo_undisturbed (d : TurnDir) (t : Nat) (s : State) : Undisturbed s (takeTurnTo d t s) := by
  rw [takeTurnTo]
  split
  · exact raise_undisturbed _ s
  · exact .ite _ (fun _ => raise_undisturbed _ s) fun _ => submitTurn_undisturbed d t s

theorem resolveTurn_undisturbed (d : TurnDir) (wanted : Nat → Nat) (s : State) : Undisturbed s (resolveTurn d wanted s) := by
  refine .ite _ (fun _ => raise_undisturbed _ s) fun _ => ?_
  split
  · exact raise_undisturbed _ s
  · exact .ite _ (fun _ => raise_undisturbed _ s) fun _ => takeTurnTo_undisturbed d _ s

theorem turnRequest_undisturbed (d : TurnDir) (s : State) : Undisturbed s (turnRequest d s) := by
  refine .ite _ (fun _ => raise_undisturbed _ s) fun _ => ?_
  split
  · exact (onCache_frame _ s).undisturbed
  · exact resolveTurn_undisturbed d _ s

/-! ### Keys -/

theorem keyNotice_undisturbed (c : KeyConfig) (e : KeyEvent) (s : State) : Undisturbed s (keyNotice c e s) := by
  cases e with
  | press =>
    exact .ite _ (fun _ => settle_undisturbed false s) fun _ => .ite _ (fun _ => activityNotice_undisturbed s) fun _ => .refl s
  | release => exact .ite _ (fun _ => cancelSettling_undisturbed false s) fun _ => .refl s
  | again => exact .refl s

theorem keyRequest_undisturbed (c : KeyConfig) (e : KeyEvent) (s : State) : Undisturbed s (keyRequest c e s) := by
  refine .ite _ (fun _ => .refl s) fun _ => ?_
  cases c.action
  case turnNext => exact (turnRequest_undisturbed .next s).trans (engineNotify_undisturbed _)
  case turnPrev => exact (turnRequest_undisturbed .prev s).trans (engineNotify_undisturbed _)
  case lightUp => exact lightRequest_undisturbed _ s
  case lightDown => exact lightRequest_undisturbed _ s
  all_goals exact .refl s

theorem keyEvent_undisturbed (k : Nat) (e : KeyEvent) (time : Nat) (s : State) : Undisturbed s (keyEvent k e time s) := by
  have h := (lightActivity_undisturbed s).trans (Undisturbed.ite (keyReported (s.key k).config.action e = true)
    (fun _ => raise_undisturbed (.key k e time) _) fun _ => .refl _)
  exact (h.trans (keyNotice_undisturbed _ e _)).trans (keyRequest_undisturbed _ e _)

theorem onKey_undisturbed (k : Nat) (f : KeyInput → KeyInput) (s : State) : Undisturbed s (onKey k f s) :=
  ⟨fun _ => rfl, rfl, rfl, rfl⟩

theorem pressKey_undisturbed (k time : Nat) (s : State) : Undisturbed s (pressKey k time s) :=
  (onKey_undisturbed k _ s).trans (keyEvent_undisturbed k .press time _)

theorem releaseKey_undisturbed (k time : Nat) (s : State) : Undisturbed s (releaseKey k time s) :=
  (onKey_undisturbed k _ s).trans (keyEvent_undisturbed k .release time _)

theorem deliverLatched_undisturbed (k time : Nat) (s : State) : Undisturbed s (deliverLatched k time s) :=
  .ite _
    (fun _ => (releaseKey_undisturbed k time s).trans (.ite _ (fun _ => pressKey_undisturbed k _ _) fun _ => .refl _))
    fun _ => (pressKey_undisturbed k time s).trans (.ite _ (fun _ => .refl _) fun _ => releaseKey_undisturbed k _ _)

/-! ### In ACTIVE and DOZE no notice puts the part to sleep -/

/-- The part is in ACTIVE or DOZE. -/
def State.up (s : State) : Prop := s.power.mode = .active ∨ s.power.mode = .doze

theorem State.up.congr {s t : State} (h : s.up) (hm : t.power.mode = s.power.mode) : t.up := by rwa [State.up, hm]

theorem State.up.not_settling {s : State} (h : s.up) : s.power.mode ≠ .settling := by rcases h with h | h <;> simp [h]

theorem State.up.not_standby {s : State} (h : s.up) : s.power.mode ≠ .standby := by rcases h with h | h <;> simp [h]

theorem State.up.serving {s : State} (h : s.up) : servingMode s.power.mode = true := by rcases h with h | h <;> rw [h] <;> rfl

/-- All that follows a notice is the standby delay timer (R175). -/
theorem powerReact_up {s : State} (h : s.up) : powerReact s = { s with power := s.power.recheckDoze } := by
  rcases h with h | h
  · rw [PowerState.recheckDoze_other _ (by simp [h]), powerReact, h]
  · rw [powerReact, h]; rfl

theorem tellLightDark_up {s : State} (h : s.up) (b : Bool) : tellLightDark b s = { s with
    power := if b = s.power.lightDark then s.power else { s.power with lightDark := b }.recheckDoze } := by
  rw [tellLightDark]
  split
  case isTrue hb => rw [if_pos hb.symm]
  case isFalse hb => 
    rw [if_neg (Ne.symm hb)]
    exact powerReact_up (s := s.onPower (fun p => { p with lightDark := b })) (h.congr rfl)

theorem lightEvent_up {s : State} (h : s.up) (f : LightState → LightState) : lightEvent f s = { s with
    light := f s.light
    power := if (f s.light).isDark = s.power.lightDark then s.power
      else { s.power with lightDark := (f s.light).isDark }.recheckDoze } :=
  tellLightDark_up (s := s.onLight f) (h.congr rfl) _

theorem recheck_mode {p q : PowerState} (c : Prop) [Decidable c] (hq : q.mode = p.mode) :
    (if c then p else q.recheckDoze).mode = p.mode := by
  split
  · rfl
  · exact (PowerState.recheckDoze_mode q).trans hq

theorem lightEvent_mode {s : State} (h : s.up) (f : LightState → LightState) :
    (lightEvent f s).power.mode = s.power.mode := by
  rw [lightEvent_up h]; exact recheck_mode _ rfl

theorem lightEvent_frame {s : State} (h : s.up) (f : LightState → LightState) :
    SameExcept [.light, .power] s (lightEvent f s) := by
  rw [lightEvent_up h]
  exact ⟨rfl, by intro b hb; cases b <;> first | rfl | (intro _; rfl) | exact absurd hb (by decide)⟩

theorem engineNotify_up {s : State} (h : s.up) : engineNotify s = { s with
    power := if s.power.engineIdle = s.engine.idle then s.power
      else { s.power with engineIdle := s.engine.idle }.recheckDoze } := by
  rw [engineNotify, tellEngineIdle]
  split
  · rfl
  · exact powerReact_up (s := s.onPower (fun p => { p with engineIdle := s.engine.idle })) (h.congr rfl)

theorem handSignals_up {s : State} (h : s.up) : handSignals s = { handHeadroom s with
    power := if s.power.running = s.stream.anyRunning then s.power
      else { s.power with running := s.stream.anyRunning }.recheckDoze } := by
  have hrun : (handHeadroom s).stream.running = s.stream.anyRunning := rfl
  simp only [handSignals, tellRunning, hrun]
  by_cases hr : s.power.running = s.stream.anyRunning
  · rw [if_pos hr, if_pos (show (handHeadroom s).power.running = _ from hr)]; rfl
  · rw [if_neg hr, if_neg (show ¬(handHeadroom s).power.running = _ from hr)]
    exact powerReact_up (s := (handHeadroom s).onPower (fun p => { p with running := s.stream.anyRunning })) (h.congr rfl)

/-! ### A turn asked for in ACTIVE or DOZE -/

/-- The frame of a turn request in ACTIVE and DOZE: the parts that may differ, and the power state kept. -/
def Turned (s t : State) : Prop :=
  SameExcept [.wave, .engine, .cache, .light, .power, .link] s t ∧ t.power.mode = s.power.mode

theorem raise_turned (r : Report) (s : State) : Turned s (raise r s) := ⟨(raise_frame r s).mono (by decide), raise_mode r s⟩

theorem submitTurn_turned (d : TurnDir) (t : Nat) {s : State} (h : s.up) : Turned s (submitTurn d t s) := by
  simp only [submitTurn]
  split
  · exact raise_turned _ s
  · split
    · exact raise_turned _ s
    next slot _ _ _ =>
      generalize he : PendingEntry.mk 0 .turn s.panelRect slot
        (s.cache.turnChoice (s.cache.leafSlot t)).2.2 (.leaf t) false none = e
      have hwalk : SameExcept [.wave, .engine, .cache] s (walk (appendEntry e s)) :=
        ((appendEntry_frame e s).mono (by decide)).trans ((walkFrom_frame _ [] _).mono (by decide))
      generalize walk (appendEntry e s) = u at hwalk
      have hup : (u.onCache (fun k => { k with flight := some ⟨t, d, (s.cache.turnChoice (s.cache.leafSlot t)).1⟩ })).up :=
        h.congr (congrArg PowerState.mode (hwalk.2 .power (by decide)))
      rw [lightActivity, if_pos hup.serving]
      refine ⟨(hwalk.mono (by decide)).trans (((onCache_frame _ u).mono (by decide)).trans
        ((lightEvent_frame hup _).mono (by decide))), ?_⟩
      exact (lightEvent_mode hup _).trans (congrArg PowerState.mode (hwalk.2 .power (by decide)))

theorem takeTurnTo_turned (d : TurnDir) (t : Nat) {s : State} (h : s.up) : Turned s (takeTurnTo d t s) := by
  rw [takeTurnTo]
  split
  · exact raise_turned _ s
  · split
    · exact raise_turned _ s
    · exact submitTurn_turned d t h

theorem resolveTurn_turned (d : TurnDir) (wanted : Nat → Nat) {s : State} (h : s.up) : Turned s (resolveTurn d wanted s) := by
  rw [resolveTurn]
  split
  · exact raise_turned _ s
  · split
    · exact raise_turned _ s
    · split
      · exact raise_turned _ s
      · exact takeTurnTo_turned d _ h

theorem turnRequest_turned (d : TurnDir) {s : State} (h : s.up) : Turned s (turnRequest d s) := by
  rw [turnRequest]
  split
  · exact raise_turned _ s
  · split
    · exact ⟨(onCache_frame _ s).mono (by decide), rfl⟩
    · exact resolveTurn_turned d _ h

/-! ## A key event by its parts: the key itself, the light's activity, the report, the notice and the request (R108 to R112) -/

/-! ### The key's own part -/

/-- A key's own part in an event (R108, R109). -/
def State.evented (s : State) (k : Nat) (e : KeyEvent) : State := onKey k (eventInput e) s

theorem keyRepeats_iff (c : KeyConfig) : keyRepeats c = true ↔ c.mode = .level ∧ 0 < c.hold := by simp [keyRepeats]

theorem pressKey_eq (k time : Nat) (s : State) : pressKey k time s = keyEvent k .press time (s.evented k .press) := by
  simp only [pressKey, keyRepeats_iff]
  rfl

theorem releaseKey_eq (k time : Nat) (s : State) : releaseKey k time s = keyEvent k .release time (s.evented k .release) := rfl

theorem evented_key_other (s : State) (k j : Nat) (e : KeyEvent) (h : j ≠ k) : (s.evented k e).key j = s.key j :=
  recordAt_withRecord_other s.keys.inputs k j (eventInput e) {} h

theorem eventInput_config (e : KeyEvent) (i : KeyInput) : (eventInput e i).config = i.config := by cases e <;> rfl

theorem evented_config (s : State) (k j : Nat) (e : KeyEvent) : ((s.evented k e).key j).config = (s.key j).config := by
  by_cases hj : j = k
  · subst hj
    by_cases hlt : j < 6
    · exact (congrArg KeyInput.config (recordAt_withRecord_same s.keys.inputs j (eventInput e) {} hlt)).trans
        (eventInput_config e _)
    · have hbeyond : withRecord s.keys.inputs j (eventInput e) = s.keys.inputs := withRecord_beyond _ _ _ (by omega)
      simp only [State.evented, onKey, State.key, onKeys_keys, hbeyond]
  · rw [evented_key_other s k j e hj]

/-! ### The light's activity -/

theorem up_of_serving {s : State} (h : servingMode s.power.mode = true) (hm : s.power.mode ≠ .settling) : s.up := by
  cases hmode : s.power.mode <;> simp_all [State.up, servingMode]

/-- The activity of the light, where it does not put a settling part to sleep. -/
theorem lightActivity_evented (s : State) (k : Nat) (e : KeyEvent)
    (h : s.power.mode = .settling → s.light.activity.isDark = s.power.lightDark) :
    lightActivity (s.evented k e) = s.noted k e := by
  rw [lightActivity, State.noted]
  split
  case isFalse hserving => rw [if_neg (show ¬servingMode s.power.mode = true from hserving)]; rfl
  case isTrue hserving =>
    rw [if_pos (show servingMode s.power.mode = true from hserving)]
    by_cases hm : s.power.mode = .settling
    · have hdark : (s.evented k e).power.lightDark = (s.evented k e).light.activity.isDark := (h hm).symm
      rw [if_pos (h hm), lightEvent, tellLightDark]
      exact if_pos hdark
    · exact lightEvent_up (s := s.evented k e) ((up_of_serving hserving hm).congr rfl) LightState.activity

theorem noted_mode (s : State) (k : Nat) (e : KeyEvent) : (s.noted k e).power.mode = s.power.mode := by
  rw [State.noted]
  split
  · exact recheck_mode _ rfl
  · rfl

theorem noted_keys (s : State) (k : Nat) (e : KeyEvent) : (s.noted k e).keys = (s.evented k e).keys := by
  rw [State.noted]
  split <;> rfl

/-- In ACTIVE and DOZE activity changes the light and what the power controller hears of it. -/
theorem lightActivity_turned {s : State} (h : s.up) : Turned s (lightActivity s) := by
  rw [lightActivity, if_pos h.serving]
  exact ⟨(lightEvent_frame h _).mono (by decide), lightEvent_mode h _⟩

/-! ### A sleep request (R172, R173, R176) -/

theorem settle_anyRunning (t : StreamState) : t.settle.anyRunning = false := by
  rw [StreamState.anyRunning, StreamState.settle, Vector.any_map, Vector.any_eq_false]
  intro i hi
  simp only [Function.comp_apply, StreamRecord.hush]
  split <;> simp_all

/-- After a sleep request no stream is OPEN or RUNNING. -/
theorem settle_records (t : StreamState) : ∀ r ∈ t.settle.records.toList, r.mode ≠ .opened ∧ r.mode ≠ .running := by
  intro r hr
  simp only [StreamState.settle, Vector.toList_map, List.mem_map] at hr
  obtain ⟨q, -, rfl⟩ := hr
  simp only [StreamRecord.hush]
  split <;> simp_all

/-- The light a sleep request leaves wants level 0 (R125). -/
theorem settle_light (l : LightState) : l.settle.hold = true ∧ l.settle.target = 0 ∧ l.settle.setLevel = l.setLevel := by
  obtain ⟨v, r, d, he⟩ := retarget_eq { l with hold := true }
  simp only [LightState.settle, he]
  split
  · exact ⟨rfl, rfl, rfl⟩
  · split <;> exact ⟨rfl, rfl, rfl⟩

/-- HOLD is asserted outside ACTIVE and DOZE (R145). -/
theorem rehold_asleep (r : RadioState) (ha : r.powerCopy ≠ .active) (hd : r.powerCopy ≠ .doze) : r.rehold.hold = true := by
  simp [RadioState.rehold, RadioState.holdConditions, ha, hd]

theorem settled_power (hostAsked : Bool) (s : State) : (s.settled hostAsked).power = { s.power with
    mode := .settling, leftMode := some s.power.mode, hostAsked := hostAsked, timer := none
    lightDark := s.light.settle.isDark, running := s.stream.settle.anyRunning } := by
  simp [State.settled, setMode, handMode, handHeadroom, StreamState.anyRunning]

theorem settled_fields (hostAsked : Bool) (s : State) :
    (s.settled hostAsked).cache = { s.cache with sleepMark := true } ∧
    (s.settled hostAsked).light = s.light.settle ∧
    (s.settled hostAsked).link = { s.link with powerCopy := .settling } ∧
    (s.settled hostAsked).budget = { s.budget with power := .settling } := by
  simp [State.settled, setMode, handMode, handHeadroom]

theorem settled_stream (hostAsked : Bool) (s : State) : (s.settled hostAsked).stream.records = s.stream.settle.records ∧
    (s.settled hostAsked).stream.sleepHold = true ∧ (s.settled hostAsked).stream.running = false := by
  have hrun := settle_anyRunning s.stream
  simp only [StreamState.anyRunning] at hrun
  simp [State.settled, setMode, handMode, handHeadroom, StreamState.settle, StreamState.anyRunning] at hrun ⊢
  exact hrun

theorem settled_radio (hostAsked : Bool) (s : State) : (s.settled hostAsked).radio.powerCopy = .settling ∧
    (s.settled hostAsked).radio.hold = true := by
  have hradio : (s.settled hostAsked).radio = { ({ s.radio with powerCopy := .settling }.rehold) with
      headroomCopy := s.stream.settle.wantsHeadroom }.rehold := by
    simp [State.settled, setMode, handMode, handHeadroom]
  rw [hradio]
  exact ⟨rfl, rehold_asleep _ (by simp [RadioState.rehold]) (by simp [RadioState.rehold])⟩

theorem settled_fourIdle (hostAsked : Bool) (s : State) : (s.settled hostAsked).power.fourIdle =
    (s.power.engineIdle && s.power.railsOff && s.light.settle.isDark) := by
  rw [settled_power, PowerState.fourIdle, settle_anyRunning, Bool.not_false, Bool.and_true]

theorem settle_up {s : State} (h : s.up) (hostAsked : Bool) : settle hostAsked s =
    if s.power.engineIdle && s.power.railsOff && s.light.settle.isDark then enterStandby (s.settled hostAsked)
    else s.settled hostAsked := by
  have hup : (s.power.mode = .active || s.power.mode = .doze) = true := by simpa [State.up] using h
  have hreact : settle hostAsked s = powerReact (s.settled hostAsked) := if_pos hup
  have hmode : (s.settled hostAsked).power.mode = .settling := by rw [settled_power]
  rw [hreact, powerReact, hmode]
  simp only [settled_fourIdle]

/-- What the entry to STANDBY leaves of the other blocks (R176). -/
theorem enterStandby_fields (s : State) :
    (enterStandby s).power = { s.power with mode := .standby, leftMode := none, hostAsked := false, timer := none } ∧
    (enterStandby s).pool = { s.pool with refresh := .entering } ∧
    (enterStandby s).cache = { s.cache with sleepMark := false } ∧
    (enterStandby s).light = { s.light with dwell := none } ∧
    (enterStandby s).stream = { s.stream with records := s.stream.records.map StreamRecord.calm } ∧
    (enterStandby s).link = { s.link with powerCopy := .standby } ∧
    (enterStandby s).budget = { s.budget with power := .standby } := by
  simp [enterStandby, setMode, handMode, PoolState.askRefresh, StreamRecord.calm]

theorem toStandby_hold (r : RadioState) (h : r.powerCopy = .standby) : r.toStandby.hold = true :=
  rehold_asleep { r with fifo := [], fillHold := _ } (by simp [h]) (by simp [h])

theorem enterStandby_radio (s : State) : (enterStandby s).radio.fifo = [] ∧ (enterStandby s).radio.receiver = .stopped ∧
    (enterStandby s).radio.powerCopy = .standby ∧ (enterStandby s).radio.hold = true := by
  have hradio : (enterStandby s).radio =
      ({ s.radio with powerCopy := .standby }.rehold).toStandby := by simp [enterStandby, setMode, handMode]
  rw [hradio]
  exact ⟨rfl, rfl, rfl, toStandby_hold _ rfl⟩

/-- A sleep request taken by a part that is not idle. -/
theorem settled_taken {s : State} (hostAsked : Bool)
    (h : ¬(s.power.engineIdle && s.power.railsOff && s.light.settle.isDark) = true) :
    SleepTaken hostAsked s (s.settled hostAsked) := by
  obtain ⟨hhold, htarget, hlevel⟩ := settle_light s.light
  obtain ⟨hcache, hlight, hlink, hbudget⟩ := settled_fields hostAsked s
  obtain ⟨hrecords, hsleep, hrun⟩ := settled_stream hostAsked s
  obtain ⟨hcopy, hradio⟩ := settled_radio hostAsked s
  have hframe := settled_frame hostAsked s
  rw [SleepTaken, if_neg h, hlight, hcache, hlink, hbudget, hcopy, hrecords, settled_power]
  exact ⟨⟨rfl, rfl, rfl, rfl, hframe.2 .pool (by decide), hframe.2 .wave (by decide), hframe.2 .keys (by decide)⟩, rfl, hhold,
    htarget, hlevel, hsleep, hrun, settle_records s.stream, hradio, rfl, rfl, rfl⟩

/-- A sleep request taken by an idle part. -/
theorem enterStandby_taken {s : State} (hostAsked : Bool)
    (h : (s.power.engineIdle && s.power.railsOff && s.light.settle.isDark) = true) :
    SleepTaken hostAsked s (enterStandby (s.settled hostAsked)) := by
  obtain ⟨hhold, htarget, hlevel⟩ := settle_light s.light
  obtain ⟨-, hlight, -, -⟩ := settled_fields hostAsked s
  obtain ⟨hrecords, hsleep, hrun⟩ := settled_stream hostAsked s
  obtain ⟨hpower, hpool, hcache, hlight', hstream, hlink, hbudget⟩ := enterStandby_fields (s.settled hostAsked)
  obtain ⟨hfifo, hreceiver, hcopy, hradio⟩ := enterStandby_radio (s.settled hostAsked)
  rw [SleepTaken, if_pos h, hcopy, hlight', hlight, hcache, hlink, hbudget, hpool, hstream, hrecords, hpower, enterStandby_wave]
  refine ⟨⟨rfl, rfl, rfl, rfl, rfl, hfifo, hreceiver⟩, rfl, hhold, htarget, hlevel, hsleep, hrun, ?_, hradio, rfl, rfl, rfl⟩
  intro r hr
  rw [Vector.toList_map] at hr
  obtain ⟨q, hq, rfl⟩ := List.mem_map.1 hr
  exact settle_records s.stream q hq

/-- A sleep request taken in ACTIVE or DOZE. -/
theorem settle_taken {s : State} (h : s.up) (hostAsked : Bool) : SleepTaken hostAsked s (settle hostAsked s) ∧
    (settle hostAsked s).link.queue = s.link.queue ∧ SameExcept standbyBlocks s (settle hostAsked s) := by
  have hframe := (settled_frame hostAsked s).mono (cs := standbyBlocks) (by decide)
  have hqueue : (s.settled hostAsked).link.queue = s.link.queue := by
    obtain ⟨-, -, hlink, -⟩ := settled_fields hostAsked s
    rw [hlink]
  rw [settle_up h]
  split
  case isTrue hidle =>
    obtain ⟨-, -, -, -, -, hlink, -⟩ := enterStandby_fields (s.settled hostAsked)
    exact ⟨enterStandby_taken hostAsked hidle, by rw [hlink]; exact hqueue, hframe.trans (enterStandby_frame _)⟩
  case isFalse hbusy => exact ⟨settled_taken hostAsked hbusy, hqueue, hframe⟩

/-! ### The notice (R112) -/

theorem activityNotice_doze {u : State} (h : u.power.mode = .doze) :
    activityNotice u = { u with power := { u.power with timer := u.power.timer.map (fun _ => u.power.delay) } } := by
  rw [activityNotice, h]; rfl

theorem activityNotice_active {u : State} (h : u.power.mode = .active) : activityNotice u = u := by rw [activityNotice, h]

/-- The notice of an event in ACTIVE and DOZE, and that of a RELEASE that gives none. -/
theorem keyNotice_noticed {c : KeyConfig} {e : KeyEvent} {u : State} (h : u.up ∨ (e = .release ∧ c.action ≠ .cover)) :
    KeyNoticed c e u (keyNotice c e u) := by
  rw [KeyNoticed]
  cases e with
  | press =>
    have hup : u.up := h.resolve_right (by simp)
    by_cases hsleep : c.action = .sleep ∨ c.action = .cover
    · rw [if_pos ⟨rfl, hsleep⟩, keyNotice, if_pos (by simpa using hsleep)]
      exact ⟨fun _ => settle_taken hup false, fun ha hd => absurd hup (not_or.2 ⟨ha, hd⟩)⟩
    · have hnotice : keyNotice c .press u = if c.wakeEnable then activityNotice u else u := by
        rw [keyNotice, if_neg (by simpa using hsleep)]
      rw [if_neg (fun h => hsleep h.2), if_neg (fun h => nomatch h.1), hnotice]
      by_cases hwake : c.wakeEnable = true
      · rw [if_pos ⟨rfl, hwake⟩, if_pos hwake]
        exact ⟨fun hm => absurd hm hup.not_settling, activityNotice_doze,
          fun _ hd => activityNotice_active (hup.resolve_right hd)⟩
      · rw [if_neg (fun h => hwake h.2), if_neg hwake]
  | release =>
    rw [if_neg (by simp)]
    by_cases hcover : c.action = .cover
    · have hup : u.up := h.resolve_right (by simp [hcover])
      rw [if_pos ⟨rfl, hcover⟩, keyNotice, if_pos hcover]
      exact ⟨fun hm => absurd hm hup.not_settling, fun hm => by rw [cancelSettling, if_neg hm]⟩
    · rw [if_neg (by simp [hcover]), if_neg (by simp), keyNotice, if_neg hcover]
  | again => simp [keyNotice]

/-- A notice that is no sleep request leaves ACTIVE and DOZE as they are. -/
theorem keyNotice_turned {c : KeyConfig} {e : KeyEvent} {u : State} (hup : u.up)
    (h : e = .press → c.action ≠ .sleep ∧ c.action ≠ .cover) : Turned u (keyNotice c e u) := by
  have hrefl : Turned u u := ⟨.refl _ u, rfl⟩
  cases e with
  | press =>
    obtain ⟨hsleep, hcover⟩ := h rfl
    rw [keyNotice, if_neg (by simp [hsleep, hcover])]
    split
    · rcases hup with hm | hm
      · rw [activityNotice_active hm]; exact hrefl
      · rw [activityNotice_doze hm]
        exact ⟨(onPower_frame (fun p => { p with timer := p.timer.map (fun _ => p.delay) }) u).mono (by decide), rfl⟩
    · exact hrefl
  | release =>
    rw [keyNotice, cancelSettling, if_neg hup.not_settling, ite_self]
    exact hrefl
  | again => exact hrefl

/-! ### The request (R111) -/

theorem recheckDoze_engineIdle (p : PowerState) : p.recheckDoze.engineIdle = p.engineIdle := by
  obtain ⟨t, ht⟩ := recheckDoze_eq p
  rw [ht]

theorem engineNotify_turned {s : State} (h : s.up) : Turned s (engineNotify s) := by
  rw [engineNotify_up h]
  exact ⟨⟨rfl, by intro b hb; cases b <;> first | rfl | (intro _; rfl) | exact absurd hb (by decide)⟩, recheck_mode _ rfl⟩

theorem Turned.trans {s t u : State} (h : Turned s t) (h' : Turned t u) : Turned s u :=
  ⟨h.1.trans h'.1, h'.2.trans h.2⟩

theorem turn_asked {w : State} (h : w.up) (d : TurnDir) : TurnAsked d w (engineNotify (turnRequest d w)) := by
  have hturn := turnRequest_turned d h
  have hup := h.congr hturn.2
  have hall := hturn.trans (engineNotify_turned hup)
  rw [engineNotify_up hup] at hall ⊢
  refine ⟨rfl, rfl, rfl, rfl, rfl, hall.2, ?_, hall.1⟩
  show PowerState.engineIdle (if _ then _ else _) = _
  split
  · assumption
  · exact recheckDoze_engineIdle _

theorem setTo_fields (l : LightState) (v : Nat) : (l.setTo v).setLevel = v ∧ (l.setTo v).warmth = l.warmth := by
  obtain ⟨x, r, d, he⟩ := retarget_eq { l with setLevel := v }
  rw [LightState.setTo, he]
  exact ⟨rfl, rfl⟩

theorem level_asked {w : State} (h : w.up) (level : Nat) : LevelAsked level w (lightRequest level w) := by
  refine ⟨fun heq => if_pos heq, fun hne => ?_⟩
  have hlight : (lightEvent (fun l => l.setTo level) w).light = w.light.setTo level := by rw [lightEvent_up h]
  obtain ⟨hset, hwarm⟩ := setTo_fields w.light level
  refine ⟨lightEvent (fun l => l.setTo level) w, ?_, by rw [hlight, hset], by rw [hlight, hwarm], ?_, ?_, ?_⟩
  · rw [FrameOf, if_neg h.not_settling]
    exact ⟨lightEvent_frame h _, lightEvent_mode h _⟩
  · rw [hlight]; exact (setTo_follows level w.light).1
  · rw [lightEvent_up h]
  · rw [lightRequest, if_neg hne]
    simp only [hlight, hset, hwarm]

theorem lightRequest_turned {w : State} (h : w.up) (level : Nat) : Turned w (lightRequest level w) := by
  rw [lightRequest]
  split
  · exact ⟨.refl _ w, rfl⟩
  · exact Turned.trans ⟨(lightEvent_frame h _).mono (by decide), lightEvent_mode h _⟩ (raise_turned _ _)

/-- The request of an event: in ACTIVE and DOZE, or where the action asks for nothing. -/
theorem keyRequest_requested {c : KeyConfig} {e : KeyEvent} {w : State}
    (h : w.up ∨ e = .release ∨ c.action = .sleep ∨ c.action = .cover) : KeyRequested c e w (keyRequest c e w) := by
  rw [KeyRequested, keyRequest]
  by_cases he : e = .release
  · rw [if_pos he, if_pos he]
  · rw [if_neg he, if_neg he]
    cases ha : c.action <;> simp only [ha, he, reduceCtorEq, or_false] at h ⊢
    case turnNext => exact turn_asked h .next
    case turnPrev => exact turn_asked h .prev
    case lightUp => exact level_asked h _
    case lightDown => exact level_asked h _

theorem keyRequest_turned {c : KeyConfig} {e : KeyEvent} {w : State} (h : w.up) : Turned w (keyRequest c e w) := by
  rw [keyRequest]
  split
  · exact ⟨.refl _ w, rfl⟩
  · cases c.action
    case turnNext => exact (turnRequest_turned .next h).trans (engineNotify_turned (h.congr (turnRequest_turned .next h).2))
    case turnPrev => exact (turnRequest_turned .prev h).trans (engineNotify_turned (h.congr (turnRequest_turned .prev h).2))
    case lightUp => exact lightRequest_turned h _
    case lightDown => exact lightRequest_turned h _
    all_goals exact ⟨.refl _ w, rfl⟩

/-- A SLEEP or COVER key asks for nothing but sleep. -/
theorem keyRequest_sleep {c : KeyConfig} (e : KeyEvent) (w : State) (h : c.action = .sleep ∨ c.action = .cover) :
    keyRequest c e w = w := by
  rw [keyRequest]
  rcases h with h | h <;> simp [h]

/-! ### The event -/

theorem keyReported_iff (a : KeyAction) (e : KeyEvent) :
    keyReported a e = true ↔ a = .report ∨ (a = .cover ∧ e ≠ .again) := by cases a <;> simp [keyReported]

/-- The state the notice of an event is given in: the light has been active and the event reported. -/
def State.announced (s : State) (k : Nat) (e : KeyEvent) (time : Nat) : State :=
  if keyReported (s.key k).config.action e then raise (.key k e time) (lightActivity s) else lightActivity s

theorem keyEvent_eq (k : Nat) (e : KeyEvent) (time : Nat) (s : State) : keyEvent k e time s =
    keyRequest (s.key k).config e (keyNotice (s.key k).config e (s.announced k e time)) := rfl

theorem announced_turned {s : State} (h : s.up) (k : Nat) (e : KeyEvent) (time : Nat) : Turned s (s.announced k e time) := by
  rw [State.announced]
  split
  · exact (lightActivity_turned h).trans (raise_turned _ _)
  · exact lightActivity_turned h

/-- An event of a key is what the specification says of it: in ACTIVE and DOZE, and the RELEASE that follows a PRESS which has
put the part to sleep. -/
theorem keyEvent_taken (k : Nat) (e : KeyEvent) (time : Nat) (s : State)
    (hquiet : s.power.mode = .settling → s.light.activity.isDark = s.power.lightDark)
    (h : s.up ∨ (e = .release ∧ (s.key k).config.action ≠ .cover)) :
    KeyEventTaken k e time s (keyEvent k e time (s.evented k e)) := by
  have hc : ((s.evented k e).key k).config = (s.key k).config := evented_config s k k e
  rw [keyEvent_eq, hc]
  have hu : (s.evented k e).announced k e time =
      if (s.key k).config.action = .report ∨ ((s.key k).config.action = .cover ∧ e ≠ .again)
      then raise (.key k e time) (s.noted k e) else s.noted k e := by
    simp only [State.announced, hc, lightActivity_evented s k e hquiet, keyReported_iff]
  have hmode : ((s.evented k e).announced k e time).power.mode = s.power.mode := by
    rw [hu]
    split
    · exact (raise_mode _ _).trans (noted_mode s k e)
    · exact noted_mode s k e
  refine ⟨_, _, hu, keyNotice_noticed (h.imp_left (·.congr hmode)), keyRequest_requested ?_⟩
  rcases h with hup | ⟨he, -⟩
  · by_cases hsleep : (s.key k).config.action = .sleep ∨ (s.key k).config.action = .cover
    · exact .inr (.inr hsleep)
    · rw [not_or] at hsleep
      exact .inl ((hup.congr hmode).congr (keyNotice_turned (hup.congr hmode) (fun _ => hsleep)).2)
  · exact .inr (.inl he)

/-! ### What an event leaves of the keys and of the power state -/

/-- The keys are as they were, or the part has entered STANDBY with them. -/
def KeysKept (s t : State) : Prop :=
  t.keys = s.keys ∨ (t.power.mode = .standby ∧ t.keys = { s.keys with inputs := s.keys.inputs.map KeyInput.toStandby })

theorem KeysKept.timestamp {s t : State} (h : KeysKept s t) : t.keys.timestamp = s.keys.timestamp := by
  rcases h with h | ⟨-, h⟩ <;> rw [h]

theorem KeysKept.config {s t : State} (h : KeysKept s t) (k : Nat) : (t.key k).config = (s.key k).config := by
  rcases h with h | ⟨-, h⟩ <;> simp only [State.key, h]
  rw [recordAt, recordAt, Vector.getElem?_map]
  cases s.keys.inputs[k]? <;> rfl

theorem KeysKept.awake {s t : State} (h : KeysKept s t) (hm : t.power.mode ≠ .standby) : t.keys = s.keys :=
  h.resolve_right fun ⟨hs, _⟩ => hm hs

/-- The light of a settling part is held and wants level 0, so that activity leaves it as dark as it was (R125). -/
def State.held (s : State) : Prop := s.power.mode = .settling → s.light.hold = true ∧ s.light.target = 0

theorem activity_held (l : LightState) (hh : l.hold = true) (ht : l.target = 0) : l.activity.isDark = l.isDark := by
  obtain ⟨w, hw⟩ := startDwell_eq { l with dimmed := false, dark := false }
  have hwanted : LightState.wanted { l with dimmed := false, dark := false, dwell := w } = l.target := by
    rw [ht]; exact if_pos hh
  rw [LightState.activity, hw, LightState.retarget, if_pos hwanted]; rfl

theorem activity_hold (l : LightState) : l.activity.hold = l.hold := by
  obtain ⟨w, hw⟩ := startDwell_eq { l with dimmed := false, dark := false }
  obtain ⟨v, r, d, he⟩ := retarget_eq { l with dimmed := false, dark := false, dwell := w }
  rw [LightState.activity, hw, he]; rfl

theorem activity_target (l : LightState) (hh : l.hold = true) : l.activity.target = 0 := by
  obtain ⟨w, hw⟩ := startDwell_eq { l with dimmed := false, dark := false }
  obtain ⟨v, r, d, he⟩ := retarget_eq { l with dimmed := false, dark := false, dwell := w }
  rw [LightState.activity, hw, he]
  exact if_pos hh

theorem Turned.keys {s t : State} (h : Turned s t) : t.keys = s.keys := h.1.2 .keys (by decide)

theorem settle_kept {s : State} (h : s.up) (hostAsked : Bool) :
    KeysKept s (settle hostAsked s) ∧ (settle hostAsked s).held ∧ ¬(settle hostAsked s).up := by
  obtain ⟨⟨hcase, -, hhold, htarget, -⟩, -, -⟩ := settle_taken h hostAsked
  refine ⟨?_, fun _ => ⟨hhold, htarget⟩, ?_⟩
  · have hkeys : (s.settled hostAsked).keys = s.keys := (settled_frame hostAsked s).2 .keys (by decide)
    rw [settle_up h]
    split
    · obtain ⟨hpower, -⟩ := enterStandby_fields (s.settled hostAsked)
      exact .inr ⟨by rw [hpower], by rw [enterStandby_keys, hkeys]⟩
    · exact .inl hkeys
  · split at hcase
    · obtain ⟨hm, -⟩ := hcase; simp [State.up, hm]
    · obtain ⟨hm, -⟩ := hcase; simp [State.up, hm]

/-- After an event in ACTIVE or DOZE the part is still there, unless a SLEEP or COVER key was pressed. -/
theorem keyEvent_kept {s : State} (h : s.up) (k : Nat) (e : KeyEvent) (time : Nat) :
    KeysKept s (keyEvent k e time s) ∧ (keyEvent k e time s).held ∧
      ((keyEvent k e time s).up ∨ (s.key k).config.action = .sleep ∨ (s.key k).config.action = .cover) ∧
      (e ≠ .press → (keyEvent k e time s).up) := by
  have hu := announced_turned h k e time
  have hup := h.congr hu.2
  rw [keyEvent_eq]
  by_cases hsleep : e = .press ∧ ((s.key k).config.action = .sleep ∨ (s.key k).config.action = .cover)
  · obtain ⟨rfl, hact⟩ := hsleep
    rw [keyRequest_sleep _ _ hact, keyNotice, if_pos (by simpa using hact)]
    obtain ⟨hkept, hheld, -⟩ := settle_kept hup false
    refine ⟨?_, hheld, .inr hact, fun hne => absurd rfl hne⟩
    rwa [KeysKept, hu.keys] at hkept
  · have hnotice : Turned _ _ := keyNotice_turned (c := (s.key k).config) (e := e) hup
      (fun he => not_or.1 (fun hact => hsleep ⟨he, hact⟩))
    have hall := (hu.trans hnotice).trans (keyRequest_turned (c := (s.key k).config) (e := e) (hup.congr hnotice.2))
    have hup' := h.congr hall.2
    exact ⟨.inl hall.keys, fun hm => absurd hm hup'.not_settling, .inl hup', fun _ => hup'⟩

/-- A RELEASE of a SLEEP key is nothing but activity. -/
theorem keyEvent_release_sleep (k time : Nat) (s : State) (h : (s.key k).config.action = .sleep) :
    keyEvent k .release time s = lightActivity s := by
  rw [keyEvent_eq, keyRequest_sleep _ _ (.inl h), keyNotice, State.announced, h]
  rfl

/-! ## The end of WAKING (R178) -/

/-! ### The latched key's events -/

/-- What a key event delivered at the end of WAKING leaves: it has been taken as the specification says, the blocks' copies
agree, and the keys are as the event left them or as the entry to STANDBY did. -/
structure Delivered (k : Nat) (e : KeyEvent) (time : Nat) (s t : State) : Prop where
  taken : KeyEventTaken k e time s t
  inStep : t.inStep {}
  kept : KeysKept (s.evented k e) t
  held : t.held
  awake : t.power.mode ≠ .standby → s.power.mode ≠ .standby

theorem Delivered.config {k : Nat} {e : KeyEvent} {time : Nat} {s t : State} (h : Delivered k e time s t) (j : Nat) :
    (t.key j).config = (s.key j).config := (h.kept.config j).trans (evented_config s k j e)

theorem Delivered.timestamp {k : Nat} {e : KeyEvent} {time : Nat} {s t : State} (h : Delivered k e time s t) :
    t.keys.timestamp = s.keys.timestamp := h.kept.timestamp

theorem Delivered.other {k : Nat} {e : KeyEvent} {time : Nat} {s t : State} (h : Delivered k e time s t)
    (hm : t.power.mode ≠ .standby) (j : Nat) (hj : j ≠ k) : t.key j = s.key j := by
  rw [State.key, h.kept.awake hm]
  exact evented_key_other s k j e hj

/-- An event in ACTIVE or DOZE, and the RELEASE of a SLEEP key whose PRESS has taken the part out of them. -/
theorem keyEvent_delivered {s : State} (hs : s.inStep {}) (hheld : s.held) (k : Nat) (e : KeyEvent) (time : Nat)
    (h : s.up ∨ (e = .release ∧ (s.key k).config.action = .sleep)) :
    Delivered k e time s (keyEvent k e time (s.evented k e)) := by
  have hquiet : s.power.mode = .settling → s.light.activity.isDark = s.power.lightDark := by
    intro hm
    obtain ⟨hhold, htarget⟩ := hheld hm
    rw [activity_held s.light hhold htarget, hs.lightDark]
  have htaken := keyEvent_taken k e time s hquiet (h.imp_right fun ⟨he, ha⟩ => ⟨he, by simp [ha]⟩)
  have hstep : (keyEvent k e time (s.evented k e)).inStep {} := 
    keyEvent_effect {} k e time _ (onKeys_effect {} (fun u => { u with inputs := withRecord u.inputs k (eventInput e) }) s hs)
  by_cases hup : s.up
  · obtain ⟨hkept, hheld', -, -⟩ := keyEvent_kept (s := s.evented k e) (hup.congr rfl) k e time
    exact ⟨htaken, hstep, hkept, hheld', fun _ => hup.not_standby⟩
  · obtain ⟨rfl, ha⟩ := h.resolve_left hup
    have hact : (((s.evented k .release).key k).config).action = .sleep := by rw [evented_config]; exact ha
    have hnoted : keyEvent k .release time (s.evented k .release) = s.noted k .release := by
      rw [keyEvent_release_sleep k time _ hact, lightActivity_evented s k .release hquiet]
    rw [hnoted] at htaken hstep ⊢
    have hmode := noted_mode s k .release
    refine ⟨htaken, hstep, .inl (noted_keys s k .release), fun hm => ?_, fun hm => hmode ▸ hm⟩
    have hm : s.power.mode = .settling := hmode.symm.trans hm
    have hserving : servingMode s.power.mode = true := by rw [hm]; rfl
    obtain ⟨hhold, -⟩ := hheld hm
    rw [State.noted, if_pos hserving]
    exact ⟨(activity_hold s.light).trans hhold, activity_target s.light hhold⟩

/-- What the delivery of a latched key leaves (R115; log 22). -/
structure LatchTaken (k time : Nat) (a b : State) : Prop where
  press : (a.key k).config.action ≠ .cover → (a.key k).raw = (a.key k).config.active → KeyEventTaken k .press time a b
  pressRelease : (a.key k).config.action ≠ .cover → (a.key k).raw ≠ (a.key k).config.active →
    ∃ c, KeyEventTaken k .press time a c ∧ KeyEventTaken k .release a.keys.timestamp c b
  release : (a.key k).config.action = .cover → (a.key k).raw ≠ (a.key k).config.active → KeyEventTaken k .release time a b
  releasePress : (a.key k).config.action = .cover → (a.key k).raw = (a.key k).config.active →
    ∃ c, KeyEventTaken k .release time a c ∧ KeyEventTaken k .press a.keys.timestamp c b
  inStep : b.inStep {}
  others : b.power.mode ≠ .standby → ∀ j, j ≠ k → b.key j = a.key j

theorem deliverLatched_taken {a : State} (hup : a.up) (ha : a.inStep {}) (k time : Nat) :
    LatchTaken k time a (deliverLatched k time a) := by
  have hheld : a.held := fun hm => absurd hm hup.not_settling
  rw [deliverLatched]
  by_cases hcover : (a.key k).config.action = .cover
  · have h₁ := keyEvent_delivered ha hheld k .release time (.inl hup)
    obtain ⟨-, -, -, hstay⟩ := keyEvent_kept (s := a.evented k .release) (hup.congr rfl) k .release time
    have hup₁ := hstay nofun
    rw [if_pos hcover, releaseKey_eq]
    generalize keyEvent k .release time (a.evented k .release) = c at h₁ hup₁
    by_cases hraw : (a.key k).raw = (a.key k).config.active
    · have h₂ := keyEvent_delivered h₁.inStep h₁.held k .press c.keys.timestamp (.inl hup₁)
      rw [if_pos (by simpa using hraw), pressKey_eq]
      have htime := h₁.timestamp
      rw [htime] at h₂ ⊢
      exact ⟨fun h => absurd hcover h, fun h => absurd hcover h, fun _ h => absurd hraw h, fun _ _ => ⟨c, h₁.taken, h₂.taken⟩,
        h₂.inStep, fun hm j hj => (h₂.other hm j hj).trans (h₁.other (h₂.awake hm) j hj)⟩
    · rw [if_neg (by simpa using hraw)]
      exact ⟨fun h => absurd hcover h, fun h => absurd hcover h, fun _ _ => h₁.taken, fun _ h => absurd h hraw,
        h₁.inStep, h₁.other⟩
  · have h₁ := keyEvent_delivered ha hheld k .press time (.inl hup)
    obtain ⟨-, -, hstay, -⟩ := keyEvent_kept (s := a.evented k .press) (hup.congr rfl) k .press time
    rw [evented_config] at hstay
    rw [if_neg hcover, pressKey_eq]
    generalize keyEvent k .press time (a.evented k .press) = c at h₁ hstay
    by_cases hraw : (a.key k).raw = (a.key k).config.active
    · rw [if_pos (by simpa using hraw)]
      exact ⟨fun _ _ => h₁.taken, fun _ h => absurd hraw h, fun h => absurd h hcover, fun h => absurd h hcover,
        h₁.inStep, h₁.other⟩
    · have hnext : c.up ∨ (KeyEvent.release = .release ∧ (c.key k).config.action = .sleep) := by
        rw [h₁.config k]
        exact hstay.imp_right fun h => ⟨rfl, h.resolve_right hcover⟩
      have h₂ := keyEvent_delivered h₁.inStep h₁.held k .release c.keys.timestamp hnext
      rw [if_neg (by simpa using hraw), releaseKey_eq]
      have htime := h₁.timestamp
      rw [htime] at h₂ ⊢
      exact ⟨fun _ h => absurd h hraw, fun _ _ => ⟨c, h₁.taken, h₂.taken⟩, fun h => absurd h hcover, fun h => absurd h hcover,
        h₂.inStep, fun hm j hj => (h₂.other hm j hj).trans (h₁.other (h₂.awake hm) j hj)⟩

/-! ### The resampling -/

theorem resample_eq (i : KeyInput) : i.resample = resampled i := by
  rw [KeyInput.resample, resampled, KeyInput.meaning]
  exact if_congr (by rw [Bool.and_eq_true, decide_eq_true_eq]) rfl rfl

theorem resampleOthers_key (s : State) (l : Option Nat) (j : Nat) (hj : j < 6) :
    (s.onKeys (fun u => u.resampleOthers l)).key j = if l = some j then s.key j else resampled (s.key j) := by
  simp only [State.key, recordAt, onKeys_keys, KeyState.resampleOthers, Vector.getElem?_mapIdx, resample_eq]
  rw [Vector.getElem?_eq_getElem hj]
  rfl

theorem keysAwake_none {s : State} (h : s.keys.latch = none) : keysAwake s = s.onKeys (fun u => u.resampleOthers none) := by
  rw [keysAwake, h]

/-- A wakened part with its latch emptied. -/
def State.unlatched (s : State) : State := s.onKeys (fun u => { u with latch := none })

theorem keysAwake_some {s : State} {k time : Nat} (h : s.keys.latch = some (k, time)) : keysAwake s =
    if servingMode (deliverLatched k time s.unlatched).power.mode
    then (deliverLatched k time s.unlatched).onKeys (fun u => u.resampleOthers (some k))
    else deliverLatched k time s.unlatched := by
  rw [keysAwake, h]; rfl

/-- The key unit's part empties the latch and leaves page memory and the filter alone. -/
theorem keysAwake_latch (s : State) : (keysAwake s).keys.latch = none := by
  cases h : s.keys.latch with
  | none => rw [keysAwake_none h]; exact h
  | some l =>
    have hlatch := (deliverLatched_undisturbed l.1 l.2 s.unlatched).latch
    rw [keysAwake_some h]
    split <;> exact hlatch

theorem keysAwake_undisturbed (s : State) : Undisturbed s.unlatched (keysAwake s) := by
  cases h : s.keys.latch with
  | none => rw [keysAwake_none h]; exact ⟨fun _ => rfl, rfl, rfl, h⟩
  | some l =>
    obtain ⟨hmem, hfiltered, hsamples, hlatch⟩ := deliverLatched_undisturbed l.1 l.2 s.unlatched
    rw [keysAwake_some h]
    split <;> exact ⟨hmem, hfiltered, hsamples, hlatch⟩

/-! ### The state the latched key finds -/

/-- A part that has woken into `m`, but for the light (R178). -/
structure Woken (s : State) (m : PowerMode) (t : State) : Prop where
  frame : SameExcept [.pool, .wave, .budget, .radio, .stream, .power, .link] s t
  mode : t.power.mode = m
  refresh : t.pool.refresh = .awake
  wave : t.wave = s.wave.restart
  fifo : t.radio.fifo = []
  receiver : t.radio.receiver = if s.radio.enabled then .seekHigh else .stopped
  radioCopy : t.radio.powerCopy = m
  linkCopy : t.link.powerCopy = m
  sleepHold : t.stream.sleepHold = false
  records : ∀ r ∈ t.stream.records.toList, ¬(r.mode = .paused ∧ r.pause = some .sleep)

theorem unpause_pause (r : StreamRecord) : r.unpause.pause = none := rfl

theorem release_records (t : StreamState) :
    ∀ r ∈ t.release.records.toList, ¬(r.mode = .paused ∧ r.pause = some .sleep) := by
  intro r hr
  simp only [StreamState.release, Vector.toList_map, List.mem_map] at hr
  obtain ⟨q, -, rfl⟩ := hr
  split
  · simp [unpause_pause]
  · simp_all

theorem roused_frame (s : State) : SameExcept [.pool, .budget, .radio, .stream, .power, .link] s s.roused :=
  ((setMode_frame (s.power.wakeEnd.getD .active) (fun p => { p with wakeEnd := none, linkDuringWake := false }) s).mono
      (by decide)).trans <|
    ((onPool_frame (fun p => { p with refresh := .awake }) _).mono (by decide)).trans <|
    ((onRadio_frame (fun r => ((r.setFifo []).startReceiver).rehold) _).mono (by decide)).trans <|
    (onStream_frame StreamState.release _).mono (by decide)

/-- The state after the streams' signals, the filter restarted. -/
theorem signalled_woken {s : State} {m : PowerMode} (h : s.power.wakeEnd = some m) (hm : m = .active ∨ m = .doze) :
    Woken s m ((handSignals s.roused).onWave WaveState.restart) ∧
      ((handSignals s.roused).onWave WaveState.restart).budget = { s.budget with power := m } ∧
      ((handSignals s.roused).onWave WaveState.restart).link = { s.link with powerCopy := m } := by
  have hmode : s.roused.power.mode = m := by simp [State.roused, setMode, handMode, h]
  have hup : s.roused.up := by rw [State.up, hmode]; exact hm
  have hwave : s.roused.wave = s.wave := (roused_frame s).2 .wave (by decide)
  have hradio : s.roused.radio = ((({ s.radio with powerCopy := m }.rehold).setFifo []).startReceiver).rehold := by
    simp [State.roused, setMode, handMode, h]
  have hstream : s.roused.stream = s.stream.release := by simp [State.roused, setMode, handMode]
  have hlink : s.roused.link = { s.link with powerCopy := m } := by simp [State.roused, setMode, handMode, h]
  have hbudget : s.roused.budget = { s.budget with power := m } := by simp [State.roused, setMode, handMode, h]
  have hpool : s.roused.pool = { s.pool with refresh := .awake } := by simp [State.roused, setMode, handMode]
  have hframe := roused_frame s
  obtain ⟨p, hp, hsignals⟩ : ∃ p : PowerState, p.mode = m ∧ handSignals s.roused = { handHeadroom s.roused with power := p } :=
    ⟨_, (recheck_mode (p := s.roused.power) (q := { s.roused.power with running := s.roused.stream.anyRunning })
      (s.roused.power.running = s.roused.stream.anyRunning) rfl).trans hmode, handSignals_up hup⟩
  rw [hsignals]
  generalize s.roused = u at *
  refine ⟨⟨?_, hp, congrArg PoolState.refresh hpool, congrArg WaveState.restart hwave, ?_, ?_, ?_,
    congrArg LinkState.powerCopy hlink, ?_, ?_⟩, hbudget, hlink⟩
  · refine (hframe.mono (by decide)).trans ⟨rfl, ?_⟩
    intro b hb
    cases b <;> first | rfl | (intro _; rfl) | exact absurd hb (by decide)
  · show u.radio.fifo = []
    rw [hradio]; rfl
  · show u.radio.receiver = _
    rw [hradio]; rfl
  · show u.radio.powerCopy = m
    rw [hradio]; rfl
  · show u.stream.sleepHold = false
    rw [hstream]; rfl
  · show ∀ r ∈ u.stream.records.toList, _
    rw [hstream]; exact release_records s.stream

theorem raise_powerCopy (r : Report) (s : State) : (raise r s).link.powerCopy = s.link.powerCopy := by
  by_cases hm : s.power.mode = .standby
  · rw [raise_standby r s hm]
  · cases h : s.link.roomForReport with
    | true => rw [raise_joins r s hm h]; rfl
    | false => rw [raise_drops r s hm h]

theorem Woken.raise {s t : State} {m : PowerMode} (h : Woken s m t) (r : Report) : Woken s m (raise r t) := by
  have hframe := raise_frame r t
  have hradio : (Machine.raise r t).radio = t.radio := hframe.2 .radio (by decide)
  have hstream : (Machine.raise r t).stream = t.stream := hframe.2 .stream (by decide)
  have hpool : (Machine.raise r t).pool = t.pool := hframe.2 .pool (by decide)
  exact ⟨h.frame.trans (hframe.mono (by decide)), (raise_mode r t).trans h.mode, by rw [hpool]; exact h.refresh,
    (hframe.2 .wave (by decide)).trans h.wave, by rw [hradio]; exact h.fifo, by rw [hradio]; exact h.receiver,
    by rw [hradio]; exact h.radioCopy, (raise_powerCopy r t).trans h.linkCopy, by rw [hstream]; exact h.sleepHold,
    by rw [hstream]; exact h.records⟩

theorem Woken.onBudget {s t : State} {m : PowerMode} (h : Woken s m t) (f : BudgetState → BudgetState) :
    Woken s m (t.onBudget f) :=
  { h with frame := h.frame.trans ((onBudget_frame f t).mono (by decide)) }

/-- LOW_BATTERY is reported where an assertion went unreported (R76). -/
theorem reported_woken {s : State} {m : PowerMode} (h : s.power.wakeEnd = some m) (hm : m = .active ∨ m = .doze) :
    Woken s m s.reported ∧
      s.reported.budget = { s.budget with power := m, reported := s.budget.reported || s.budget.lowbat } ∧
      (s.link.roomForReport = true → s.reported.link.queue = s.link.queue ++
        (if s.budget.lowbat = true ∧ s.budget.reported = false then [.report .lowBattery] else [])) := by
  obtain ⟨hwoken, hbudget, hlink⟩ := signalled_woken h hm
  rw [State.reported]
  generalize (handSignals s.roused).onWave WaveState.restart = u at *
  rw [reportSleptBattery, hbudget]
  by_cases hlow : s.budget.lowbat = true ∧ s.budget.reported = false
  · obtain ⟨hbat, hrep⟩ := hlow
    rw [if_pos (by simp [hbat, hrep]), if_pos ⟨hbat, hrep⟩, reportLowBattery]
    refine ⟨(hwoken.onBudget _).raise _, ?_, fun hroom => ?_⟩
    · have hsame := (raise_frame .lowBattery (u.onBudget (fun b => { b with reported := true }))).2 .budget (by decide)
      have hsame : _ = (u.onBudget (fun b => { b with reported := true })).budget := hsame
      rw [hsame, onBudget_budget, hbudget]; simp [hbat]
    · have hroom' : (u.onBudget (fun b => { b with reported := true })).link.roomForReport = true := by
        rw [onBudget_link, hlink]; exact hroom
      have hawake : (u.onBudget (fun b => { b with reported := true })).power.mode ≠ .standby := by
        rw [onBudget_power, hwoken.mode]; rcases hm with rfl | rfl <;> decide
      rw [raise_joins _ _ hawake hroom']
      show u.link.queue ++ _ = _
      rw [hlink]
  · rw [if_neg (by simpa [and_comm] using hlow), if_neg hlow]
    refine ⟨hwoken, ?_, fun _ => by rw [hlink, List.append_nil]⟩
    rw [hbudget]
    cases hbat : s.budget.lowbat <;> cases hrep : s.budget.reported <;> simp_all

/-- The light at the end of WAKING: out of its hold, and dark after a radio wake (R128). -/
theorem wake_fields (l : LightState) (radio : Bool) : (l.wake radio).hold = false ∧ (l.wake radio).dimmed = false ∧
    (l.wake radio).dark = radio ∧ (l.wake radio).setLevel = l.setLevel := by
  obtain ⟨w, hw⟩ := startDwell_eq { l with hold := false, dimmed := false }
  obtain ⟨v, r, d, he⟩ := retarget_eq { l with hold := false, dimmed := false, dwell := w, dark := radio }
  rw [LightState.wake, hw, he]
  exact ⟨rfl, rfl, rfl, rfl⟩

theorem reported_up {s : State} {m : PowerMode} (h : s.power.wakeEnd = some m) (hm : m = .active ∨ m = .doze) :
    s.reported.up := by
  rw [State.up, (reported_woken h hm).1.mode]; exact hm

/-- The light's part changes the light and what the power controller hears of it. -/
theorem wakened_eq {s : State} {m : PowerMode} (h : s.power.wakeEnd = some m) (hm : m = .active ∨ m = .doze) :
    ∃ p : PowerState, p.mode = m ∧ s.wakened = { s.reported with
      light := s.light.wake (s.power.cause = some .radio && !s.power.linkDuringWake), power := p } := by
  obtain ⟨hwoken, -, -⟩ := reported_woken h hm
  have hlight : s.reported.light = s.light := hwoken.frame.2 .light (by decide)
  have heq := lightEvent_up (reported_up h hm) (fun l => l.wake (s.power.cause = some .radio && !s.power.linkDuringWake))
  refine ⟨s.wakened.power, (lightEvent_mode (reported_up h hm) _).trans hwoken.mode, ?_⟩
  rw [State.wakened, heq, hlight]

/-! ## Page memory's answers and the completion of WAKING (R15, R178) -/

/-! ### The answers -/

theorem execSelfRefreshEntered_settled {s : State} (h : ∀ r ∈ s.stream.records.toList, r.flight = none) :
    exec .selfRefreshEntered s = .next (s.onPool PoolState.entered) := by
  refine congrArg Host.Outcome.next (if_neg ?_)
  rw [Vector.any_eq_true']
  rintro ⟨r, hr, hflight⟩
  rw [h r (by simpa using hr)] at hflight
  cases hflight

theorem execSelfRefreshEntered_inFlight {s : State} (h : ∃ r ∈ s.stream.records.toList, r.flight ≠ none) :
    exec .selfRefreshEntered s = .next s := by
  obtain ⟨r, hr, hflight⟩ := h
  exact congrArg Host.Outcome.next (if_pos (Vector.any_eq_true'.2 ⟨r, by simpa using hr, Option.isSome_iff_ne_none.2 hflight⟩))

theorem entered_other {p : PoolState} (h : p.refresh ≠ .entering) (h' : p.refresh ≠ .enteringWakeAsked) : p.entered = p := by
  cases hr : p.refresh <;> simp_all [PoolState.entered]

/-- What an answer of page memory's entry to self-refresh does, once no payload write is in flight (R15; log 29). -/
theorem selfRefreshEntered_answer {s : State} (h : ∀ r ∈ s.stream.records.toList, r.flight = none) :
    (s.pool.refresh = .entering →
      exec .selfRefreshEntered s = .next { s with pool := { s.pool with refresh := .inRefresh } }) ∧
    (s.pool.refresh = .enteringWakeAsked →
      exec .selfRefreshEntered s = .next { s with pool := { s.pool with refresh := .leaving } }) ∧
    (s.pool.refresh ≠ .entering → s.pool.refresh ≠ .enteringWakeAsked → exec .selfRefreshEntered s = .next s) := by
  rw [execSelfRefreshEntered_settled h, State.onPool]
  refine ⟨fun hr => ?_, fun hr => ?_, fun hr hr' => ?_⟩
  · rw [PoolState.entered, hr]
  · rw [PoolState.entered, hr]
  · rw [entered_other hr hr']

theorem execWakingComplete_idle {s : State} (h : ¬(s.power.mode = .waking ∧ s.pool.refresh = .leaving)) :
    exec .wakingComplete s = .next s := congrArg Host.Outcome.next (if_neg (by simpa using h))

theorem execWakingComplete_wakes {s : State} (h : s.power.mode = .waking) (h' : s.pool.refresh = .leaving) :
    exec .wakingComplete s = .next (completeWaking s) := congrArg Host.Outcome.next (if_pos (by simp [h, h']))

/-! ### Without a latched key -/

theorem wakened_keys {s : State} {m : PowerMode} (h : s.power.wakeEnd = some m) (hm : m = .active ∨ m = .doze) :
    s.wakened.keys = s.keys := by
  obtain ⟨p, -, hw⟩ := wakened_eq h hm
  rw [hw]; exact (reported_woken h hm).1.frame.2 .keys (by decide)

theorem wakened_mode {s : State} {m : PowerMode} (h : s.power.wakeEnd = some m) (hm : m = .active ∨ m = .doze) :
    s.wakened.power.mode = m := by
  obtain ⟨p, hp, hw⟩ := wakened_eq h hm
  rw [hw]; exact hp

/-- Whatever is latched, the filter has restarted, the latch is empty and page memory is as it was. -/
theorem completeWaking_restarts {s : State} {m : PowerMode} (h : s.power.wakeEnd = some m) (hm : m = .active ∨ m = .doze) :
    (completeWaking s).wave.filtered = none ∧ (completeWaking s).wave.samples = 0 ∧ (completeWaking s).keys.latch = none ∧
      SameBytesExcept (fun _ => False) s (completeWaking s) := by
  obtain ⟨p, -, hw⟩ := wakened_eq h hm
  have hwoken := (reported_woken h hm).1
  have htail := (onPower_undisturbed PowerState.recheckDoze (keysAwake s.wakened)).trans (engineNotify_undisturbed _)
  have hall := (keysAwake_undisturbed s.wakened).trans htail
  have hwave : s.wakened.wave = s.wave.restart := by rw [hw]; exact hwoken.wave
  have hmem : ∀ a, Memory.read s.wakened.mem a = Memory.read s.mem a := by
    intro a; rw [hw]; exact hwoken.frame.2 .mem (by decide) a
  rw [completeWaking_eq]
  exact ⟨hall.filtered.trans (congrArg WaveState.filtered hwave), hall.samples.trans (congrArg WaveState.samples hwave),
    htail.latch.trans (keysAwake_latch _), fun a _ => (hall.mem a).trans (hmem a)⟩

/-- With the latch empty, the keys are resampled and nothing follows. -/
theorem completeWaking_unlatched {s : State} {m : PowerMode} (h : s.power.wakeEnd = some m) (hm : m = .active ∨ m = .doze)
    (hlatch : s.keys.latch = none) : ∃ p : PowerState, p.mode = m ∧ completeWaking s = { s.reported with
      light := s.light.wake (s.power.cause = some .radio && !s.power.linkDuringWake)
      keys := s.keys.resampleOthers none
      power := p } := by
  have hkeys := wakened_keys h hm
  have hmode := (PowerState.recheckDoze_mode s.wakened.power).trans (wakened_mode h hm)
  have hwup : s.wakened.up := by rw [State.up, wakened_mode h hm]; exact hm
  have hup : ((s.wakened.onKeys (fun u => u.resampleOthers none)).onPower PowerState.recheckDoze).up :=
    hwup.congr (PowerState.recheckDoze_mode s.wakened.power)
  obtain ⟨p, -, hw⟩ := wakened_eq h hm
  rw [completeWaking_eq, keysAwake_none (by rw [hkeys]; exact hlatch)]
  have hturned := (engineNotify_turned hup).2
  rw [engineNotify_up hup] at hturned ⊢
  refine ⟨_, hturned.trans hmode, ?_⟩
  simp only [State.onPower, State.onKeys, hkeys]
  rw [hw]

theorem completeWaking_state {s : State} {m : PowerMode} (h : s.power.wakeEnd = some m) (hm : m = .active ∨ m = .doze)
    (hlatch : s.keys.latch = none) :
    (completeWaking s).power.mode = m ∧ (completeWaking s).pool.refresh = .awake ∧ (completeWaking s).wave.timer = .due ∧
      (completeWaking s).radio.fifo = [] ∧
      (completeWaking s).radio.receiver = (if s.radio.enabled then .seekHigh else .stopped) ∧ HoldsReleased (completeWaking s) ∧
      (completeWaking s).light.dimmed = false ∧
      (completeWaking s).light.dark = (s.power.cause = some .radio && !s.power.linkDuringWake) ∧
      (completeWaking s).link.powerCopy = m ∧ (completeWaking s).radio.powerCopy = m ∧ (completeWaking s).budget.power = m ∧
      SameExcept [.pool, .wave, .budget, .keys, .light, .radio, .stream, .power, .link] s (completeWaking s) := by
  obtain ⟨hwoken, hbudget, -⟩ := reported_woken h hm
  obtain ⟨hhold, hdimmed, hdark, -⟩ := wake_fields s.light (s.power.cause = some .radio && !s.power.linkDuringWake)
  obtain ⟨p, hp, ht⟩ := completeWaking_unlatched h hm hlatch
  have hframe : SameExcept [.keys, .light, .power] s.reported (completeWaking s) := by
    rw [ht]
    exact ⟨rfl, by intro b hb; cases b <;> first | rfl | (intro _; rfl) | exact absurd hb (by decide)⟩
  refine ⟨?_, ?_, ?_, ?_, ?_, ?_, ?_, ?_, ?_, ?_, ?_, (hwoken.frame.mono (by decide)).trans (hframe.mono (by decide))⟩ <;> rw [ht]
  · exact hp
  · exact hwoken.refresh
  · exact congrArg WaveState.timer hwoken.wave
  · exact hwoken.fifo
  · exact hwoken.receiver
  · exact ⟨hhold, hwoken.sleepHold, hwoken.records⟩
  · exact hdimmed
  · exact hdark
  · exact hwoken.linkCopy
  · exact hwoken.radioCopy
  · exact congrArg BudgetState.power hbudget

/-! ### With what waited through WAKING -/

/-- Where the power controller has been told already, the engine's notice is no event. -/
theorem engineNotify_told {s : State} (h : s.power.engineIdle = s.engine.idle) : engineNotify s = s := if_pos h

/-- In a coherent part the completion of WAKING ends with the key unit. -/
theorem completeWaking_coherent {s : State} (h : s.inStep {}) :
    completeWaking s = (keysAwake s.wakened).onPower PowerState.recheckDoze := by
  have hstep := (recheckDoze_effect {} _) ((keysAwake_effect {} _) (wakened_effect {} s h))
  rw [completeWaking_eq, engineNotify_told (hstep.idle rfl)]

/-- What a latched key finds (R178, R76). -/
theorem unlatched_fields {s : State} {m : PowerMode} (h : s.power.wakeEnd = some m) (hm : m = .active ∨ m = .doze)
    (hroom : s.link.roomForReport = true) :
    s.wakened.unlatched.power.mode = m ∧ s.wakened.unlatched.keys = { s.keys with latch := none } ∧
      s.wakened.unlatched.cache = s.cache ∧ s.wakened.unlatched.engine = s.engine ∧ s.wakened.unlatched.rail = s.rail ∧
      s.wakened.unlatched.link.queue = s.link.queue ++
        (if s.budget.lowbat = true ∧ s.budget.reported = false then [.report .lowBattery] else []) ∧
      s.wakened.unlatched.budget = { s.budget with power := m, reported := s.budget.reported || s.budget.lowbat } ∧
      HoldsReleased s.wakened.unlatched ∧ s.wakened.unlatched.light.setLevel = s.light.setLevel ∧
      s.wakened.unlatched.light.dimmed = false ∧
      s.wakened.unlatched.light.dark = (s.power.cause = some .radio && !s.power.linkDuringWake) := by
  obtain ⟨hwoken, hbudget, hqueue⟩ := reported_woken h hm
  obtain ⟨hhold, hdimmed, hdark, hlevel⟩ := wake_fields s.light (s.power.cause = some .radio && !s.power.linkDuringWake)
  have hkeys := wakened_keys h hm
  obtain ⟨p, hp, hw⟩ := wakened_eq h hm
  refine ⟨wakened_mode h hm, by rw [State.unlatched, onKeys_keys, hkeys], ?_⟩
  rw [State.unlatched, hw]
  exact ⟨hwoken.frame.2 .cache (by decide), hwoken.frame.2 .engine (by decide), hwoken.frame.2 .rail (by decide), hqueue hroom,
    hbudget, ⟨hhold, hwoken.sleepHold, hwoken.records⟩, hlevel, hdimmed, hdark⟩

/-- Without a latched key every input is resampled. -/
theorem keysAwake_resamples {s : State} {m : PowerMode} (h : s.power.wakeEnd = some m) (hm : m = .active ∨ m = .doze)
    (hlatch : s.keys.latch = none) :
    (keysAwake s.wakened).link = s.wakened.link ∧ ∀ j, j < 6 → (keysAwake s.wakened).key j = resampled (s.key j) := by
  have hkeys := wakened_keys h hm
  rw [keysAwake_none (by rw [hkeys]; exact hlatch)]
  refine ⟨rfl, fun j hj => ?_⟩
  rw [resampleOthers_key _ none j hj, if_neg nofun, State.key, hkeys]; rfl

/-- After a latched key only the other inputs are resampled, and none where the key has put the part back into STANDBY
(R115; log 22). -/
theorem keysAwake_latched {w : State} {k time : Nat} (hlatch : w.keys.latch = some (k, time)) (hk : k < 6) (b : State)
    (hb : deliverLatched k time w.unlatched = b) :
    (keysAwake w).key k = b.key k ∧ (keysAwake w).link = b.link ∧ (keysAwake w).cache = b.cache ∧
      (keysAwake w).engine = b.engine ∧ (keysAwake w).light = b.light ∧ (keysAwake w).power = b.power ∧
      (servingMode b.power.mode = true → ∀ j, j < 6 → j ≠ k → (keysAwake w).key j = resampled (b.key j)) ∧
      (b.power.mode = .standby → (keysAwake w).keys = b.keys) := by
  rw [keysAwake_some hlatch, hb]
  split
  case isTrue hserving =>
    refine ⟨by rw [resampleOthers_key b _ k hk, if_pos rfl], rfl, rfl, rfl, rfl, rfl, fun _ j hj hjk => ?_, fun hm => ?_⟩
    · rw [resampleOthers_key b _ j hj, if_neg (by simpa using Ne.symm hjk)]
    · rw [hm] at hserving; cases hserving
  case isFalse hserving => exact ⟨rfl, rfl, rfl, rfl, rfl, rfl, fun h => absurd h hserving, fun _ => rfl⟩

theorem serving_not_standby {m : PowerMode} (h : servingMode m = true) : m ≠ .standby := by rintro rfl; cases h

/-- Settles O10: what a latched key finds is `State.wakened` with its latch emptied, and its one or two events are those of
`deliverLatched`. -/
theorem wakingCompletesAndMemoryAnswers : Obligations.WakingCompletesAndMemoryAnswers := by
  refine ⟨fun s => ⟨selfRefreshEntered_answer, execSelfRefreshEntered_inFlight, execWakingComplete_idle⟩,
    fun s m hwaking hleaving h hm => ?_, fun s m hs hwaking hleaving h hm hroom => ?_⟩
  · obtain ⟨hfiltered, hsamples, hlatch, hmem⟩ := completeWaking_restarts h hm
    exact ⟨_, execWakingComplete_wakes hwaking hleaving, hfiltered, hsamples, hlatch, hmem, completeWaking_state h hm⟩
  · have hstep := (coherent_iff s).1 hs
    have hkeys := wakened_keys h hm
    obtain ⟨hmode, hakeys, hcache, hengine, hrail, hqueue, hbudget, hholds, hlevel, hdimmed, hdark⟩ := unlatched_fields h hm hroom
    refine ⟨s.wakened.unlatched, _, execWakingComplete_wakes hwaking hleaving, hmode, hakeys, hcache, hengine, hrail, hqueue,
      hbudget, hholds, hlevel, hdimmed, hdark, fun hlatch => ?_, fun k time hlatch hk => ?_⟩
    · obtain ⟨hlink, hresampled⟩ := keysAwake_resamples h hm hlatch
      rw [completeWaking_coherent hstep]
      exact ⟨congrArg LinkState.queue hlink, hresampled⟩
    · have hup : s.wakened.unlatched.up := by rw [State.up, hmode]; exact hm
      have htaken := deliverLatched_taken hup (onKeys_effect {} _ _ (wakened_effect {} s hstep)) k time
      have hkey : ∀ j, s.wakened.unlatched.key j = s.key j := fun j => by simp only [State.key, hakeys]
      have htime : s.wakened.unlatched.keys.timestamp = s.keys.timestamp := by rw [hakeys]
      obtain ⟨hown, hlink, hcache, hengine, hlight, hpower, hothers, hstandby⟩ :=
        keysAwake_latched (w := s.wakened) (by rw [hkeys]; exact hlatch) hk _ rfl
      obtain ⟨hpress, hpressRelease, hrelease, hreleasePress, -, hrest⟩ := htaken
      simp only [hkey, htime] at hpress hpressRelease hrelease hreleasePress
      rw [completeWaking_coherent hstep]
      refine ⟨_, hpress, hpressRelease, hrelease, hreleasePress, hown, congrArg LinkState.queue hlink, hcache, hengine, hlight,
        (PowerState.recheckDoze_mode _).trans (congrArg PowerState.mode hpower), keysAwake_latch _,
        fun hserving j hj hjk => ?_, hstandby⟩
      exact (hothers hserving j hj hjk).trans (by rw [hrest (serving_not_standby hserving) j hjk, hkey])

end Sys2Proof.Machine
end

section
/-! SUPPORT. The proofs of the obligations of the waveform slots and the panel temperature, with the lemmas they are built from. -/

namespace Sys2Proof.Machine

/-! ## WAVE_LOAD, WAVE_ABORT and WAVE_DROP (R20, R21, R24, R25) -/

/-! ### The header -/

theorem ascending_iff (l : List Int) : ascending l = true ↔ List.Pairwise (· < ·) l := by
  rw [← List.isChain_iff_pairwise]
  induction l with
  | nil => simp [ascending]
  | cons a l ih =>
    cases l with
    | nil => simp [ascending]
    | cons b l => rw [ascending, Bool.and_eq_true, decide_eq_true_eq, ih, List.isChain_cons_cons]

theorem boundInRange_iff (t : Int) : boundInRange t = true ↔ -400 ≤ t ∧ t ≤ 850 := by simp [boundInRange]

/-- The ranges of R20's last check. -/
theorem headerGood_iff (a : WaveLoadArgs) : headerGood a = true ↔
    1 ≤ a.bandCount ∧ a.bandCount ≤ 8 ∧ a.uppers.length = a.bandCount ∧ a.frames.length = a.bandCount ∧
      (∀ f ∈ a.frames, 1 ≤ f ∧ f ≤ 255) ∧ (∀ x ∈ a.lower :: a.uppers, -400 ≤ x ∧ x ≤ 850) ∧
      List.Pairwise (· < ·) a.uppers ∧ a.lower ≤ a.uppers.headD 0 ∧ ∀ p, a.partner = some p → p ≤ 5 ∧ p ≠ a.slot := by
  simp only [headerGood, Bool.and_eq_true, decide_eq_true_eq, List.all_eq_true, Option.all_eq_true, ascending_iff,
    boundInRange_iff, List.forall_mem_cons, and_assoc]

/-- A header faulty in one of R20's ways is not admitted. -/
theorem not_headerGood {a : WaveLoadArgs}
    (h : a.bandCount = 0 ∨ 8 < a.bandCount ∨ a.uppers.length ≠ a.bandCount ∨ a.frames.length ≠ a.bandCount ∨
      (∃ f ∈ a.frames, f = 0 ∨ 255 < f) ∨ (∃ x ∈ a.lower :: a.uppers, x < -400 ∨ 850 < x) ∨
      ¬ List.Pairwise (· < ·) a.uppers ∨ a.uppers.headD 0 < a.lower ∨
      (∃ p, a.partner = some p ∧ (5 < p ∨ p = a.slot))) : ¬ headerGood a = true := by
  rw [headerGood_iff]
  rintro ⟨hcount, hcount', huppers, hframes, hframe, hbound, hsorted, hlower, hpartner⟩
  rcases h with h | h | h | h | ⟨f, hf, h⟩ | ⟨x, hx, h⟩ | h | h | ⟨p, hp, h⟩
  iterate 4 omega
  · have := hframe f hf; omega
  · have := hbound x hx; omega
  · exact h hsorted
  · omega
  · have := hpartner p hp; omega

/-! ### The open load -/

theorem abandonLoad_none {s : State} (h : s.wave.load = none) : abandonLoad s = s := by simp only [abandonLoad, h]

theorem abandonLoad_some {s : State} {l : Load} (h : s.wave.load = some l) : abandonLoad s =
    { s with wave := { s.wave with load := none, slots := withRecord s.wave.slots l.slot (fun _ => {}) } } := by
  simp only [abandonLoad, h]; rfl

/-- Abandoning a load leaves the packet taken and the place held. -/
theorem abandonLoad_placed (i : Instr) (s : State) : abandonLoad (s.placed i) = (abandonLoad s).placed i := by
  cases h : s.wave.load with
  | none =>
    have hplaced : (s.placed i).wave.load = none := h
    rw [abandonLoad_none h, abandonLoad_none hplaced]
  | some l =>
    have hplaced : (s.placed i).wave.load = some l := h
    rw [abandonLoad_some h, abandonLoad_some hplaced]; rfl

/-- What WAVE_LOAD does at its owner, with the checks in the order of R20. -/
theorem ownWaveLoad_placed (i : Instr) (tag : Nat) (a : WaveLoadArgs) (s : State) : ownWaveLoad tag a (s.placed i) =
    if 5 < a.slot then reply 0x20 tag .badParam ((abandonLoad s).placed i)
    else if 0 < ((abandonLoad s).slot a.slot).useCount then reply 0x20 tag .slotBusy ((abandonLoad s).placed i)
    else if !headerGood a then reply 0x20 tag .badParam ((abandonLoad s).placed i)
    else reply 0x20 tag .accepted ((openLoad a (abandonLoad s)).placed i) := by
  rw [ownWaveLoad, abandonLoad_placed]; rfl

/-! ### The commands' answers -/

section
variable {tag : Nat} {s : State} (hs : s.serves)
include hs

theorem execWaveLoad_badSlot (a : WaveLoadArgs) (h : 5 < a.slot) : exec (.waveLoad tag (.fields a)) s =
    .next ((abandonLoad s).answered (.waveLoad tag (.fields a)) (plainReply 0x20 tag .badParam)) :=
  takeCommand_reply hs (by rw [ownWaveLoad_placed, if_pos h])

theorem execWaveLoad_busy (a : WaveLoadArgs) (h : a.slot ≤ 5) (hu : 0 < ((abandonLoad s).slot a.slot).useCount) :
    exec (.waveLoad tag (.fields a)) s =
      .next ((abandonLoad s).answered (.waveLoad tag (.fields a)) (plainReply 0x20 tag .slotBusy)) :=
  takeCommand_reply hs (by rw [ownWaveLoad_placed, if_neg (Nat.not_lt.2 h), if_pos hu])

theorem execWaveLoad_badHeader (a : WaveLoadArgs) (h : a.slot ≤ 5) (hu : ((abandonLoad s).slot a.slot).useCount = 0)
    (ha : ¬ headerGood a = true) : exec (.waveLoad tag (.fields a)) s =
      .next ((abandonLoad s).answered (.waveLoad tag (.fields a)) (plainReply 0x20 tag .badParam)) :=
  takeCommand_reply hs (by
    rw [ownWaveLoad_placed, if_neg (Nat.not_lt.2 h), if_neg (by omega), if_pos (by simpa using ha)])

theorem execWaveLoad_accepted (a : WaveLoadArgs) (h : a.slot ≤ 5) (hu : ((abandonLoad s).slot a.slot).useCount = 0)
    (ha : headerGood a = true) : exec (.waveLoad tag (.fields a)) s =
      .next ((openLoad a (abandonLoad s)).answered (.waveLoad tag (.fields a)) (plainReply 0x20 tag .accepted)) :=
  takeCommand_reply hs (by
    rw [ownWaveLoad_placed, if_neg (Nat.not_lt.2 h), if_neg (by omega), if_neg (by simp [ha])])

theorem execWaveAbort_state (h : s.wave.load = none) : exec (.waveAbort tag (.fields ())) s =
    .next (s.answered (.waveAbort tag (.fields ())) (plainReply 0x21 tag .state)) :=
  takeCommand_reply hs (by
    have hplaced : (s.placed (.waveAbort tag (.fields ()))).wave.load = none := h
    simp only [hplaced])

theorem execWaveAbort_ok {l : Load} (h : s.wave.load = some l) : exec (.waveAbort tag (.fields ())) s =
    .next ((abandonLoad s).answered (.waveAbort tag (.fields ())) (plainReply 0x21 tag .ok)) :=
  takeCommand_reply hs (by
    have hplaced : (s.placed (.waveAbort tag (.fields ()))).wave.load = some l := h
    simp only [hplaced, abandonLoad_placed])

theorem execWaveDrop_badSlot {n : Nat} (h : 5 < n) : exec (.waveDrop tag (.fields n)) s =
    .next (s.answered (.waveDrop tag (.fields n)) (plainReply 0x22 tag .badParam)) :=
  takeCommand_reply hs (if_pos h)

theorem execWaveDrop_busy {n : Nat} (h : n ≤ 5) (hu : 0 < (s.slot n).useCount) : exec (.waveDrop tag (.fields n)) s =
    .next (s.answered (.waveDrop tag (.fields n)) (plainReply 0x22 tag .slotBusy)) :=
  takeCommand_reply hs ((if_neg (Nat.not_lt.2 h)).trans (if_pos hu))

/-- A slot not in use is dropped, whatever its state makes of that. -/
theorem execWaveDrop_drops {n : Nat} (h : n ≤ 5) (hu : (s.slot n).useCount = 0) {u : State}
    (hdrop : dropSlot n (s.placed (.waveDrop tag (.fields n))) = u.placed (.waveDrop tag (.fields n))) :
    exec (.waveDrop tag (.fields n)) s =
      .next (u.answered (.waveDrop tag (.fields n)) (plainReply 0x22 tag .ok)) :=
  takeCommand_reply hs (by
    have hplaced : ((s.placed (.waveDrop tag (.fields n))).slot n).useCount = 0 := hu
    rw [ownWaveDrop, if_neg (Nat.not_lt.2 h), if_neg (by omega), hdrop])

end

/-! ### What a dropped slot's state makes of it -/

section
variable {s : State} {n : Nat} (i : Instr)

theorem dropSlot_loading (h : (s.slot n).state = .loading) : dropSlot n (s.placed i) = (abandonLoad s).placed i := by
  have hplaced : ((s.placed i).slot n).state = .loading := h
  simp only [dropSlot, hplaced, abandonLoad_placed]

theorem dropSlot_valid (h : (s.slot n).state = .valid) :
    dropSlot n (s.placed i) = (onSlot n (fun _ => {}) s).placed i := by
  have hplaced : ((s.placed i).slot n).state = .valid := h
  simp only [dropSlot, hplaced]; rfl

theorem dropSlot_empty (h : (s.slot n).state = .empty) : dropSlot n (s.placed i) = s.placed i := by
  have hplaced : ((s.placed i).slot n).state = .empty := h
  simp only [dropSlot, hplaced]

end

/-- Settles O29: each command by its cases; the state that a WAVE_LOAD finds after an open load has been abandoned is
`abandonLoad`. -/
theorem waveCommandsActOnTheirSlot : Obligations.WaveCommandsActOnTheirSlot := by
  refine ⟨fun tag a s u hs hu => ?_, fun tag s hs => ⟨execWaveAbort_state hs, fun l hl => ?_⟩,
    fun tag n s hs => ⟨execWaveDrop_badSlot hs, execWaveDrop_busy hs, fun h hn => ⟨fun l hload hl hln => ?_, fun hv => ?_,
      fun he => execWaveDrop_drops hs h hn (dropSlot_empty _ he)⟩⟩⟩
  · obtain rfl : u = abandonLoad s := by
      rw [hu]
      cases hl : s.wave.load with
      | none => simp only [abandonLoad_none hl, ← hl]
      | some l => rw [abandonLoad_some hl]
    exact ⟨execWaveLoad_badSlot hs a, execWaveLoad_busy hs a,
      fun h hn hbad => execWaveLoad_badHeader hs a h hn (not_headerGood hbad), execWaveLoad_accepted hs a⟩
  · rw [execWaveAbort_ok hs hl, abandonLoad_some hl]
  · rw [execWaveDrop_drops hs h hn (dropSlot_loading _ hload), abandonLoad_some hl, hln]
  · exact execWaveDrop_drops hs h hn (dropSlot_valid _ hv)

/-! ## TABLE packets (R22, R23, R26) -/

theorem bodyBase_eq (n : Nat) : bodyBase n = (3904 + 32 * n) * 4096 := rfl

/-- A byte with a code that is no drive code, position by position (R26). -/
theorem badCode_iff (b : Byte) : badCode b = true ↔
    b.toNat % 4 = 3 ∨ b.toNat / 4 % 4 = 3 ∨ b.toNat / 16 % 4 = 3 ∨ b.toNat / 64 % 4 = 3 := by
  simp only [badCode, List.any_cons, List.any_nil, Bool.or_false, Bool.or_eq_true, decide_eq_true_eq]
  simp only [codeBits, Nat.pow_zero, Nat.div_one, Nat.pow_one, Nat.reducePow]

/-- The open load with the bytes of a packet counted and judged (R22). -/
def Load.after (l : Load) (body : List Byte) : Load :=
  { l with received := l.received + body.length, invalid := l.invalid || body.any badCode }

theorem Load.after_invalid_iff (l : Load) (body : List Byte) : (l.after body).invalid = true ↔ l.invalid = true ∨
    ∃ b ∈ body, b.toNat % 4 = 3 ∨ b.toNat / 4 % 4 = 3 ∨ b.toNat / 16 % 4 = 3 ∨ b.toNat / 64 % 4 = 3 := by
  simp only [Load.after, Bool.or_eq_true, List.any_eq_true, badCode_iff]

/-- The bytes of a packet in the slot's blocks (R22, R26). -/
def Memory.withBody (m : Memory) (l : Load) (body : List Byte) : Memory := m.splice (bodyBase l.slot + l.received) body

section
variable {body : List Byte} {l : Load} {s : State} (hm : servingMode s.power.mode = true) (hl : s.wave.load = some l)
include hm hl

/-- A packet that fits is taken: its bytes are stored and counted, and at the expected length the load is judged (R22). -/
theorem execTable_fits (hfit : l.received + body.length ≤ l.expected) : exec (.table body) s =
    .next (if l.received + body.length = l.expected
      then completeLoad (l.after body) ((s.taken (.table body)).onMem (fun m => Memory.withBody m l body))
      else ((s.taken (.table body)).onMem (fun m => Memory.withBody m l body)).onWave
        (fun w => { w with load := some (l.after body) })) := by
  have htaken : (s.taken (.table body)).wave.load = some l := hl
  have hown : exec (.table body) s = .next (ownTable body (s.taken (.table body))) :=
    congrArg _ (takePacket_serving _ _ _ hm)
  rw [hown]
  simp only [ownTable, htaken, if_neg (Nat.not_lt.2 hfit)]
  rfl

theorem execTable_open (hlt : l.received + body.length < l.expected) : exec (.table body) s =
    .next (((s.taken (.table body)).onMem (fun m => Memory.withBody m l body)).onWave
      (fun w => { w with load := some (l.after body) })) := by
  rw [execTable_fits hm hl hlt.le, if_neg hlt.ne]

theorem execTable_done (heq : l.received + body.length = l.expected) (hgood : (l.after body).invalid = false) :
    exec (.table body) s = .next (raise (.tableDone l.slot) { s.taken (.table body) with
      mem := Memory.withBody s.mem l body
      wave := { s.wave with
        load := none, slots := withRecord s.wave.slots l.slot (fun x => { x with state := .valid }) } }) := by
  rw [execTable_fits hm hl heq.le, if_pos heq, completeLoad, if_neg (by simp [hgood])]; rfl

theorem execTable_bad (heq : l.received + body.length = l.expected) (hbad : (l.after body).invalid = true) :
    exec (.table body) s = .next (raise (.tableBad l.slot) { s.taken (.table body) with
      mem := Memory.withBody s.mem l body
      wave := { s.wave with load := none, slots := withRecord s.wave.slots l.slot (fun _ => {}) } }) := by
  rw [execTable_fits hm hl heq.le, if_pos heq, completeLoad, if_pos hbad]; rfl

end

/-- Settles O30: the bytes stand where `Memory.splice` writes them, and the load is `Load.after`. -/
theorem tableBytesReachTheStore : Obligations.TableBytesReachTheStore := by
  intro body l s hm hl _
  exact ⟨Memory.withBody s.mem l body, (l.after body).invalid,
    fun i hi => Memory.read_splice_inside s.mem _ i body hi,
    fun x hx => Memory.read_splice_outside s.mem _ x body hx,
    l.after_invalid_iff body, execTable_open hm hl, execTable_done hm hl, execTable_bad hm hl⟩

/-! ## What an event leaves of the sensor: its readings, its settings and the open load (R28, R29) -/

/-- The waveform unit without its slots and its sample timer: what a reading leaves, the period, the hysteresis and the open
load. -/
def State.sensing (s : State) : WaveState := { s.wave with slots := Vector.replicate 6 {}, timer := .due }

/-! ### Composing -/

theorem SameExcept.sensing {bs : List Block} {s t : State} (h : SameExcept bs s t) (hw : Block.wave ∉ bs := by decide) :
    t.sensing = s.sensing := by
  have hwave : t.wave = s.wave := h.2 .wave hw
  rw [State.sensing, hwave]; rfl

theorem sensing_ite {s t u : State} (c : Prop) [Decidable c] (ht : c → t.sensing = s.sensing)
    (hu : ¬ c → u.sensing = s.sensing) : (if c then t else u).sensing = s.sensing := by
  split
  · exact ht ‹_›
  · exact hu ‹_›

/-- What no part of a loop changes, the loop does not change. -/
theorem foldl_keeps {α β : Type} (g : State → β) (f : State → α → State) (h : ∀ s a, g (f s a) = g s) (l : List α) :
    ∀ s, g (l.foldl f s) = g s := by
  induction l with
  | nil => exact fun _ => rfl
  | cons a l ih => exact fun s => (ih (f s a)).trans (h s a)

theorem foldl_frame {α : Type} {bs : List Block} (f : State → α → State) (h : ∀ s a, SameExcept bs s (f s a)) (l : List α) :
    ∀ s, SameExcept bs s (l.foldl f s) := by
  induction l with
  | nil => exact fun s => .refl bs s
  | cons a l ih => exact fun s => (h s a).trans (ih _)

theorem eachLane_sensing (f : Nat → State → State) (h : ∀ n s, (f n s).sensing = s.sensing) (s : State) :
    (eachLane f s).sensing = s.sensing := foldl_keeps State.sensing _ (fun s n => h n s) _ s

/-! ### The notices of idleness, the light and the budget -/

theorem powerReact_sensing (s : State) : (powerReact s).sensing = s.sensing := by
  cases h : s.power.mode <;> simp only [powerReact, h]
  case settling => exact sensing_ite _ (fun _ => by rw [State.sensing, enterStandby_wave]; rfl) fun _ => rfl
  case doze => rfl

/-- The power controller hears of something, or has heard of it before. -/
theorem tell_sensing (c : Prop) [Decidable c] (f : PowerState → PowerState) (s : State) :
    (if c then s else powerReact (s.onPower f)).sensing = s.sensing :=
  sensing_ite _ (fun _ => rfl) fun _ => powerReact_sensing (s.onPower f)

theorem engineNotify_sensing (s : State) : (engineNotify s).sensing = s.sensing := tell_sensing _ _ s

theorem lightEvent_sensing (f : LightState → LightState) (s : State) : (lightEvent f s).sensing = s.sensing :=
  tell_sensing _ _ (s.onLight f)

theorem lightActivity_sensing (s : State) : (lightActivity s).sensing = s.sensing :=
  sensing_ite _ (fun _ => lightEvent_sensing _ s) fun _ => rfl

theorem rebudget_sensing (f : BudgetState → BudgetState) (s : State) : (rebudget f s).sensing = s.sensing :=
  lightEvent_sensing _ (s.onBudget fun b => (f b).recompute)

theorem stopScan_sensing (s : State) : (stopScan s).sensing = s.sensing :=
  rebudget_sensing _ (s.onEngine fun e => { e with scan := none, load := 0 })

theorem driveFrame_sensing (s : State) : (driveFrame s).sensing = s.sensing := rebudget_sensing _ (s.onEngine _)

/-! ### The rails -/

theorem setRail_sensing (m : RailMode) (s : State) : (setRail m s).sensing = s.sensing :=
  (tell_sensing _ _ _).trans (rebudget_sensing _ (s.onRail fun r => { r with mode := m }))

theorem startFall_sensing (s : State) : (startFall s).sensing = s.sensing := setRail_sensing .falling (s.onRail _)

theorem enterHold_sensing (s : State) : (enterHold s).sensing = s.sensing :=
  (sensing_ite _ (fun _ => startFall_sensing _) fun _ => rfl).trans
    (setRail_sensing .hold (s.onRail fun r => { r with hold := some r.holdTime }))

theorem laneLeft_sensing (s : State) : (laneLeft s).sensing = s.sensing :=
  sensing_ite _ (fun _ => enterHold_sensing (s.onRail fun r => { r with armed := r.armed - 1 })) fun _ => rfl

/-! ### Entries and lanes -/

theorem raise_sensing (r : Report) (s : State) : (raise r s).sensing = s.sensing := (raise_frame r s).sensing

theorem raiseAll_sensing (rs : List Report) (s : State) : (raiseAll rs s).sensing = s.sensing := (raiseAll_frame rs s).sensing

theorem onSlot_sensing (n : Nat) (f : Slot → Slot) (s : State) : (onSlot n f s).sensing = s.sensing := rfl

theorem appendEntry_sensing (e : PendingEntry) (s : State) : (appendEntry e s).sensing = s.sensing :=
  (useSource_frame e.source _).sensing

theorem startLane_sensing (n : Nat) (e : PendingEntry) (s : State) : (startLane n e s).sensing = s.sensing :=
  (onLane_frame n _ _).sensing.trans (sensing_ite _ (fun _ => rfl) fun _ => rfl)

theorem walkFrom_sensing (es : List PendingEntry) : ∀ ahead s, (walkFrom ahead es s).sensing = s.sensing := by
  induction es with
  | nil => exact fun ahead s => rfl
  | cons e es ih =>
    intro ahead s
    rw [walkFrom]
    split
    · exact (ih ahead _).trans (startLane_sensing _ e s)
    · exact ih _ s

theorem walk_sensing (s : State) : (walk s).sensing = s.sensing := walkFrom_sensing _ [] s

theorem turnAbandoned_sensing (c : MissCause) (s : State) : (turnAbandoned c s).sensing = s.sensing := by
  rw [turnAbandoned]
  split
  · rfl
  · exact raise_sensing _ s

theorem freeLane_sensing (inFrame : Bool) (n : Nat) (s : State) : (freeLane inFrame n s).sensing = s.sensing :=
  (sensing_ite _ (fun _ => stopScan_sensing _) fun _ => rfl).trans <|
    (sensing_ite _ (fun _ => laneLeft_sensing _) fun _ => rfl).trans <|
      (unuseSource_frame (s.lane n).source (unuseSlot (s.lane n).slot (onLane n (fun _ => {}) s))).sensing

theorem endLane_sensing (n : Nat) (o : UpdateOutcome) (c : MissCause) (s : State) : (endLane n o c s).sensing = s.sensing := by
  refine Eq.trans ?_ (freeLane_sensing false n s)
  rw [endLane, tellLane]
  split
  · exact raise_sensing _ _
  · exact turnAbandoned_sensing c _

/-! ### Turns -/

theorem submitTurn_sensing (d : TurnDir) (t : Nat) (s : State) : (submitTurn d t s).sensing = s.sensing := by
  simp only [submitTurn]
  split
  · exact raise_sensing _ s
  · split
    · exact raise_sensing _ s
    · exact (lightActivity_sensing _).trans ((walk_sensing _).trans (appendEntry_sensing _ s))

theorem takeTurnTo_sensing (d : TurnDir) (t : Nat) (s : State) : (takeTurnTo d t s).sensing = s.sensing := by
  rw [takeTurnTo]
  split
  · exact raise_sensing _ s
  · exact sensing_ite _ (fun _ => raise_sensing _ s) fun _ => submitTurn_sensing d t s

theorem resolveTurn_sensing (d : TurnDir) (wanted : Nat → Nat) (s : State) : (resolveTurn d wanted s).sensing = s.sensing := by
  refine sensing_ite _ (fun _ => raise_sensing _ s) fun _ => ?_
  split
  · exact raise_sensing _ s
  · exact sensing_ite _ (fun _ => raise_sensing _ s) fun _ => takeTurnTo_sensing d _ s

theorem resolveDeferred_sensing (s : State) : (resolveDeferred s).sensing = s.sensing := by
  rw [resolveDeferred]
  split
  · rfl
  · exact resolveTurn_sensing _ _ (s.onCache fun c => { c with deferred := none })

theorem turnDone_sensing (l : Lane) (s : State) : (turnDone l s).sensing = s.sensing := by
  simp only [turnDone]
  split
  · rfl
  · exact (resolveDeferred_sensing _).trans ((raiseAll_sensing _ _).trans (raise_sensing _ (s.onCache _)))

/-! ### Frames -/

theorem joinLane_sensing (n : Nat) (s : State) : (joinLane n s).sensing = s.sensing :=
  sensing_ite _ (fun _ => rfl) fun _ => rfl

theorem completedLane_sensing (l : Lane) (s : State) : (completedLane l s).sensing = s.sensing := by
  rw [completedLane]
  split
  · refine Eq.trans ?_ (raise_sensing (.updateDone l.tag .done l.promoted) s)
    exact sensing_ite _ (fun _ => rfl) fun _ => rfl
  · exact turnDone_sensing l s

theorem completeLane_sensing (n : Nat) (s : State) : (completeLane n s).sensing = s.sensing := by
  refine sensing_ite _ (fun _ => ?_) fun _ => rfl
  refine (freeLane_sensing true n _).trans ((completedLane_sensing _ _).trans ?_)
  exact sensing_ite _ (fun _ => rfl) fun _ => rfl

theorem runFrame_sensing (s : State) : (runFrame s).sensing = s.sensing := by
  have hjoin := eachLane_sensing joinLane joinLane_sensing s
  have hdrive := (driveFrame_sensing _).trans hjoin
  have hadvance := (onEngine_frame (fun e => { e with lanes := e.lanes.map Lane.advance, scan := some e.framePeriod })
    (driveFrame (eachLane joinLane s))).sensing.trans hdrive
  have hcomplete := (eachLane_sensing completeLane completeLane_sensing _).trans hadvance
  unfold runFrame
  exact (sensing_ite _ (fun _ => rfl) fun _ => stopScan_sensing _).trans ((walk_sensing _).trans hcomplete)

/-! ### The rails ON and the band answer -/

theorem reportOn_sensing (s : State) : (reportOn s).sensing = s.sensing :=
  sensing_ite _ (fun _ => runFrame_sensing s) fun _ => rfl

theorem endRise_sensing (s : State) : (endRise s).sensing = s.sensing :=
  (sensing_ite _ (fun _ => enterHold_sensing _) fun _ => reportOn_sensing _).trans
    (setRail_sensing .on (s.onRail fun r => { r with rise := none }))

theorem startRise_sensing (s : State) : (startRise s).sensing = s.sensing :=
  (sensing_ite _ (fun _ => endRise_sensing _) fun _ => rfl).trans
    (setRail_sensing .rising (s.onRail fun r => { r with rise := some r.riseTime }))

theorem laneArmed_sensing (s : State) : (laneArmed s).sensing = s.sensing := by
  rw [laneArmed]
  split
  · exact startRise_sensing (s.onRail _)
  · rfl
  · exact reportOn_sensing (s.onRail _)
  · exact (reportOn_sensing _).trans (setRail_sensing .on _)
  · rfl
  · rfl

theorem answerBand_sensing (n : Nat) (s : State) : (answerBand n s).sensing = s.sensing :=
  sensing_ite _ (fun _ => (walk_sensing _).trans (endLane_sensing n _ _ s)) fun _ => laneArmed_sensing (onLane n _ s)

theorem answerHeld_sensing (s : State) : (answerHeld s).sensing = s.sensing :=
  eachLane_sensing _ (fun n s => sensing_ite _ (fun _ => answerBand_sensing n s) fun _ => rfl) s

/-- With no band request held there is nothing to answer. -/
theorem answerHeld_none {s : State} (h : ∀ k, k < 8 → (s.lane k).bandHeld = false) : answerHeld s = s := by
  refine List.foldl_fixed' (fun n => if_neg ?_) _
  rcases Nat.lt_or_ge n 8 with hn | hn
  · simp [h n hn]
  · simp [State.lane, recordAt_beyond s.engine.lanes n {} hn]

/-! ## Bands and excursions (R31, R32) -/

theorem bandOf_eq (uppers : List Int) (t : Int) :
    bandOf uppers t = min (uppers.findIdx fun u => !decide (u < t)) (uppers.length - 1) := by
  rw [bandOf, List.takeWhile_eq_take_findIdx_not, List.length_take, Nat.min_eq_left List.findIdx_le_length]

theorem bandOf_lt {uppers : List Int} (h : uppers ≠ []) (t : Int) : bandOf uppers t < uppers.length := by
  have := List.length_pos_of_ne_nil h
  rw [bandOf_eq]; omega

/-- No band below band(T) reaches up to T. -/
theorem upper_lt_of_lt_bandOf {uppers : List Int} {t : Int} {j : Nat} (h : j < bandOf uppers t) : uppers.getD j 0 < t := by
  rw [bandOf_eq, lt_min_iff] at h
  have hj : j < uppers.length := h.1.trans_le List.findIdx_le_length
  rw [List.getD_eq_getElem _ _ hj]
  simpa using List.not_of_lt_findIdx h.1

/-- Band(T) reaches up to T, or it is the last and no band does. -/
theorem bandOf_reaches {uppers : List Int} (h : uppers ≠ []) (t : Int) :
    t ≤ uppers.getD (bandOf uppers t) 0 ∨ (bandOf uppers t + 1 = uppers.length ∧ ∀ u ∈ uppers, u < t) := by
  have hpos := List.length_pos_of_ne_nil h
  rw [bandOf_eq]
  rcases (List.findIdx_le_length (p := fun u => !decide (u < t)) (xs := uppers)).eq_or_lt with hall | hsome
  · refine .inr ⟨by omega, fun u hu => ?_⟩
    simpa using List.findIdx_eq_length.1 hall u hu
  · refine .inl ?_
    rw [Nat.min_eq_left (Nat.le_sub_one_of_lt hsome), List.getD_eq_getElem _ _ hsome]
    simpa using List.findIdx_getElem (w := hsome)

theorem nextBand_up {uppers : List Int} {hyst b : Nat} {t : Int} (h : b ≤ bandOf uppers t) :
    nextBand uppers hyst (some b) t = bandOf uppers t := if_pos h

theorem nextBand_down {uppers : List Int} {hyst b : Nat} {t : Int} (h : bandOf uppers t < b) :
    nextBand uppers hyst (some b) t = min (bandOf uppers (t + hyst)) b := if_neg (Nat.not_le.2 h)

section
variable {s : Slot} {t : Int}

theorem edgeBeyond_low (h : t < s.lower) : edgeBeyond s t = some .low := if_pos h

theorem edgeBeyond_high (h : s.lower ≤ t) (h' : s.uppers.getLastD 0 < t) : edgeBeyond s t = some .high :=
  (if_neg (Int.not_lt.2 h)).trans (if_pos h')

theorem edgeBeyond_none (h : s.lower ≤ t) (h' : t ≤ s.uppers.getLastD 0) : edgeBeyond s t = none :=
  (if_neg (Int.not_lt.2 h)).trans (if_neg (Int.not_lt.2 h'))

/-- From INSIDE the mark follows the edge the temperature lies beyond, and that edge is reported. -/
theorem inside_selects (h : s.outside = false) (n hyst : Nat) {e : Option TempEdge} (he : edgeBeyond s t = e) :
    nextOutside s hyst t = e.isSome ∧ excursionReport n s t = e.toList.map (fun e => .tempOutside n e t) := by
  subst he
  cases he : edgeBeyond s t <;> simp [nextOutside, excursionReport, h, he]

/-- From OUTSIDE nothing is reported, and the mark goes back only well within both edges. -/
theorem outside_selects (h : s.outside = true) (n hyst : Nat) : excursionReport n s t = [] ∧
    (nextOutside s hyst t = false ↔ s.lower + hyst < t ∧ t < s.uppers.getLastD 0 - hyst) := by
  simp [excursionReport, nextOutside, h, topBound]

end

/-! ## TEMP_SAMPLE (R28, R29, R31) -/

/-! ### Band selections -/

/-- What a new filtered temperature makes of a slot: only a VALID one selects its band (R31). -/
def Slot.selected (x : Slot) (hyst : Nat) (t : Int) : Slot := if x.state = .valid then x.select hyst t else x

theorem raiseAll_wave (rs : List Report) (s : State) : (raiseAll rs s).wave = s.wave := (raiseAll_frame rs s).2 .wave (by decide)

theorem selectBand_valid {t : Int} {n : Nat} {s : State} (h : (s.slot n).state = .valid) :
    (selectBand t n s).wave = { s.wave with slots := withRecord s.wave.slots n (fun x => x.select s.wave.hyst t) } := by
  rw [selectBand, if_pos (by simp [State.slotValid, h]), raiseAll_wave]; rfl

theorem selectBand_other {t : Int} {n : Nat} {s : State} (h : (s.slot n).state ≠ .valid) : selectBand t n s = s := by
  rw [selectBand, if_neg (by simp [State.slotValid, h])]

/-- A band selection leaves everything of the waveform unit but the slots. -/
theorem selectBand_wave (t : Int) (n : Nat) (s : State) :
    (selectBand t n s).wave = { s.wave with slots := (selectBand t n s).wave.slots } := by
  by_cases h : (s.slot n).state = .valid
  · rw [selectBand_valid h]
  · rw [selectBand_other h]

theorem selectBand_sensing (t : Int) (n : Nat) (s : State) : (selectBand t n s).sensing = s.sensing := by
  rw [State.sensing, selectBand_wave]; rfl

theorem selectBand_timer (t : Int) (n : Nat) (s : State) : (selectBand t n s).wave.timer = s.wave.timer := by
  rw [selectBand_wave]

theorem selectBand_hyst (t : Int) (n : Nat) (s : State) : (selectBand t n s).wave.hyst = s.wave.hyst := by
  rw [selectBand_wave]

theorem selectBand_mode (t : Int) (n : Nat) (s : State) : (selectBand t n s).power.mode = s.power.mode := by
  rw [selectBand]
  split
  · exact raiseAll_mode _ _
  · rfl

theorem selectBand_slot (t : Int) (n k : Nat) (s : State) (hk : k < 6) :
    (selectBand t n s).slot k = if k = n then (s.slot k).selected s.wave.hyst t else s.slot k := by
  by_cases h : (s.slot n).state = .valid
  · rw [State.slot, selectBand_valid h]
    split
    case isTrue hkn =>
      subst hkn
      rw [recordAt_withRecord_same _ _ _ _ hk, Slot.selected]
      exact (if_pos h).symm
    case isFalse hkn => exact recordAt_withRecord_other _ _ _ _ _ hkn
  · rw [selectBand_other h]
    split
    case isTrue hkn => subst hkn; exact (if_neg h).symm
    case isFalse => rfl

/-- Selections of several slots, each once, do to a slot among them what its own selection does. -/
theorem selectBands_slot (t : Int) (k : Nat) (hk : k < 6) (ns : List Nat) (hns : ns.Nodup) : ∀ s : State,
    (ns.foldl (fun s n => selectBand t n s) s).slot k =
      if k ∈ ns then (s.slot k).selected s.wave.hyst t else s.slot k := by
  induction ns with
  | nil => exact fun s => rfl
  | cons n ns ih =>
    intro s
    obtain ⟨hn, hns⟩ := List.nodup_cons.1 hns
    rw [List.foldl_cons, ih hns, selectBand_hyst, selectBand_slot t n k s hk]
    by_cases hkn : k = n
    · subst hkn; simp [hn]
    · simp [hkn]

/-! ### The filter -/

/-- The filtered temperature after a reading (R29). -/
def WaveState.filteredBy (w : WaveState) (raw : Int) : Int := (filterStep w.samples w.filtered raw).2

theorem filterStep_samples (n : Nat) (tf : Option Int) (raw : Int) : (filterStep n tf raw).1 = min (n + 1) 8 := by
  cases tf <;> rfl

/-- The reading has gone through the filter, and no slot has selected its band yet (R28, R29). -/
def State.sampled (s : State) (reading : Int) : State := s.onWave (fun w =>
  { w with
    lastRaw := clampReading reading
    saturated := w.saturated.raiseIf (clampReading reading = -400 || clampReading reading = 850)
    samples := min (w.samples + 1) 8
    filtered := some (w.filteredBy (clampReading reading))
    timer := .running w.period })

theorem takeReading_eq (reading : Int) (s : State) : takeReading reading s =
    (List.range 6).foldl (fun x n => selectBand (s.wave.filteredBy (clampReading reading)) n x) (s.sampled reading) := by
  simp only [takeReading, filterStep_samples]; rfl

theorem raiseIf_isSet (f : StickyFlag) {c : Bool} (h : c = true) : (f.raiseIf c).isSet = true := by subst h; rfl

theorem raiseIf_false (f : StickyFlag) {c : Bool} (h : c = false) : f.raiseIf c = f := by subst h; rfl

/-- What R28 and R29 say of the sensor, and what of it stays, in a state whose sensor is that of the sampled one. -/
theorem sampled_sensor {reading : Int} {s t : State} (h : t.sensing = (s.sampled reading).sensing) :
    t.wave.lastRaw = clampReading reading ∧ t.wave.samples = min (s.wave.samples + 1) 8 ∧
      t.wave.filtered = some (s.wave.filteredBy (clampReading reading)) ∧
      (clampReading reading = -400 ∨ clampReading reading = 850 → t.wave.saturated.isSet = true) ∧
      (clampReading reading ≠ -400 → clampReading reading ≠ 850 → t.wave.saturated = s.wave.saturated) ∧
      t.wave.period = s.wave.period ∧ t.wave.hyst = s.wave.hyst ∧ t.wave.load = s.wave.load := by
  have hsaturated := congrArg WaveState.saturated h
  refine ⟨congrArg WaveState.lastRaw h, congrArg WaveState.samples h, congrArg WaveState.filtered h, fun hlimit => ?_,
    fun hlow hhigh => ?_, (congrArg WaveState.period h :), (congrArg WaveState.hyst h :), (congrArg WaveState.load h :)⟩
  · exact (congrArg StickyFlag.isSet hsaturated).trans (raiseIf_isSet _ (by simpa using hlimit))
  · exact hsaturated.trans (raiseIf_false _ (by simp [hlow, hhigh]))

/-! ### A reading -/

section
variable (reading : Int) (s : State)

theorem takeReading_sensing : (takeReading reading s).sensing = (s.sampled reading).sensing := by
  rw [takeReading_eq]
  exact foldl_keeps State.sensing _ (fun x n => selectBand_sensing _ n x) _ _

theorem takeReading_timer : (takeReading reading s).wave.timer = .running s.wave.period := by
  rw [takeReading_eq]
  exact foldl_keeps (fun x => x.wave.timer) _ (fun x n => selectBand_timer _ n x) _ _

theorem takeReading_slot {k : Nat} (hk : k < 6) : (takeReading reading s).slot k =
    (s.slot k).selected s.wave.hyst (s.wave.filteredBy (clampReading reading)) := by
  rw [takeReading_eq, selectBands_slot _ k hk _ List.nodup_range, if_pos (List.mem_range.2 hk)]; rfl

theorem takeReading_frame : SameExcept [.wave, .power, .link] s (takeReading reading s) := by
  rw [takeReading_eq]
  exact ((onWave_frame _ s).mono (by decide)).trans (foldl_frame _ (fun x n => selectBand_frame _ n x) _ _)

theorem takeReading_mode : (takeReading reading s).power.mode = s.power.mode := by
  rw [takeReading_eq]
  exact foldl_keeps (fun x => x.power.mode) _ (fun x n => selectBand_mode _ n x) _ _

end

/-! ### The event -/

theorem execTempSample_stopped {reading : Int} {s : State} (h : s.wave.timer = .stopped) :
    exec (.tempSample reading) s = .next s := congrArg _ (if_pos h)

/-- What a reading leaves of the whole event: the bands held are answered, and the power controller hears of the engine. -/
theorem execTempSample_runs {reading : Int} {s : State} (h : s.wave.timer ≠ .stopped) :
    exec (.tempSample reading) s = .next (engineNotify (answerHeld (takeReading reading s))) := by
  have hexec : exec (.tempSample reading) s = execTempSample reading s := rfl
  rw [hexec, execTempSample, if_neg h]

/-- With the copies in step and no band request held, the event is the reading alone. -/
theorem tempSample_quiet {reading : Int} {s : State} (hs : s.coherent) (hheld : ∀ k, k < 8 → (s.lane k).bandHeld = false) :
    engineNotify (answerHeld (takeReading reading s)) = takeReading reading s := by
  have hengine : (takeReading reading s).engine = s.engine := (takeReading_frame reading s).2 .engine (by decide)
  have hlanes : ∀ k, k < 8 → ((takeReading reading s).lane k).bandHeld = false := fun k hk => by
    rw [State.lane, hengine]; exact hheld k hk
  rw [answerHeld_none hlanes]
  exact engineNotify_told ((takeReading_effect {} reading s ((coherent_iff s).1 hs)).idle rfl)

/-- Settles O31: the sensor's part of the event is that of the reading, and so are the slots where no band request is held. -/
theorem tempSampleFiltersAndSelectsBands : Obligations.TempSampleFiltersAndSelectsBands := by
  refine ⟨fun reading s => ⟨execTempSample_stopped, fun h => ?_⟩, fun uppers hyst t h => ?_⟩
  · obtain ⟨hraw, hsamples, hfiltered, hset, hkept, hperiod, hhyst, hload⟩ := sampled_sensor (s := s)
      ((engineNotify_sensing _).trans ((answerHeld_sensing _).trans (takeReading_sensing reading s)))
    refine ⟨_, clampReading reading, s.wave.filteredBy (clampReading reading), _, execTempSample_runs h, rfl, rfl, ?_,
      hraw, hsamples, hfiltered, hset, hkept, hperiod, hhyst, hload, fun hs hheld => ?_⟩
    · rw [WaveState.filteredBy]
      cases s.wave.filtered <;> rfl
    · rw [tempSample_quiet hs hheld]
      exact ⟨takeReading_timer reading s,
        fun k hk => ⟨fun hv => (takeReading_slot reading s hk).trans (if_neg hv),
          fun hv => (takeReading_slot reading s hk).trans (if_pos hv)⟩,
        takeReading_frame reading s, takeReading_mode reading s⟩
  · refine ⟨bandOf_lt h t, fun j => upper_lt_of_lt_bandOf, bandOf_reaches h t, rfl, fun b => nextBand_up,
      fun b => nextBand_down, fun n s hu hin => ⟨fun hlow => ?_, fun hl hhigh => ?_, fun hl hh => ?_⟩,
      fun n s hu hout => hu ▸ outside_selects hout n hyst⟩
    · exact inside_selects hin n hyst (edgeBeyond_low hlow)
    · exact inside_selects hin n hyst (edgeBeyond_high hl (hu ▸ hhigh))
    · exact inside_selects hin n hyst (edgeBeyond_none hl (hu ▸ hh))

end Sys2Proof.Machine
end

section
/-! SUPPORT. The proofs of the obligations of the update lanes, with the lemmas they are built from. -/

namespace Sys2Proof.Machine

/-! ## What leaves the update engine alone -/

theorem SameExcept.engine {bs : List Block} {s t : State} (h : SameExcept bs s t) (he : Block.engine ∉ bs := by decide) :
    t.engine = s.engine := h.2 .engine he

theorem engine_ite {s t u : State} (c : Prop) [Decidable c] (ht : c → t.engine = s.engine) (hu : ¬c → u.engine = s.engine) :
    (if c then t else u).engine = s.engine := by
  split
  · exact ht ‹_›
  · exact hu ‹_›

/-! ### Messages, notices, the light and the rails -/

@[simp] theorem raise_engine (r : Report) (s : State) : (raise r s).engine = s.engine := (raise_frame r s).engine

@[simp] theorem raiseAll_engine (rs : List Report) (s : State) : (raiseAll rs s).engine = s.engine := (raiseAll_frame rs s).engine

@[simp] theorem recount_engine (s : State) : (recount s).engine = s.engine := rfl

@[simp] theorem replyWith_engine (code tag : Nat) (st : Status) (x : ReplyState) (s : State) :
    (replyWith code tag st x s).engine = s.engine := rfl

@[simp] theorem reply_engine (code tag : Nat) (st : Status) (s : State) : (reply code tag st s).engine = s.engine := rfl

@[simp] theorem powerReact_engine (s : State) : (powerReact s).engine = s.engine := by
  cases h : s.power.mode <;> simp only [powerReact, h]
  case settling => exact engine_ite _ (fun _ => (enterStandby_frame s).engine) fun _ => rfl
  case doze => rfl

/-- The power controller hears of something, or has heard of it before. -/
theorem tell_engine (c : Prop) [Decidable c] (f : PowerState → PowerState) (s : State) :
    (if c then s else powerReact (s.onPower f)).engine = s.engine :=
  engine_ite _ (fun _ => rfl) fun _ => powerReact_engine (s.onPower f)

@[simp] theorem engineNotify_engine (s : State) : (engineNotify s).engine = s.engine := tell_engine _ _ s

@[simp] theorem lightEvent_engine (f : LightState → LightState) (s : State) : (lightEvent f s).engine = s.engine :=
  tell_engine _ _ (s.onLight f)

@[simp] theorem lightActivity_engine (s : State) : (lightActivity s).engine = s.engine :=
  engine_ite _ (fun _ => lightEvent_engine _ s) fun _ => rfl

@[simp] theorem lightRequest_engine (level : Nat) (s : State) : (lightRequest level s).engine = s.engine :=
  engine_ite _ (fun _ => rfl) fun _ => (raise_engine _ _).trans (lightEvent_engine _ s)

@[simp] theorem rebudget_engine (f : BudgetState → BudgetState) (s : State) : (rebudget f s).engine = s.engine :=
  lightEvent_engine _ (s.onBudget fun b => (f b).recompute)

@[simp] theorem reportLowBattery_engine (s : State) : (reportLowBattery s).engine = s.engine := raise_engine _ (s.onBudget _)

@[simp] theorem setRail_engine (m : RailMode) (s : State) : (setRail m s).engine = s.engine :=
  (tell_engine _ _ _).trans (rebudget_engine _ (s.onRail fun r => { r with mode := m }))

@[simp] theorem startFall_engine (s : State) : (startFall s).engine = s.engine := setRail_engine .falling (s.onRail _)

@[simp] theorem enterHold_engine (s : State) : (enterHold s).engine = s.engine :=
  (engine_ite _ (fun _ => startFall_engine _) fun _ => rfl).trans
    (setRail_engine .hold (s.onRail fun r => { r with hold := some r.holdTime }))

@[simp] theorem laneLeft_engine (s : State) : (laneLeft s).engine = s.engine :=
  engine_ite _ (fun _ => enterHold_engine (s.onRail fun r => { r with armed := r.armed - 1 })) fun _ => rfl

/-! ### Sleep and waking -/

@[simp] theorem handSignals_engine (s : State) : (handSignals s).engine = s.engine := tell_engine _ _ (handHeadroom s)

@[simp] theorem settle_engine (hostAsked : Bool) (s : State) : (settle hostAsked s).engine = s.engine :=
  engine_ite _ (fun _ => (powerReact_engine (s.settled hostAsked)).trans (settled_frame hostAsked s).engine) fun _ => rfl

@[simp] theorem setMode_engine (m : PowerMode) (s : State) : (setMode m s).engine = s.engine := rfl

@[simp] theorem cancelSettling_engine (byLink : Bool) (s : State) : (cancelSettling byLink s).engine = s.engine := by
  refine engine_ite _ (fun _ => ?_) fun _ => rfl
  simp only [onPower_engine, handSignals_engine, onStream_engine, lightEvent_engine, onCache_engine, setMode_engine]

@[simp] theorem activityNotice_engine (s : State) : (activityNotice s).engine = s.engine := by
  cases h : s.power.mode <;> simp only [activityNotice, h, cancelSettling_engine, onPower_engine]

@[simp] theorem wakeReport_engine (c : WakeCause) (s : State) : (wakeReport c s).engine = s.engine := by
  cases c <;> simp only [wakeReport, raise_engine]

@[simp] theorem beginWaking_engine (c : WakeCause) (s : State) : (beginWaking c s).engine = s.engine := by
  refine engine_ite _ (fun _ => ?_) fun _ => rfl
  simp only [onPool_engine, wakeReport_engine, onRadio_engine, onKeys_engine, setMode_engine, onPower_engine]

@[simp] theorem linkNotice_engine (s : State) : (linkNotice s).engine = s.engine := by
  cases h : s.power.mode <;> simp only [linkNotice, h]
  case settling => exact engine_ite _ (fun _ => rfl) fun _ => cancelSettling_engine true s
  case standby => exact beginWaking_engine .link s
  case waking => exact engine_ite _ (fun _ => rfl) fun _ => engine_ite _ (fun _ => rfl) fun _ => raise_engine _ _
  case doze => rfl

/-! ### Slots, leaves and blocks -/

@[simp] theorem abandonLoad_engine (s : State) : (abandonLoad s).engine = s.engine := by
  rw [abandonLoad]
  split <;> rfl

@[simp] theorem selectBand_engine (t : Int) (n : Nat) (s : State) : (selectBand t n s).engine = s.engine :=
  (selectBand_frame t n s).engine

@[simp] theorem takeReading_engine (reading : Int) (s : State) : (takeReading reading s).engine = s.engine :=
  (takeReading_frame reading s).engine

@[simp] theorem useSource_engine (src : Source) (s : State) : (useSource src s).engine = s.engine := (useSource_frame src s).engine

@[simp] theorem unuseSource_engine (src : Source) (s : State) : (unuseSource src s).engine = s.engine :=
  (unuseSource_frame src s).engine

@[simp] theorem turnAbandoned_engine (c : MissCause) (s : State) : (turnAbandoned c s).engine = s.engine := by
  rw [turnAbandoned]
  split
  · rfl
  · exact raise_engine _ s

@[simp] theorem allocate_engine (k : Nat) (o : Owner) (s : State) : (allocate k o s).engine = s.engine := (allocate_frame k o s).engine

@[simp] theorem removeLeaf_engine (l : Leaf) (s : State) : (removeLeaf l s).engine = s.engine := (removeLeaf_frame l s).engine

@[simp] theorem allocateStaging_engine (r : Nat) (s : State) : (allocateStaging r s).2.engine = s.engine := by
  simp only [allocateStaging]
  split
  · exact allocate_engine _ _ s
  · split
    · rfl
    next l _ =>
      have h := (removeLeaf_engine l _).trans (raise_engine (.leafEvicted l.number) s)
      split
      · exact (allocate_engine _ _ _).trans h
      · exact h

/-! ### Streams and the radio port -/

@[simp] theorem radioError_engine (c : CountKind) (k : RadioErrorKind) (s : State) : (radioError c k s).engine = s.engine :=
  engine_ite _ (fun _ => rfl) fun _ => raise_engine _ _

@[simp] theorem pauseStream_engine (r : Nat) (c : PauseCause) (report : Report) (s : State) :
    (pauseStream r c report s).engine = s.engine :=
  engine_ite _ (fun _ => (handSignals_engine _).trans (raise_engine _ _)) fun _ =>
    engine_ite _ (fun _ => rfl) fun _ => raise_engine _ _

@[simp] theorem thresholdRise_engine (r : Nat) (s : State) : (thresholdRise r s).engine = s.engine :=
  engine_ite _ (fun _ => raise_engine _ _) fun _ => rfl

@[simp] theorem acceptFrame_engine (r : Nat) (granted : Bool) (payload : List Byte) (s : State) :
    (acceptFrame r granted payload s).engine = s.engine := by
  have h := raiseAll_engine ((s.record r).takeBytes granted payload).reports
    (onRecord r (fun _ => ((s.record r).takeBytes granted payload).record) s)
  refine engine_ite _ (fun _ => (handSignals_engine _).trans ((raise_engine _ _).trans h)) fun _ => ?_
  split
  · exact (handSignals_engine _).trans ((raise_engine _ _).trans h)
  · exact (handSignals_engine _).trans h

@[simp] theorem placeFrame_engine (r : Nat) (payload : List Byte) (s : State) : (placeFrame r payload s).2.engine = s.engine := by
  have h := allocateStaging_engine r s
  simp only [placeFrame]
  split
  · split
    · exact pauseStream_engine _ _ _ s
    · split
      next u hu => rw [hu] at h; exact (pauseStream_engine _ _ _ u).trans h
      next b u hu =>
        rw [hu] at h
        exact (acceptFrame_engine _ _ _ _).trans ((thresholdRise_engine _ _).trans ((handSignals_engine _).trans h))
  · exact acceptFrame_engine _ _ _ s

@[simp] theorem expectedFrame_engine (r : Nat) (payload : List Byte) (s : State) :
    (expectedFrame r payload s).2.engine = s.engine := by
  have h := placeFrame_engine r payload s
  simp only [expectedFrame]
  split
  · split
    next u hu => rw [hu] at h; exact h
    next u hu => rw [hu] at h; exact h
  · split
    · exact (handSignals_engine _).trans (raise_engine _ _)
    · exact pauseStream_engine _ _ _ s

@[simp] theorem decideFrame_engine (f : Frame) (s : State) : (decideFrame f s).2.engine = s.engine := by
  rw [decideFrame]
  split
  · rfl
  · split
    · rfl
    · simp only
      split
      · rfl
      · cases f.kind with
        | keep => exact engine_ite _ (fun _ => rfl) fun _ => rfl
        | data =>
          simp only
          split
          · exact expectedFrame_engine _ _ s
          · split
            · exact pauseStream_engine _ _ _ _
            · rfl

@[simp] theorem commitChunk_engine (c : Chunk) (s : State) : (commitChunk c s).engine = s.engine := by
  rw [commitChunk]
  split
  · rfl
  · refine (handSignals_engine _).trans ?_
    exact engine_ite _ (fun _ => rfl) fun _ => rfl

@[simp] theorem countAnswer_engine (a : PortAnswer) (s : State) : (countAnswer a s).engine = s.engine := by
  cases a <;> rfl

@[simp] theorem handFrame_engine (s : State) : (handFrame s).engine = s.engine := by
  rw [handFrame]
  split
  · rfl
  next a _ =>
    have h := decideFrame_engine a.toFrame s
    split
    next u hu => rw [hu] at h; exact h
    next answer u hu => rw [hu] at h; exact (countAnswer_engine answer u).trans h

@[simp] theorem handOverFrame_engine (s : State) : (handOverFrame s).engine = s.engine :=
  engine_ite _ (fun _ => rfl) fun _ => handFrame_engine _

@[simp] theorem lateAnswer_engine (a : PortAnswer) (s : State) : (lateAnswer a s).engine = s.engine := by
  have h := countAnswer_engine a s
  exact engine_ite _ (fun _ => engine_ite _ (fun _ => (handFrame_engine _).trans h) fun _ => h) fun _ => h

@[simp] theorem dropFrame_engine (c : CountKind) (k : RadioErrorKind) (s : State) : (dropFrame c k s).engine = s.engine :=
  radioError_engine c k s

@[simp] theorem huntChar_engine (mark : Bool) (data : Byte) (s : State) : (huntChar mark data s).engine = s.engine := by
  rw [huntChar]
  split
  · split
    · exact radioError_engine _ _ s
    · rfl
  · rfl

@[simp] theorem takeChar_engine (mark : Bool) (data : Byte) (s : State) : (takeChar mark data s).engine = s.engine := by
  rw [takeChar]
  split
  · exact huntChar_engine mark data s
  next a _ =>
    refine engine_ite _ (fun _ => (huntChar_engine mark data _).trans (dropFrame_engine _ _ s)) fun _ => ?_
    split
    · exact huntChar_engine mark data s
    · refine engine_ite _ (fun _ => rfl) fun _ => ?_
      split
      · exact dropFrame_engine _ _ s
      · rfl
    · rfl
    · exact engine_ite _ (fun _ => rfl) fun _ => engine_ite _ (fun _ => handOverFrame_engine _) fun _ => dropFrame_engine _ _ s

@[simp] theorem takeEntryAt_engine (e : FifoEntry) (rest : List FifoEntry) (s : State) :
    (takeEntryAt e rest s).engine = s.engine := by
  cases e with
  | note c => exact engine_ite _ (fun _ => rfl) fun _ => rfl
  | char mark data => exact takeChar_engine mark data _

@[simp] theorem placeNote_engine (c : NoteCause) (s : State) : (placeNote c s).engine = s.engine := rfl

@[simp] theorem placeChar_engine (mark : Bool) (data : Byte) (s : State) : (placeChar mark data s).engine = s.engine :=
  engine_ite _ (fun _ => rfl) fun _ => radioError_engine _ _ s

@[simp] theorem closeStream_engine (n : Nat) (s : State) : (closeStream n s).engine = s.engine :=
  engine_ite _ (fun _ => (lateAnswer_engine _ _).trans (handSignals_engine _)) fun _ => handSignals_engine _

/-! ## Lanes: what the engine's operations make of each (R41, R51) -/

theorem lane_of_engine {s t : State} (h : t.engine = s.engine) (n : Nat) : t.lane n = s.lane n := by rw [State.lane, h]; rfl

theorem lane_of_lanes {s t : State} (h : t.engine.lanes = s.engine.lanes) (n : Nat) : t.lane n = s.lane n := by
  rw [State.lane, h]; rfl

/-- A number beyond the eight lanes reads as a FREE lane. -/
theorem lane_beyond {n : Nat} (s : State) (h : 8 ≤ n) : s.lane n = {} := recordAt_beyond _ _ _ h

theorem lt_of_busy {s : State} {n : Nat} (h : (s.lane n).state ≠ .free) : n < 8 := by
  by_contra hn
  exact h (by rw [lane_beyond s (by omega)])

theorem onLane_lane_same {n : Nat} (f : Lane → Lane) (s : State) (h : n < 8) : (onLane n f s).lane n = f (s.lane n) :=
  recordAt_withRecord_same s.engine.lanes n f {} h

theorem onLane_lane_other {n k : Nat} (f : Lane → Lane) (s : State) (h : k ≠ n) : (onLane n f s).lane k = s.lane k :=
  recordAt_withRecord_other s.engine.lanes n k f {} h

/-- A predicate of some lane, by the lane's number. -/
theorem lanes_any_iff (e : EngineState) (f : Lane → Bool) : e.lanes.any f = true ↔ ∃ n, n < 8 ∧ f (recordAt e.lanes n {}) = true := by
  rw [Vector.any_eq_true]
  refine exists_congr fun n => ⟨fun ⟨hn, h⟩ => ⟨hn, ?_⟩, fun ⟨hn, h⟩ => ⟨hn, ?_⟩⟩
  · simpa [recordAt, hn] using h
  · simpa [recordAt, hn] using h

theorem someLane_iff (s : State) (m : LaneState) : s.engine.someLane m = true ↔ ∃ n, n < 8 ∧ (s.lane n).state = m := by
  simp only [EngineState.someLane, lanes_any_iff, decide_eq_true_eq, State.lane]

theorem busyOver_iff (s : State) (r : Rect) : s.engine.busyOver r = true ↔
    ∃ n, n < 8 ∧ (s.lane n).state ≠ .free ∧ rectOverlaps (s.lane n).rect r = true := by
  simp only [EngineState.busyOver, lanes_any_iff, Bool.and_eq_true, decide_eq_true_eq, State.lane]

theorem busyOver_false_iff (s : State) (r : Rect) : s.engine.busyOver r = false ↔
    ∀ n, n < 8 → (s.lane n).state ≠ .free → rectOverlaps (s.lane n).rect r = false := by
  rw [← Bool.not_eq_true, busyOver_iff]
  push Not
  simp only [ne_eq, Bool.not_eq_true]

theorem uncertainOver_false_iff (e : EngineState) (r : Rect) : e.uncertainOver r = false ↔
    e.whole = false ∧ ∀ u ∈ e.uncertain, rectOverlaps u r = false := by
  simp [EngineState.uncertainOver]

/-- The lowest-numbered FREE lane (R41). -/
theorem freeLane?_iff (s : State) (n : Nat) : s.engine.freeLane? = some n ↔
    n < 8 ∧ (s.lane n).state = .free ∧ ∀ k, k < n → (s.lane k).state ≠ .free := by
  simp only [EngineState.freeLane?, List.find?_range_eq_some, decide_eq_true_eq, List.mem_range, State.lane, Bool.not_eq_eq_eq_not,
    Bool.not_true, decide_eq_false_iff_not]
  tauto

/-! ### Freeing -/

/-- The engine with one lane FREE (R51; log 31). -/
def EngineState.without (e : EngineState) (n : Nat) : EngineState := { e with lanes := withRecord e.lanes n (fun _ => {}) }

@[simp] theorem stopScan_engine (s : State) : (stopScan s).engine = { s.engine with scan := none, load := 0 } :=
  rebudget_engine _ (s.onEngine fun e => { e with scan := none, load := 0 })

/-- The lane goes, and with the last lane ARMED or DRIVING the scan and its load (R51; log 45). -/
theorem freeLane_engine (inFrame : Bool) (n : Nat) (s : State) : (freeLane inFrame n s).engine =
    if (s.lane n).armed && !inFrame && s.engine.scan.isSome && !(s.engine.without n).someLane .driving &&
      !(s.engine.without n).someLane .armed
    then { s.engine.without n with scan := none, load := 0 } else s.engine.without n := by
  have hunused : (unuseSource (s.lane n).source (unuseSlot (s.lane n).slot (onLane n (fun _ => {}) s))).engine =
      s.engine.without n := unuseSource_engine _ _
  have hleft : (if (s.lane n).armed then laneLeft
      (unuseSource (s.lane n).source (unuseSlot (s.lane n).slot (onLane n (fun _ => {}) s)))
      else unuseSource (s.lane n).source (unuseSlot (s.lane n).slot (onLane n (fun _ => {}) s))).engine = s.engine.without n :=
    (engine_ite _ (fun _ => laneLeft_engine _) fun _ => rfl).trans hunused
  have hscan : (s.engine.without n).scan = s.engine.scan := rfl
  simp only [freeLane, hleft, hscan]
  split
  · rw [stopScan_engine, hleft]
  · exact hleft

theorem freeLane_lanes (inFrame : Bool) (n : Nat) (s : State) :
    (freeLane inFrame n s).engine.lanes = (s.engine.without n).lanes := by
  rw [freeLane_engine]; split <;> rfl

/-- What of the engine is neither lanes nor scan outlives the lane. -/
theorem freeLane_rest (inFrame : Bool) (n : Nat) (s : State) :
    (freeLane inFrame n s).engine.uncertain = s.engine.uncertain ∧ (freeLane inFrame n s).engine.whole = s.engine.whole ∧
      (freeLane inFrame n s).engine.pending = s.engine.pending := by
  rw [freeLane_engine]; split <;> exact ⟨rfl, rfl, rfl⟩

theorem freeLane_lane_same (inFrame : Bool) (n : Nat) (s : State) : (freeLane inFrame n s).lane n = {} := by
  rw [State.lane, freeLane_lanes]
  rcases Nat.lt_or_ge n 8 with hn | hn
  · exact recordAt_withRecord_same s.engine.lanes n _ {} hn
  · exact recordAt_beyond _ _ _ hn

theorem freeLane_lane_other (inFrame : Bool) {n k : Nat} (s : State) (h : k ≠ n) : (freeLane inFrame n s).lane k = s.lane k := by
  rw [State.lane, freeLane_lanes]
  exact recordAt_withRecord_other s.engine.lanes n k _ {} h

@[simp] theorem tellLane_engine (l : Lane) (o : UpdateOutcome) (c : MissCause) (s : State) : (tellLane l o c s).engine = s.engine := by
  rw [tellLane]
  cases l.origin with
  | host => exact raise_engine _ s
  | turn => exact turnAbandoned_engine c s

theorem endLane_engine (n : Nat) (o : UpdateOutcome) (c : MissCause) (s : State) :
    (endLane n o c s).engine = (freeLane false n s).engine := tellLane_engine _ _ _ _

theorem endLane_lane_same (n : Nat) (o : UpdateOutcome) (c : MissCause) (s : State) : (endLane n o c s).lane n = {} :=
  (lane_of_engine (endLane_engine n o c s) n).trans (freeLane_lane_same false n s)

theorem endLane_lane_other {n k : Nat} (o : UpdateOutcome) (c : MissCause) (s : State) (h : k ≠ n) :
    (endLane n o c s).lane k = s.lane k :=
  (lane_of_engine (endLane_engine n o c s) k).trans (freeLane_lane_other false s h)

/-- What no lane's part changes, a loop over the lanes does not change. -/
theorem eachLane_keeps {β : Type} (g : State → β) (f : Nat → State → State) (h : ∀ n s, g (f n s) = g s) (s : State) :
    g (eachLane f s) = g s := foldl_keeps g _ (fun s n => h n s) _ s

/-- In a loop over the lanes whose parts each work on their own lane, a lane ends as its own part leaves it. -/
theorem eachLane_lane (f : Nat → State → State) (hother : ∀ n k s, k ≠ n → (f n s).lane k = s.lane k) (s : State) {k : Nat}
    (hk : k < 8) : ∃ u, u.lane k = s.lane k ∧ (eachLane f s).lane k = (f k u).lane k := by
  have hskip : ∀ (l : List Nat), k ∉ l → ∀ v, (l.foldl (fun s n => f n s) v).lane k = v.lane k := by
    intro l
    induction l with
    | nil => exact fun _ v => rfl
    | cons n l ih =>
      intro hl v
      rw [List.mem_cons, not_or] at hl
      exact (ih hl.2 _).trans (hother n k v hl.1)
  have hloop : ∀ (l : List Nat), l.Nodup → k ∈ l → ∀ v, v.lane k = s.lane k →
      ∃ u, u.lane k = s.lane k ∧ (l.foldl (fun s n => f n s) v).lane k = (f k u).lane k := by
    intro l
    induction l with
    | nil => intro _ hl; simp at hl
    | cons n l ih =>
      intro hnd hl v hv
      rw [List.nodup_cons] at hnd
      by_cases hn : k = n
      · subst hn; exact ⟨v, hv, hskip l hnd.1 _⟩
      · exact ih hnd.2 ((List.mem_cons.1 hl).resolve_left hn) _ ((hother n k v hn).trans hv)
  exact hloop _ List.nodup_range (List.mem_range.2 hk) s rfl

/-! ### The uncertain region list -/

/-- A collapse's part for one lane (R57). -/
def endChanged (n : Nat) (s : State) : State :=
  if (s.lane n).state ≠ .free && (s.lane n).selection = .changed then endLane n .uncertain .uncertain s else s

theorem freeChanged_eq (s : State) : freeChanged s = eachLane endChanged s := rfl

theorem endChanged_lane_other (n k : Nat) (s : State) (h : k ≠ n) : (endChanged n s).lane k = s.lane k := by
  rw [endChanged]
  split
  · exact endLane_lane_other _ _ s h
  · rfl

/-- The lanes a collapse frees (R57). -/
theorem freeChanged_lane (s : State) {k : Nat} (hk : k < 8) : (freeChanged s).lane k =
    if (s.lane k).state ≠ .free ∧ (s.lane k).selection = .changed then {} else s.lane k := by
  obtain ⟨u, hu, he⟩ := eachLane_lane endChanged endChanged_lane_other s hk
  rw [freeChanged_eq, he, endChanged]
  by_cases h : (s.lane k).state ≠ .free ∧ (s.lane k).selection = .changed
  · rw [if_pos h, if_pos (by rw [hu]; simpa using h), endLane_lane_same]
  · rw [if_neg h, if_neg (by rw [hu]; simpa using h), hu]

theorem endChanged_rest (n : Nat) (s : State) : (endChanged n s).engine.uncertain = s.engine.uncertain ∧
    (endChanged n s).engine.whole = s.engine.whole ∧ (endChanged n s).engine.pending = s.engine.pending := by
  rw [endChanged]
  split
  · rw [endLane_engine]; exact freeLane_rest false n s
  · exact ⟨rfl, rfl, rfl⟩

theorem freeChanged_rest (s : State) : (freeChanged s).engine.uncertain = s.engine.uncertain ∧
    (freeChanged s).engine.whole = s.engine.whole ∧ (freeChanged s).engine.pending = s.engine.pending := by
  rw [freeChanged_eq]
  exact ⟨eachLane_keeps (fun x => x.engine.uncertain) endChanged (fun n s => (endChanged_rest n s).1) s,
    eachLane_keeps (fun x => x.engine.whole) endChanged (fun n s => (endChanged_rest n s).2.1) s,
    eachLane_keeps (fun x => x.engine.pending) endChanged (fun n s => (endChanged_rest n s).2.2) s⟩

theorem Selection.all_of_ne {x : Selection} (h : ¬x = .changed) : x = .all := by
  cases x with
  | all => rfl
  | changed => exact absurd rfl h

/-- The three courses of an uncertain rectangle (R56, R57). -/
theorem addUncertain_covered {r : Rect} {s : State}
    (h : s.engine.whole = true ∨ ∃ u ∈ s.engine.uncertain, rectContains u r = true) : addUncertain r s = s :=
  if_pos (by simpa using h)

/-- The entries that a new rectangle leaves (R56). -/
def EngineState.beside (e : EngineState) (r : Rect) : List Rect := e.uncertain.filter (fun u => !rectContains r u)

theorem addUncertain_appends {r : Rect} {s : State} (hw : s.engine.whole = false)
    (hu : ∀ u ∈ s.engine.uncertain, rectContains u r = false) (hlen : (s.engine.beside r).length < 8) :
    addUncertain r s = s.onEngine (fun e => { e with uncertain := s.engine.beside r ++ [r] }) := by
  rw [addUncertain, if_neg (by simpa [hw] using hu)]
  exact if_pos hlen

theorem addUncertain_collapses {r : Rect} {s : State} (hw : s.engine.whole = false)
    (hu : ∀ u ∈ s.engine.uncertain, rectContains u r = false) (hlen : 8 ≤ (s.engine.beside r).length) :
    addUncertain r s = freeChanged (s.onEngine (fun e => { e with uncertain := [s.panelRect], whole := true })) := by
  rw [addUncertain, if_neg (by simpa [hw] using hu)]
  exact if_neg (Nat.not_lt.2 hlen)

/-- Settles O40: the three courses of an addition, with what a collapse makes of the lanes. -/
theorem uncertainListGrowsAndCollapses : Obligations.UncertainListGrowsAndCollapses := by
  intro r s
  refine ⟨addUncertain_covered, fun hw hu => ⟨addUncertain_appends hw hu, fun hlen => ?_⟩, rfl, fun h => ?_⟩
  · rw [addUncertain_collapses hw hu hlen]
    obtain ⟨huncertain, hwhole, hpending⟩ :=
      freeChanged_rest (s.onEngine (fun e => { e with uncertain := [s.panelRect], whole := true }))
    refine ⟨huncertain, hwhole, fun n hn => ?_, fun n hn hall => ?_, hpending⟩
    · rw [freeChanged_lane _ hn]
      split
      · exact .inl rfl
      · exact (not_and_or.1 ‹_›).imp not_not.1 Selection.all_of_ne
    · rw [freeChanged_lane _ hn, if_neg]
      · rfl
      · rintro ⟨-, hc⟩
        have hc : (s.lane n).selection = .changed := hc
        rw [hall] at hc; cases hc
  · have h : s.engine.uncertain.filter (fun u => !rectContains r u) = [] := h
    simp [EngineState.clearUncertain, h]

/-! ## The lanes stay apart, and CHANGED lanes off uncertain ground (R41, R42, R57) -/

/-! ### Lanes that fade: none starts and no rectangle moves -/

/-- Every lane at work in `t` was at work in `s` with the same rectangle and selection, and only lanes in PREPARING wait for
a band where that was so. -/
structure LanesFade (s t : State) : Prop where
  busy : ∀ a, a < 8 → (t.lane a).state ≠ .free →
    (s.lane a).state ≠ .free ∧ (t.lane a).rect = (s.lane a).rect ∧ (t.lane a).selection = (s.lane a).selection
  held : (∀ a, a < 8 → (s.lane a).bandHeld = true → (s.lane a).state = .preparing) →
    ∀ a, a < 8 → (t.lane a).bandHeld = true → (t.lane a).state = .preparing

/-- The uncertain ground of `t` lies in that of `s`. -/
structure GroundShrinks (s t : State) : Prop where
  whole : t.engine.whole = true → s.engine.whole = true
  uncertain : ∀ u ∈ t.engine.uncertain, u ∈ s.engine.uncertain

/-- A part of an event keeps the lanes apart, and with them apart the CHANGED lanes off uncertain ground. -/
structure KeepsLanes (s t : State) : Prop where
  apart : s.lanesApart → t.lanesApart
  ground : s.lanesApart → s.uncertainDrivenWhole → t.uncertainDrivenWhole

theorem KeepsLanes.trans {s t u : State} (h : KeepsLanes s t) (h' : KeepsLanes t u) : KeepsLanes s u :=
  ⟨h'.apart ∘ h.apart, fun ha hg => h'.ground (h.apart ha) (h.ground ha hg)⟩

theorem LanesFade.trans {s t u : State} (h : LanesFade s t) (h' : LanesFade t u) : LanesFade s u := by
  refine ⟨fun a ha hu => ?_, fun hs => h'.held (h.held hs)⟩
  obtain ⟨ht, hrect, hsel⟩ := h'.busy a ha hu
  obtain ⟨hs, hrect', hsel'⟩ := h.busy a ha ht
  exact ⟨hs, hrect.trans hrect', hsel.trans hsel'⟩

theorem GroundShrinks.trans {s t u : State} (h : GroundShrinks s t) (h' : GroundShrinks t u) : GroundShrinks s u :=
  ⟨h.whole ∘ h'.whole, fun r hr => h.uncertain r (h'.uncertain r hr)⟩

/-- Lanes of which each is as it was, or FREE and empty, or works on within its rectangle. -/
theorem LanesFade.of_lanes {s t : State} (h : ∀ a, a < 8 → t.lane a = s.lane a ∨ t.lane a = {} ∨
    ((s.lane a).state ≠ .free ∧ (t.lane a).rect = (s.lane a).rect ∧ (t.lane a).selection = (s.lane a).selection ∧
      (((s.lane a).bandHeld = true → (s.lane a).state = .preparing) → (t.lane a).bandHeld = true →
        (t.lane a).state = .preparing))) : LanesFade s t := by
  refine ⟨fun a ha hb => ?_, fun hs a ha hb => ?_⟩
  · rcases h a ha with he | he | ⟨hbusy, hrect, hsel, -⟩
    · rw [he] at hb ⊢; exact ⟨hb, rfl, rfl⟩
    · rw [he] at hb; exact absurd rfl hb
    · exact ⟨hbusy, hrect, hsel⟩
  · rcases h a ha with he | he | ⟨-, -, -, hheld⟩
    · rw [he] at hb ⊢; exact hs a ha hb
    · rw [he] at hb; cases hb
    · exact hheld (hs a ha) hb

theorem LanesFade.of_same {s t : State} (h : t.engine.lanes = s.engine.lanes) : LanesFade s t :=
  .of_lanes fun a _ => .inl (lane_of_lanes h a)

/-- Lanes that fade stay apart. -/
theorem LanesFade.apart {s t : State} (h : LanesFade s t) (hs : s.lanesApart) : t.lanesApart := by
  refine ⟨fun a b ha hb hab hta htb => ?_, h.held hs.2⟩
  obtain ⟨hsa, hra, -⟩ := h.busy a ha hta
  obtain ⟨hsb, hrb, -⟩ := h.busy b hb htb
  rw [hra, hrb]; exact hs.1 a b ha hb hab hsa hsb

/-- Lanes that fade over ground that shrinks are kept. -/
theorem LanesFade.keeps {s t : State} (h : LanesFade s t) (hg : GroundShrinks s t) : KeepsLanes s t := by
  refine ⟨h.apart, fun _ hs a ha hta hsel => ?_⟩
  obtain ⟨hsa, hrect, hsel'⟩ := h.busy a ha hta
  obtain ⟨hw, hu⟩ := hs a ha hsa (hsel'.symm.trans hsel)
  refine ⟨?_, fun u hm => hrect ▸ hu u (hg.uncertain u hm)⟩
  rw [← Bool.not_eq_true] at hw ⊢
  exact fun ht => hw (hg.whole ht)

/-- With every lane FREE there is nothing over uncertain ground. -/
theorem LanesFade.keeps_of_free {s t : State} (h : LanesFade s t) (hfree : ∀ a, a < 8 → (t.lane a).state = .free) :
    KeepsLanes s t := ⟨h.apart, fun _ _ a ha hb => absurd (hfree a ha) hb⟩

/-- The ground stays where its two parts stay. -/
theorem GroundShrinks.of_same {s t : State} (hu : t.engine.uncertain = s.engine.uncertain) (hw : t.engine.whole = s.engine.whole) :
    GroundShrinks s t := ⟨fun h => hw ▸ h, fun _ h => hu ▸ h⟩

theorem KeepsLanes.of_same {s t : State} (h : t.engine.lanes = s.engine.lanes) (hu : t.engine.uncertain = s.engine.uncertain)
    (hw : t.engine.whole = s.engine.whole) : KeepsLanes s t := (LanesFade.of_same h).keeps (.of_same hu hw)

theorem KeepsLanes.of_engine {s t : State} (h : t.engine = s.engine) : KeepsLanes s t := by
  refine .of_same ?_ ?_ ?_ <;> rw [h]

theorem KeepsLanes.refl (s : State) : KeepsLanes s s := .of_engine rfl

theorem KeepsLanes.ite {s t u : State} (c : Prop) [Decidable c] (ht : c → KeepsLanes s t) (hu : ¬ c → KeepsLanes s u) :
    KeepsLanes s (if c then t else u) := by
  split
  · exact ht ‹_›
  · exact hu ‹_›

theorem foldl_keepsLanes {α : Type} (f : State → α → State) (h : ∀ s a, KeepsLanes s (f s a)) (l : List α) :
    ∀ s, KeepsLanes s (l.foldl f s) := by
  induction l with
  | nil => exact .refl
  | cons a l ih => exact fun s => (h s a).trans (ih _)

theorem eachLane_keepsLanes (f : Nat → State → State) (h : ∀ n s, KeepsLanes s (f n s)) (s : State) :
    KeepsLanes s (eachLane f s) := foldl_keepsLanes _ (fun s n => h n s) _ s

/-! ### Freeing -/

theorem freeLane_fades (inFrame : Bool) (n : Nat) (s : State) : LanesFade s (freeLane inFrame n s) := by
  refine .of_lanes fun a _ => ?_
  by_cases h : a = n
  · subst h; exact .inr (.inl (freeLane_lane_same _ _ s))
  · exact .inl (freeLane_lane_other _ s h)

theorem freeLane_keepsLanes (inFrame : Bool) (n : Nat) (s : State) : KeepsLanes s (freeLane inFrame n s) := by
  obtain ⟨hu, hw, -⟩ := freeLane_rest inFrame n s
  exact (freeLane_fades inFrame n s).keeps (.of_same hu hw)

theorem endLane_keepsLanes (n : Nat) (o : UpdateOutcome) (c : MissCause) (s : State) : KeepsLanes s (endLane n o c s) :=
  (freeLane_keepsLanes false n s).trans (.of_engine (tellLane_engine _ o c _))

/-- One lane works on within its rectangle, and waits for a band only in PREPARING. -/
theorem onLane_keepsLanes (n : Nat) (f : Lane → Lane) (s : State) (hbusy : n < 8 → (s.lane n).state ≠ .free)
    (hrect : (f (s.lane n)).rect = (s.lane n).rect := by rfl)
    (hsel : (f (s.lane n)).selection = (s.lane n).selection := by rfl)
    (hheld : ((s.lane n).bandHeld = true → (s.lane n).state = .preparing) → (f (s.lane n)).bandHeld = true →
      (f (s.lane n)).state = .preparing) : KeepsLanes s (onLane n f s) := by
  refine (LanesFade.of_lanes fun a ha => ?_).keeps (.of_same rfl rfl)
  by_cases h : a = n
  · subst h
    rw [onLane_lane_same f s ha]
    exact .inr (.inr ⟨hbusy ha, hrect, hsel, hheld⟩)
  · exact .inl (onLane_lane_other f s h)

/-! ### Uncertain ground -/

/-- A collapse frees lanes and starts none (R57). -/
theorem freeChanged_fades (s : State) : LanesFade s (freeChanged s) := by
  refine .of_lanes fun a ha => ?_
  rw [freeChanged_lane s ha]
  split
  · exact .inr (.inl rfl)
  · exact .inl rfl

theorem addUncertain_cases (r : Rect) (s : State) : addUncertain r s = s ∨
    addUncertain r s = s.onEngine (fun e => { e with uncertain := s.engine.beside r ++ [r] }) ∨
    addUncertain r s = freeChanged (s.onEngine (fun e => { e with uncertain := [s.panelRect], whole := true })) := by
  simp only [addUncertain]
  split
  · exact .inl rfl
  · split
    · exact .inr (.inl rfl)
    · exact .inr (.inr rfl)

theorem addUncertain_fades (r : Rect) (s : State) : LanesFade s (addUncertain r s) := by
  rcases addUncertain_cases r s with h | h | h <;> rw [h]
  · exact .of_same rfl
  · exact .of_same rfl
  · have hwhole : LanesFade s (s.onEngine (fun e => { e with uncertain := [s.panelRect], whole := true })) := .of_same rfl
    exact hwhole.trans (freeChanged_fades _)

/-- A rectangle on which no lane works may become uncertain; a collapse leaves no CHANGED lane (R56, R57). -/
theorem addUncertain_keepsLanes {r : Rect} {s : State}
    (hr : ∀ a, a < 8 → (s.lane a).state ≠ .free → rectOverlaps r (s.lane a).rect = false) : KeepsLanes s (addUncertain r s) := by
  refine ⟨(addUncertain_fades r s).apart, fun _ hs => ?_⟩
  rcases addUncertain_cases r s with h | h | h <;> rw [h]
  · exact hs
  · intro a ha hb hsel
    obtain ⟨hw, hu⟩ := hs a ha hb hsel
    refine ⟨hw, fun u hm => ?_⟩
    rcases List.mem_append.1 hm with hm | hm
    · exact hu u (List.mem_filter.1 hm).1
    · rw [List.mem_singleton.1 hm]; exact hr a ha hb
  · intro a ha hb hsel
    rw [freeChanged_lane _ ha] at hb hsel
    split at hb
    · exact absurd rfl hb
    next hkept =>
      rw [if_neg hkept] at hsel
      exact absurd ⟨hb, hsel⟩ hkept

/-- Several rectangles become uncertain, none of them worked on. -/
theorem addUncertains_keepsLanes (rs : List Rect) : ∀ s : State,
    (∀ r ∈ rs, ∀ a, a < 8 → (s.lane a).state ≠ .free → rectOverlaps r (s.lane a).rect = false) →
    KeepsLanes s (rs.foldl (fun s r => addUncertain r s) s) := by
  induction rs with
  | nil => exact fun s _ => .refl s
  | cons r rs ih =>
    intro s h
    refine (addUncertain_keepsLanes (h r List.mem_cons_self)).trans (ih _ fun q hq a ha hb => ?_)
    obtain ⟨hs, hrect, -⟩ := (addUncertain_fades r s).busy a ha hb
    rw [hrect]; exact h q (List.mem_cons_of_mem _ hq) a ha hs

/-! ### Starting -/

theorem startLane_lane_same {n : Nat} (e : PendingEntry) (s : State) (hn : n < 8) : (startLane n e s).lane n =
    { state := .preparing, tag := e.tag, origin := e.origin, rect := e.rect, keepLeaf := e.keepLeaf, shows := e.shows,
      slot := (startChoice e s).2.1, selection := (startChoice e s).1, promoted := (startChoice e s).2.2,
      source := e.source, blocks := (s.cache.handOver e.source).1, background := (s.cache.handOver e.source).2 } := by
  simp only [startLane]
  rw [onLane_lane_same _ _ hn]
  split <;> rfl

theorem startLane_lane_other {n k : Nat} (e : PendingEntry) (s : State) (h : k ≠ n) : (startLane n e s).lane k = s.lane k := by
  simp only [startLane]
  rw [onLane_lane_other _ _ h]
  split <;> rfl

/-- What of the engine is not lanes stays as a lane starts. -/
theorem startLane_rest (n : Nat) (e : PendingEntry) (s : State) : (startLane n e s).engine.uncertain = s.engine.uncertain ∧
    (startLane n e s).engine.whole = s.engine.whole ∧ (startLane n e s).engine.pending = s.engine.pending := by
  simp only [startLane]
  split <;> exact ⟨rfl, rfl, rfl⟩

/-- An entry asks for CHANGED only where nothing is uncertain (R42). -/
theorem startChoice_changed {e : PendingEntry} {s : State} (h : (startChoice e s).1 = .changed) :
    s.engine.uncertainOver e.rect = false := by
  simp only [startChoice] at h
  split at h
  · cases h
  · split at h
    · cases h
    · split at h
      · cases h
      next hu => exact Bool.eq_false_iff.2 hu

/-- What lets an entry start (R41). -/
theorem startsOn_some {e : PendingEntry} {ahead : List PendingEntry} {n : Nat} {s : State} (h : startsOn e ahead s = some n) :
    s.rail.mode ≠ .fault ∧ s.engine.busyOver e.rect = false ∧ (∀ a ∈ ahead, rectOverlaps a.rect e.rect = false) ∧
      s.engine.freeLane? = some n := by
  rw [startsOn] at h
  split at h
  · cases h
  next hc =>
    simp only [Bool.or_eq_true, decide_eq_true_eq, List.any_eq_true, not_or, not_exists, not_and, Bool.not_eq_true] at hc
    exact ⟨hc.1.1, hc.1.2, hc.2, h⟩

/-- A lane that starts overlaps no busy lane, and works CHANGED only off uncertain ground. -/
theorem startLane_keepsLanes {n : Nat} {e : PendingEntry} {ahead : List PendingEntry} {s : State}
    (h : startsOn e ahead s = some n) : KeepsLanes s (startLane n e s) := by
  obtain ⟨-, hbusy, -, hfree⟩ := startsOn_some h
  obtain ⟨hn, -, -⟩ := (freeLane?_iff s n).1 hfree
  rw [busyOver_false_iff] at hbusy
  have hsame := startLane_lane_same e s hn
  refine ⟨fun hs => ⟨fun a b ha hb hab hta htb => ?_, fun a ha hheld => ?_⟩, fun _ hs a ha hta hsel => ?_⟩
  · by_cases han : a = n
    · subst han
      rw [startLane_lane_other e s hab.symm] at htb ⊢
      rw [hsame, rectOverlaps_comm]; exact hbusy b hb htb
    · rw [startLane_lane_other e s han] at hta ⊢
      by_cases hbn : b = n
      · subst hbn; rw [hsame]; exact hbusy a ha hta
      · rw [startLane_lane_other e s hbn] at htb ⊢
        exact hs.1 a b ha hb hab hta htb
  · by_cases han : a = n
    · subst han; rw [hsame] at hheld; cases hheld
    · rw [startLane_lane_other e s han] at hheld ⊢; exact hs.2 a ha hheld
  · obtain ⟨hu, hw, -⟩ := startLane_rest n e s
    rw [hu, hw]
    by_cases han : a = n
    · subst han
      rw [hsame] at hsel ⊢
      exact (uncertainOver_false_iff _ _).1 (startChoice_changed hsel)
    · rw [startLane_lane_other e s han] at hta hsel ⊢; exact hs a ha hta hsel

theorem walkFrom_keepsLanes (es : List PendingEntry) : ∀ ahead s, KeepsLanes s (walkFrom ahead es s) := by
  induction es with
  | nil => exact fun ahead s => .of_same rfl rfl rfl
  | cons e es ih =>
    intro ahead s
    rw [walkFrom]
    split
    · exact (startLane_keepsLanes ‹_›).trans (ih ahead _)
    · exact ih _ s

theorem walk_keepsLanes (s : State) : KeepsLanes s (walk s) := walkFrom_keepsLanes _ [] s

theorem appendEntry_keepsLanes (e : PendingEntry) (s : State) : KeepsLanes s (appendEntry e s) := by
  have h : (appendEntry e s).engine = { s.engine with pending := s.engine.pending ++ [e] } := useSource_engine _ _
  refine .of_same ?_ ?_ ?_ <;> rw [h]

/-! ### Turns -/

theorem submitTurn_keepsLanes (d : TurnDir) (t : Nat) (s : State) : KeepsLanes s (submitTurn d t s) := by
  simp only [submitTurn]
  split
  · exact .of_engine (raise_engine _ s)
  · split
    · exact .of_engine (raise_engine _ s)
    · exact (appendEntry_keepsLanes _ s).trans ((walk_keepsLanes _).trans (.of_engine (lightActivity_engine _)))

theorem takeTurnTo_keepsLanes (d : TurnDir) (t : Nat) (s : State) : KeepsLanes s (takeTurnTo d t s) := by
  rw [takeTurnTo]
  split
  · exact .of_engine (raise_engine _ s)
  · exact .ite _ (fun _ => .of_engine (raise_engine _ s)) fun _ => submitTurn_keepsLanes d t s

theorem resolveTurn_keepsLanes (d : TurnDir) (wanted : Nat → Nat) (s : State) : KeepsLanes s (resolveTurn d wanted s) := by
  refine .ite _ (fun _ => .of_engine (raise_engine _ s)) fun _ => ?_
  split
  · exact .of_engine (raise_engine _ s)
  · exact .ite _ (fun _ => .of_engine (raise_engine _ s)) fun _ => takeTurnTo_keepsLanes d _ s

theorem turnRequest_keepsLanes (d : TurnDir) (s : State) : KeepsLanes s (turnRequest d s) := by
  refine .ite _ (fun _ => .of_engine (raise_engine _ s)) fun _ => ?_
  split
  · exact .of_engine rfl
  · exact resolveTurn_keepsLanes d _ s

theorem resolveDeferred_keepsLanes (s : State) : KeepsLanes s (resolveDeferred s) := by
  rw [resolveDeferred]
  split
  · exact .refl s
  · have hcache : KeepsLanes s (s.onCache fun c => { c with deferred := none }) := .of_engine rfl
    exact hcache.trans (resolveTurn_keepsLanes _ _ _)

theorem turnDone_keepsLanes (l : Lane) (s : State) : KeepsLanes s (turnDone l s) := by
  simp only [turnDone]
  split
  · exact .refl s
  · refine (KeepsLanes.of_engine ?_).trans (resolveDeferred_keepsLanes _)
    exact (raiseAll_engine _ _).trans (raise_engine _ (s.onCache _))

/-! ### Frames -/

theorem joinLane_keepsLanes (n : Nat) (s : State) : KeepsLanes s (joinLane n s) := by
  refine .ite _ (fun h => ?_) fun _ => .refl s
  refine (onLane_keepsLanes n (fun x => { x with state := .driving, index := 0 }) s (fun _ => by simp [h]) rfl rfl ?_).trans
    (.of_engine rfl)
  exact fun hp hb => absurd (hp hb) (by simp [h])

theorem driveFrame_engine (s : State) : (driveFrame s).engine = { s.engine with
    panel := s.engine.lanes.toList.flatMap s.laneDrive, load := (s.engine.lanes.toList.map s.laneLoad).sum } :=
  rebudget_engine _ (s.onEngine _)

/-- The lanes after a frame has been driven (R47, R61). -/
def State.advanced (s : State) : State :=
  s.onEngine (fun e => { e with lanes := e.lanes.map Lane.advance, scan := some e.framePeriod })

theorem advanced_lane (s : State) (n : Nat) : s.advanced.lane n = (s.lane n).advance := by
  rcases Nat.lt_or_ge n 8 with hn | hn
  · simp [State.advanced, State.lane, recordAt, hn]
  · rw [lane_beyond _ hn, lane_beyond _ hn]; rfl

theorem Lane.advance_eq (l : Lane) : ∃ i, l.advance = { l with index := i } := by
  rw [Lane.advance]
  split
  · exact ⟨_, rfl⟩
  · exact ⟨l.index, rfl⟩

theorem advanced_keepsLanes (s : State) : KeepsLanes s s.advanced := by
  refine (LanesFade.of_lanes fun a _ => ?_).keeps (.of_same rfl rfl)
  obtain ⟨i, hi⟩ := (s.lane a).advance_eq
  rw [advanced_lane, hi]
  by_cases h : (s.lane a).state = .free
  · rw [Lane.advance, if_neg (by simp [h])] at hi; exact .inl hi.symm
  · exact .inr (.inr ⟨h, rfl, rfl, id⟩)

theorem completedLane_keepsLanes (l : Lane) (s : State) : KeepsLanes s (completedLane l s) := by
  rw [completedLane]
  split
  · refine .of_engine (Eq.trans ?_ (raise_engine (.updateDone l.tag .done l.promoted) s))
    exact engine_ite _ (fun _ => rfl) fun _ => rfl
  · exact turnDone_keepsLanes l s

/-- A completed ALL lane makes ground certain (R58). -/
theorem clearUncertain_keepsLanes (r : Rect) (s : State) : KeepsLanes s (s.onEngine (fun e => e.clearUncertain r)) := by
  have hfade : LanesFade s (s.onEngine (fun e => e.clearUncertain r)) := .of_same rfl
  refine hfade.keeps ⟨fun h => ?_, fun u hu => ?_⟩
  · exact (Bool.and_eq_true_iff.1 h).1
  · have hu : u ∈ s.engine.uncertain.filter (fun q => !rectContains r q) := hu
    exact (List.mem_filter.1 hu).1

theorem completeLane_keepsLanes (n : Nat) (s : State) : KeepsLanes s (completeLane n s) := by
  refine .ite _ (fun _ => ?_) fun _ => .refl s
  refine KeepsLanes.trans ?_ ((completedLane_keepsLanes _ _).trans (freeLane_keepsLanes true n _))
  have hmem : KeepsLanes s (s.onMem fun m => m.setPixels (shownBlocks s.pool.geometry)
      ((s.lanePixels (s.lane n)).map (fun p => (p.1, p.2.2)))) := .of_engine rfl
  exact .ite _ (fun _ => hmem.trans (clearUncertain_keepsLanes _ _)) fun _ => hmem

theorem stopScan_keepsLanes (s : State) : KeepsLanes s (stopScan s) := by
  refine .of_same ?_ ?_ ?_ <;> rw [stopScan_engine]

theorem runFrame_keepsLanes (s : State) : KeepsLanes s (runFrame s) := by
  have hjoin := eachLane_keepsLanes joinLane joinLane_keepsLanes s
  have hdrive : KeepsLanes (eachLane joinLane s) (driveFrame (eachLane joinLane s)) := by
    refine .of_same ?_ ?_ ?_ <;> rw [driveFrame_engine]
  have hadvance := (hjoin.trans hdrive).trans (advanced_keepsLanes _)
  have hcomplete := hadvance.trans (eachLane_keepsLanes completeLane completeLane_keepsLanes _)
  unfold runFrame
  exact (hcomplete.trans (walk_keepsLanes _)).trans (.ite _ (fun _ => .refl _) fun _ => stopScan_keepsLanes _)

/-! ### The rails -/

/-- The lanes may be taken to stand apart where they are to be kept. -/
theorem KeepsLanes.of_apart {s t : State} (h : s.lanesApart → KeepsLanes s t) : KeepsLanes s t :=
  ⟨fun hs => (h hs).apart hs, fun hs => (h hs).ground hs⟩

theorem reportOn_keepsLanes (s : State) : KeepsLanes s (reportOn s) :=
  .ite _ (fun _ => runFrame_keepsLanes s) fun _ => .refl s

theorem endRise_keepsLanes (s : State) : KeepsLanes s (endRise s) := by
  have hrail : KeepsLanes s (setRail .on (s.onRail (fun r => { r with rise := none }))) := .of_engine (setRail_engine _ _)
  exact hrail.trans (.ite _ (fun _ => .of_engine (enterHold_engine _)) fun _ => reportOn_keepsLanes _)

theorem startRise_keepsLanes (s : State) : KeepsLanes s (startRise s) := by
  have hrail : KeepsLanes s (setRail .rising (s.onRail (fun r => { r with rise := some r.riseTime }))) :=
    .of_engine (setRail_engine _ _)
  exact hrail.trans (.ite _ (fun _ => endRise_keepsLanes _) fun _ => .refl _)

theorem laneArmed_keepsLanes (s : State) : KeepsLanes s (laneArmed s) := by
  have hcount : KeepsLanes s (s.onRail (fun r => { r with armed := r.armed + 1 })) := .of_engine rfl
  have hheld (t : State) : KeepsLanes t (setRail .on (t.onRail (fun r => { r with hold := none }))) :=
    .of_engine (setRail_engine _ _)
  refine hcount.trans ?_
  unfold laneArmed
  dsimp only
  split
  · exact startRise_keepsLanes _
  · exact .refl _
  · exact reportOn_keepsLanes _
  · exact (hheld _).trans (reportOn_keepsLanes _)
  · exact .refl _
  · exact .refl _

theorem endFall_keepsLanes (s : State) : KeepsLanes s (endFall s) := by
  have hrail : KeepsLanes s (setRail .off (s.onRail (fun r => { r with fall := none }))) := .of_engine (setRail_engine _ _)
  exact hrail.trans (.ite _ (fun _ => .refl _) fun _ => startRise_keepsLanes _)

/-! ### Lanes that stop as they drive -/

theorem mem_drivingRects {e : EngineState} {r : Rect} (h : r ∈ drivingRects e) :
    ∃ n, n < 8 ∧ (recordAt e.lanes n {}).state = .driving ∧ (recordAt e.lanes n {}).rect = r := by
  obtain ⟨l, hl, rfl⟩ := List.mem_map.1 h
  obtain ⟨hmem, hdrives⟩ := List.mem_filter.1 hl
  obtain ⟨n, hn, rfl⟩ := List.mem_iff_getElem.1 hmem
  have hn : n < 8 := by simpa using hn
  have he : recordAt e.lanes n {} = e.lanes.toList[n] := by simp [recordAt, hn]
  exact ⟨n, hn, by simpa [he] using hdrives, by rw [he]⟩

/-- A lane that an entry to FAULT ends (R59). -/
def endArmed (n : Nat) (s : State) : State := if (s.lane n).armed then endLane n .railFault .rail s else s

theorem endArmed_lane_other (n k : Nat) (s : State) (h : k ≠ n) : (endArmed n s).lane k = s.lane k := by
  rw [endArmed]
  split
  · exact endLane_lane_other _ _ s h
  · rfl

theorem endArmed_lane_same (n : Nat) (s : State) : (endArmed n s).lane n = if (s.lane n).armed then {} else s.lane n := by
  rw [endArmed]
  split
  · exact endLane_lane_same _ _ _ s
  · rfl

theorem endArmed_keepsLanes (n : Nat) (s : State) : KeepsLanes s (endArmed n s) :=
  .ite _ (fun _ => endLane_keepsLanes n _ _ s) fun _ => .refl s

theorem endArmed_lane (s : State) {k : Nat} (hk : k < 8) :
    (eachLane endArmed s).lane k = if (s.lane k).armed then {} else s.lane k := by
  obtain ⟨u, hu, he⟩ := eachLane_lane endArmed endArmed_lane_other s hk
  rw [he, endArmed_lane_same, hu]

theorem faultLanes_eq (s : State) : faultLanes s =
    let t := (drivingRects s.engine).foldl (fun s r => addUncertain r s) (eachLane endArmed s)
    if t.engine.scan.isSome then stopScan t else t := rfl

/-- A fault ends the lanes that were driving before their rectangles become uncertain (R59). -/
theorem faultLanes_keepsLanes (s : State) : KeepsLanes s (faultLanes s) := by
  refine .of_apart fun hs => ?_
  rw [faultLanes_eq]
  refine (eachLane_keepsLanes endArmed endArmed_keepsLanes s).trans ((addUncertains_keepsLanes _ _ fun r hr a ha hbusy => ?_).trans
    (.ite _ (fun _ => stopScan_keepsLanes _) fun _ => .refl _))
  obtain ⟨n, hn, hdrives, rfl⟩ := mem_drivingRects hr
  have hdrives : (s.lane n).state = .driving := hdrives
  rw [endArmed_lane s ha] at hbusy ⊢
  split at hbusy
  · exact absurd rfl hbusy
  next hkept =>
    rw [if_neg hkept]
    have hne : n ≠ a := by rintro rfl; exact hkept (by simp [Lane.armed, hdrives])
    exact hs.1 n a hn ha hne (by simp [hdrives]) hbusy

theorem enterFault_keepsLanes (c : FaultCause) (s : State) : KeepsLanes s (enterFault c s) := by
  have hrail : KeepsLanes s (s.onRail (fun r => { r with mode := .fault, cause := some c, rise := none, hold := none, fall := none })) :=
    .of_engine rfl
  exact (hrail.trans ((faultLanes_keepsLanes _).trans (walk_keepsLanes _))).trans
    (.of_engine ((engineNotify_engine _).trans ((raise_engine _ _).trans (rebudget_engine _ _))))

/-! ### Bands -/

theorem answerBand_keepsLanes {n : Nat} {s : State} (h : n < 8 → (s.lane n).state ≠ .free) : KeepsLanes s (answerBand n s) := by
  refine .ite _ (fun _ => (endLane_keepsLanes n _ _ s).trans (walk_keepsLanes _)) fun _ => ?_
  exact (onLane_keepsLanes n _ s h rfl rfl fun _ hb => by cases hb).trans (laneArmed_keepsLanes _)

theorem askBand_keepsLanes {n : Nat} {s : State} (h : (s.lane n).state = .preparing) : KeepsLanes s (askBand n s) := by
  rw [askBand]
  split
  · exact onLane_keepsLanes n _ s (fun _ => by simp [h]) rfl rfl fun _ _ => h
  next t _ =>
    have hband : (if (s.slot (s.lane n).slot).band.isNone then selectBand t (s.lane n).slot s else s).engine = s.engine :=
      engine_ite _ (fun _ => selectBand_engine _ _ s) fun _ => rfl
    refine (KeepsLanes.of_engine hband).trans (answerBand_keepsLanes fun _ => ?_)
    rw [lane_of_engine hband, h]; simp

theorem answerHeld_keepsLanes (s : State) : KeepsLanes s (answerHeld s) := by
  refine eachLane_keepsLanes _ (fun n s => .ite _ (fun hheld => ?_) fun _ => .refl s) s
  refine .of_apart fun hs => answerBand_keepsLanes fun hn => ?_
  rw [hs.2 n hn hheld]; simp

/-! ### Keys and waking -/

theorem keyNotice_engine (c : KeyConfig) (e : KeyEvent) (s : State) : (keyNotice c e s).engine = s.engine := by
  cases e with
  | press =>
    exact engine_ite _ (fun _ => settle_engine false s) fun _ => engine_ite _ (fun _ => activityNotice_engine s) fun _ => rfl
  | release => exact engine_ite _ (fun _ => cancelSettling_engine false s) fun _ => rfl
  | again => rfl

theorem keyRequest_keepsLanes (c : KeyConfig) (e : KeyEvent) (s : State) : KeepsLanes s (keyRequest c e s) := by
  refine .ite _ (fun _ => .refl s) fun _ => ?_
  cases c.action with
  | turnNext => exact (turnRequest_keepsLanes .next s).trans (.of_engine (engineNotify_engine _))
  | turnPrev => exact (turnRequest_keepsLanes .prev s).trans (.of_engine (engineNotify_engine _))
  | lightUp => exact .of_engine (lightRequest_engine _ s)
  | lightDown => exact .of_engine (lightRequest_engine _ s)
  | none => exact .refl s
  | report => exact .refl s
  | sleep => exact .refl s
  | cover => exact .refl s

theorem keyEvent_keepsLanes (k : Nat) (e : KeyEvent) (time : Nat) (s : State) : KeepsLanes s (keyEvent k e time s) := by
  refine (KeepsLanes.of_engine ?_).trans (keyRequest_keepsLanes (s.key k).config e _)
  exact (keyNotice_engine _ _ _).trans (engine_ite _ (fun _ => (raise_engine _ _).trans (lightActivity_engine s))
    fun _ => lightActivity_engine s)

theorem onKey_keepsLanes (k : Nat) (f : KeyInput → KeyInput) (s : State) : KeepsLanes s (onKey k f s) := .of_engine rfl

theorem pressKey_keepsLanes (k time : Nat) (s : State) : KeepsLanes s (pressKey k time s) :=
  (onKey_keepsLanes k _ s).trans (keyEvent_keepsLanes k .press time _)

theorem releaseKey_keepsLanes (k time : Nat) (s : State) : KeepsLanes s (releaseKey k time s) :=
  (onKey_keepsLanes k _ s).trans (keyEvent_keepsLanes k .release time _)

theorem repeatKey_keepsLanes (k : Nat) (s : State) : KeepsLanes s (repeatKey k s) :=
  (onKey_keepsLanes k _ s).trans (keyEvent_keepsLanes k .again _ _)

theorem acceptLevel_keepsLanes (k : Nat) (l : Level) (s : State) : KeepsLanes s (acceptLevel k l s) := by
  have hkey : KeepsLanes s (onKey k (fun i => { i with debounce := none, debounced := (s.key k).meaning l }) s) := .of_engine rfl
  refine hkey.trans (.ite _ (fun _ => ?_) fun _ => .ite _ (fun _ => .of_engine rfl) fun _ => .refl _)
  exact .ite _ (fun _ => pressKey_keepsLanes _ _ _) fun _ => releaseKey_keepsLanes _ _ _

theorem rawChanged_engine (k : Nat) (l : Level) (s : State) : (rawChanged k l s).engine = s.engine := by
  refine engine_ite _ (fun _ => rfl) fun _ => ?_
  split
  · rfl
  · rfl
  · rfl
  · simp only [senseChange]
    split
    · rfl
    · exact engine_ite _ (fun _ => rfl) fun _ => rfl
    · exact engine_ite _ (fun _ => beginWaking_engine _ _) fun _ => rfl
  · rfl

theorem deliverLatched_keepsLanes (k time : Nat) (s : State) : KeepsLanes s (deliverLatched k time s) := by
  refine .ite _ (fun _ => ?_) fun _ => ?_
  · exact (releaseKey_keepsLanes _ _ _).trans (.ite _ (fun _ => pressKey_keepsLanes _ _ _) fun _ => .refl _)
  · exact (pressKey_keepsLanes _ _ _).trans (.ite _ (fun _ => .refl _) fun _ => releaseKey_keepsLanes _ _ _)

theorem keysAwake_keepsLanes (s : State) : KeepsLanes s (keysAwake s) := by
  rw [keysAwake]
  split
  · exact .of_engine rfl
  next k time _ =>
    have hlatch : KeepsLanes s (s.onKeys (fun u => { u with latch := none })) := .of_engine rfl
    exact (hlatch.trans (deliverLatched_keepsLanes k time _)).trans (.ite _ (fun _ => .of_engine rfl) fun _ => .refl _)

theorem reportSleptBattery_engine (s : State) : (reportSleptBattery s).engine = s.engine :=
  engine_ite _ (fun _ => reportLowBattery_engine s) fun _ => rfl

theorem reported_engine (s : State) : s.reported.engine = s.engine :=
  (reportSleptBattery_engine _).trans ((onWave_engine _ _).trans ((handSignals_engine s.roused).trans (roused_frame s).engine))

theorem completeWaking_keepsLanes (s : State) : KeepsLanes s (completeWaking s) := by
  have hwakened : KeepsLanes s s.wakened := .of_engine ((lightEvent_engine _ s.reported).trans (reported_engine s))
  have hlast : KeepsLanes (keysAwake s.wakened) (engineNotify ((keysAwake s.wakened).onPower PowerState.recheckDoze)) :=
    .of_engine (engineNotify_engine _)
  rw [completeWaking_eq]
  exact (hwakened.trans (keysAwake_keepsLanes _)).trans hlast

/-! ### Packets -/

theorem popPacket_engine (i : Instr) (s : State) : (popPacket i s).engine = s.engine := by
  rw [popPacket_eq]; rfl

theorem takePacket_keepsLanes (i : Instr) (owner : State → State) (s : State) (h : ∀ s, KeepsLanes s (owner s)) :
    KeepsLanes s (takePacket i owner s) :=
  .ite _ (fun _ => (KeepsLanes.of_engine (popPacket_engine i s)).trans (h _)) fun _ => .refl s

theorem withReplyPlace_keepsLanes (owner : State → State) (s : State) (h : ∀ s, KeepsLanes s (owner s)) :
    KeepsLanes s (withReplyPlace owner s) := by
  have hplace : KeepsLanes s (s.onLink (fun l => { l with reserved := true })) := .of_engine rfl
  exact .ite _ (fun _ => hplace.trans (h _)) fun _ => .of_engine rfl

theorem takeCommand_keepsLanes {α : Type} (i : Instr) (code tag : Nat) (b : Body α) (owner : α → State → State) (s : State)
    (h : ∀ a s, KeepsLanes s (owner a s)) : KeepsLanes s (takeCommand i code tag b owner s) := by
  refine takePacket_keepsLanes i _ s fun s => withReplyPlace_keepsLanes _ s fun s => ?_
  cases b with
  | fields a => exact h a s
  | badLength => exact .of_engine rfl
  | badParam => exact .of_engine rfl

/-- A command whose owner leaves the update engine alone. -/
theorem takeCommand_keepsLanes_of_engine {α : Type} (i : Instr) (code tag : Nat) (b : Body α) (owner : α → State → State)
    (s : State) (h : ∀ a s, (owner a s).engine = s.engine) : KeepsLanes s (takeCommand i code tag b owner s) :=
  takeCommand_keepsLanes i code tag b owner s fun a s => .of_engine (h a s)

/-! ### Updates -/

theorem hostUpdate_keepsLanes (code tag : Nat) (a : UpdateArgs) (s : State) : KeepsLanes s (hostUpdate code tag a s) := by
  rw [hostUpdate]
  split
  · exact .of_engine rfl
  · have htold : KeepsLanes (appendEntry (hostEntry tag a) s)
        (reply code tag .accepted (lightActivity (appendEntry (hostEntry tag a) s))) := .of_engine (lightActivity_engine _)
    exact (((appendEntry_keepsLanes _ s).trans htold).trans (walk_keepsLanes _)).trans (.of_engine (engineNotify_engine _))

/-- The lane that a cancel ends is the lowest-numbered match (R53). -/
theorem cancelLane_iff (tag n : Nat) (s : State) : cancelLane tag s = some n ↔ n < 8 ∧
    ((s.lane n).state ≠ .free ∧ (s.lane n).origin = .host ∧ (s.lane n).tag = tag) ∧
    ∀ k, k < n → ¬((s.lane k).state ≠ .free ∧ (s.lane k).origin = .host ∧ (s.lane k).tag = tag) := by
  simp only [cancelLane, List.find?_range_eq_some, Bool.and_eq_true, decide_eq_true_eq, List.mem_range, Bool.not_eq_eq_eq_not,
    Bool.not_true, Bool.and_eq_false_iff, decide_eq_false_iff_not, not_and_or, and_assoc, or_assoc]
  tauto

theorem cancelOnLane_keepsLanes {tag n : Nat} {s : State} (hn : n < 8) (hbusy : (s.lane n).state ≠ .free) :
    KeepsLanes s (cancelOnLane tag n s) := by
  refine .of_apart fun hs => ?_
  have htold : (raise (.updateDone tag .cancelled (s.lane n).promoted) (reply 0x31 tag .ok (freeLane false n s))).engine =
      (freeLane false n s).engine := (raise_engine _ _).trans (reply_engine _ _ _ _)
  refine (freeLane_keepsLanes false n s).trans ((KeepsLanes.of_engine htold).trans ?_)
  refine (KeepsLanes.ite _ (fun _ => addUncertain_keepsLanes fun a ha hb => ?_) fun _ => .refl _).trans
    ((walk_keepsLanes _).trans (.of_engine (engineNotify_engine _)))
  rw [lane_of_engine htold] at hb ⊢
  by_cases han : a = n
  · subst han; rw [freeLane_lane_same] at hb; exact absurd rfl hb
  · rw [freeLane_lane_other false s han] at hb ⊢
    exact hs.1 n a hn ha (Ne.symm han) hbusy hb

theorem cancelEntry_keepsLanes (tag : Nat) (e : PendingEntry) (rest : List PendingEntry) (s : State) :
    KeepsLanes s (cancelEntry tag e rest s) := by
  have hqueue : KeepsLanes s (s.onEngine (fun g => { g with pending := rest })) := .of_same rfl rfl rfl
  refine hqueue.trans ((KeepsLanes.of_engine ?_).trans ((walk_keepsLanes _).trans (.of_engine (engineNotify_engine _))))
  exact (raise_engine _ _).trans (unuseSource_engine e.source (unuseSlot e.slot _))

theorem ownUpdateCancel_keepsLanes (tag : Nat) (s : State) : KeepsLanes s (ownUpdateCancel tag s) := by
  rw [ownUpdateCancel]
  split
  next n hn =>
    obtain ⟨hlt, ⟨hbusy, -, -⟩, -⟩ := (cancelLane_iff tag n s).1 hn
    exact cancelOnLane_keepsLanes hlt hbusy
  · split
    · exact cancelEntry_keepsLanes tag _ _ s
    · exact .of_engine rfl

theorem ownShowLeaf_keepsLanes (tag : Nat) (a : ShowLeafArgs) (s : State) : KeepsLanes s (ownShowLeaf tag a s) := by
  rw [ownShowLeaf]
  split
  · exact .of_engine rfl
  · exact hostUpdate_keepsLanes _ _ _ s

/-! ### Geometry and resets -/

/-- A new geometry is taken only with every lane FREE (R7). -/
theorem ownPanelSetup_keepsLanes (tag : Nat) (a : PanelArgs) (s : State) : KeepsLanes s (ownPanelSetup tag a s) := by
  have hreply (st : Status) : KeepsLanes s (reply 0x10 tag st s) := .of_engine rfl
  refine .ite _ (fun _ => hreply _) fun _ => .ite _ (fun _ => hreply _) fun _ => .ite _ (fun _ => ?_) fun _ => hreply _
  refine .ite _ (fun _ => hreply _) fun hidle => LanesFade.keeps_of_free (.of_same rfl) ?_
  rw [holdsPlaneUsers_iff] at hidle
  intro n hn
  by_contra hbusy
  exact hidle (.inr (.inl ⟨n, hn, hbusy⟩))

theorem resetLane_lane_other (n k : Nat) (s : State) (h : k ≠ n) : (resetLane n s).lane k = s.lane k := by
  simp only [resetLane]
  split
  · rfl
  · split
    · exact (lane_of_engine (raise_engine _ _) k).trans (freeLane_lane_other false s h)
    · exact freeLane_lane_other false s h

theorem resetLane_lane_same (n : Nat) (s : State) : ((resetLane n s).lane n).state = .free := by
  simp only [resetLane]
  split
  · assumption
  · split
    · rw [lane_of_engine (raise_engine _ _), freeLane_lane_same]
    · rw [freeLane_lane_same]

theorem resetLane_fades (n : Nat) (s : State) : LanesFade s (resetLane n s) := by
  simp only [resetLane]
  split
  · exact .of_same rfl
  · split
    · exact (freeLane_fades false n s).trans (.of_same (by rw [raise_engine]))
    · exact freeLane_fades false n s

theorem foldl_fades {α : Type} (f : State → α → State) (h : ∀ s a, LanesFade s (f s a)) (l : List α) :
    ∀ s, LanesFade s (l.foldl f s) := by
  induction l with
  | nil => exact fun s => .of_same rfl
  | cons a l ih => exact fun s => (h s a).trans (ih _)

theorem eachLane_fades (f : Nat → State → State) (h : ∀ n s, LanesFade s (f n s)) (s : State) : LanesFade s (eachLane f s) :=
  foldl_fades _ (fun s n => h n s) _ s

theorem resetEntry_engine (e : PendingEntry) (s : State) : (resetEntry e s).engine = s.engine := by
  have hunused := unuseSource_engine e.source (unuseSlot e.slot s)
  simp only [resetEntry]
  split
  · exact (raise_engine _ _).trans hunused
  · exact hunused

/-- Lanes that are FREE stay so while the lanes fade. -/
theorem LanesFade.free {s t : State} (h : LanesFade s t) (hs : ∀ a, a < 8 → (s.lane a).state = .free) (a : Nat) (ha : a < 8) :
    (t.lane a).state = .free := by
  by_contra hb
  exact (h.busy a ha hb).1 (hs a ha)

theorem onPending_fades (es : List PendingEntry) (s : State) : LanesFade s (s.onEngine (fun g => { g with pending := es })) :=
  .of_same rfl

theorem resetEngine_keepsLanes (s : State) : KeepsLanes s (resetEngine s) := by
  have hlanes := eachLane_fades resetLane resetLane_fades s
  have hfree : ∀ a, a < 8 → ((eachLane resetLane s).lane a).state = .free := by
    intro a ha
    obtain ⟨u, -, he⟩ := eachLane_lane resetLane resetLane_lane_other s ha
    rw [he, resetLane_lane_same]
  have hrest := ((onPending_fades [] (eachLane resetLane s)).trans (foldl_fades (fun s e => resetEntry e s)
    (fun s e => .of_same (by rw [resetEntry_engine])) s.engine.pending _)).trans
      (foldl_fades (fun s r => addUncertain r s) (fun s r => addUncertain_fades r s) (drivingRects s.engine) _)
  have hkeeps := ((hlanes.trans hrest).keeps_of_free (hrest.free hfree)).trans (stopScan_keepsLanes _)
  rw [resetEngine]
  exact hkeeps

theorem resetCache_engine (s : State) : (resetCache s).engine = s.engine :=
  foldl_keeps State.engine (fun s l => removeLeaf l s) (fun s l => removeLeaf_engine l s) _ s

theorem resetStreams_engine (s : State) : (resetStreams s).engine = s.engine := handSignals_engine _

theorem resetAll_keepsLanes (tag : Nat) (s : State) : KeepsLanes s (resetAll tag s) := by
  have hbefore : (abandonLoad (reply 0xB4 tag .ok (emptyQueue s))).engine = s.engine :=
    (abandonLoad_engine _).trans (reply_engine 0xB4 tag .ok (emptyQueue s))
  have hafter (t : State) : KeepsLanes t (engineNotify (resetStreams (((resetCache t).onKeys resetKeys).onRadio resetRadio))) :=
    .of_engine ((engineNotify_engine _).trans ((resetStreams_engine _).trans (resetCache_engine t)))
  exact (KeepsLanes.of_engine hbefore).trans ((resetEngine_keepsLanes _).trans (hafter _))

theorem freshState_lane (inputs : InputLevels) (s : State) (n : Nat) : (freshState inputs s).lane n = {} := by
  rcases Nat.lt_or_ge n 8 with hn | hn
  · simp [freshState, State.lane, State.reset, recordAt, hn]
  · exact lane_beyond _ hn

theorem announceReset_engine (k : ResetKind) (s : State) : (announceReset k s).engine = s.engine := by
  simp only [announceReset]
  split
  · rw [reportLowBattery_engine, raise_engine]
  · exact raise_engine _ s

/-- From a state with every lane at its power-on value none is at work. -/
theorem LanesFade.of_fresh {s t : State} (h : ∀ n, t.lane n = {}) : LanesFade s t := .of_lanes fun a _ => .inr (.inl (h a))

theorem powerOn_keepsLanes (inputs : InputLevels) (s : State) : KeepsLanes s (announceReset .powerOn (freshState inputs s)) := by
  have hfresh := freshState_lane inputs s
  refine KeepsLanes.trans (LanesFade.keeps_of_free (.of_fresh hfresh) fun n _ => ?_) (.of_engine (announceReset_engine _ _))
  rw [hfresh]

/-- The state in which a pin reset adds the rectangles of the lanes it stopped (R188). -/
def pinState (inputs : InputLevels) (s : State) : State :=
  (handPool (((freshState inputs s).onPool (fun _ => pinPool s.pool)).onMem (fun _ => s.mem))).onEngine
    (fun e => { e with uncertain := s.engine.uncertain, whole := s.engine.whole })

theorem pinReset_keepsLanes (inputs : InputLevels) (s : State) : KeepsLanes s
    (announceReset .pin ((drivingRects s.engine).foldl (fun t r => addUncertain r t) (pinState inputs s))) := by
  have hlane (n : Nat) : (pinState inputs s).lane n = {} :=
    (lane_of_lanes (s := freshState inputs s) rfl n).trans (freshState_lane inputs s n)
  have hadd := foldl_fades (fun t r => addUncertain r t) (fun t r => addUncertain_fades r t) (drivingRects s.engine)
    (pinState inputs s)
  have hfade : LanesFade s (pinState inputs s) := .of_fresh hlane
  refine ((hfade.trans hadd).keeps_of_free (hadd.free fun n _ => ?_)).trans (.of_engine (announceReset_engine _ _))
  rw [hlane]

/-! ### Commands and packets that leave the engine alone -/

theorem ownPoolSetup_engine (tag r : Nat) (s : State) : (ownPoolSetup tag r s).engine = s.engine :=
  engine_ite _ (fun _ => rfl) fun _ => rfl

theorem ownWaveLoad_engine (tag : Nat) (a : WaveLoadArgs) (s : State) : (ownWaveLoad tag a s).engine = s.engine := by
  rw [← abandonLoad_engine s]
  exact engine_ite _ (fun _ => rfl) fun _ => engine_ite _ (fun _ => rfl) fun _ => engine_ite _ (fun _ => rfl) fun _ => rfl

theorem ownWaveAbort_engine (tag : Nat) (s : State) : (match s.wave.load with
    | none => reply 0x21 tag .state s
    | some _ => reply 0x21 tag .ok (abandonLoad s)).engine = s.engine := by
  split
  · rfl
  · exact abandonLoad_engine s

theorem ownWaveDrop_engine (tag n : Nat) (s : State) : (ownWaveDrop tag n s).engine = s.engine := by
  refine engine_ite _ (fun _ => rfl) fun _ => engine_ite _ (fun _ => rfl) fun _ => ?_
  rw [reply_engine, dropSlot]
  split
  · exact abandonLoad_engine s
  · rfl
  · rfl

theorem ownRailSetup_engine (tag : Nat) (a : RailArgs) (s : State) : (ownRailSetup tag a s).engine = s.engine :=
  engine_ite _ (fun _ => rfl) fun _ => rfl

theorem ownRailClear_keepsLanes (tag : Nat) (s : State) : KeepsLanes s (ownRailClear tag s) := by
  refine .ite _ (fun _ => .of_engine rfl) fun _ => .ite _ (fun _ => .of_engine rfl) fun _ => ?_
  have hrail : (reply 0x41 tag .ok (setRail .off (s.onRail (fun r => { r with cause := none })))).engine = s.engine :=
    setRail_engine _ _
  exact (KeepsLanes.of_engine hrail).trans ((walk_keepsLanes _).trans (.of_engine (engineNotify_engine _)))

theorem ownBudgetSetup_engine (tag : Nat) (a : BudgetArgs) (s : State) : (ownBudgetSetup tag a s).engine = s.engine :=
  engine_ite _ (fun _ => rfl) fun _ => engine_ite _ (fun _ => rfl) fun _ => rebudget_engine _ s

theorem ownLeafFill_engine (tag : Nat) (a : LeafFillArgs) (s : State) : (ownLeafFill tag a s).engine = s.engine := by
  refine engine_ite _ (fun _ => rfl) fun _ => engine_ite _ (fun _ => rfl) fun _ => ?_
  split
  · rw [fillNew]
    split
    · rfl
    next vs _ =>
      have hremoved := foldl_keeps State.engine (fun s l => removeLeaf l s) (fun s l => removeLeaf_engine l s) vs s
      exact (raiseAll_engine _ _).trans hremoved
  · exact engine_ite _ (fun _ => rfl) fun _ => rfl

theorem ownLeafClose_engine (tag n : Nat) (s : State) : (ownLeafClose tag n s).engine = s.engine := by
  refine engine_ite _ (fun _ => rfl) fun _ => ?_
  split
  · rfl
  · exact engine_ite _ (fun _ => rfl) fun _ => rfl

theorem ownLeafDrop_engine (tag n : Nat) (s : State) : (ownLeafDrop tag n s).engine = s.engine := by
  refine engine_ite _ (fun _ => rfl) fun _ => ?_
  split
  · rfl
  · exact engine_ite _ (fun _ => rfl) fun _ => rfl

theorem ownDeclare_engine (tag : Nat) (a : ShowLeafArgs) (s : State) : (ownDeclare tag a s).engine = s.engine :=
  engine_ite _ (fun _ => rfl) fun _ => engine_ite _ (fun _ => rfl) fun _ => engine_ite _ (fun _ => rfl) fun _ => rfl

@[simp] theorem setFloor_engine (v : Nat) (s : State) : (setFloor v s).engine = s.engine :=
  engine_ite _ (fun _ => rfl) fun _ => rebudget_engine _ (s.onLight fun l => { l with floor := v })

theorem ownLightSetup_engine (tag : Nat) (a : LightSetupArgs) (s : State) : (ownLightSetup tag a s).engine = s.engine := by
  rw [ownLightSetup]
  split
  · rfl
  · simp only [reply_engine, setFloor_engine, lightEvent_engine]

theorem ownStreamOpen_engine (tag : Nat) (a : StreamOpenArgs) (s : State) : (ownStreamOpen tag a s).engine = s.engine := by
  refine engine_ite _ (fun _ => rfl) fun _ => engine_ite _ (fun _ => rfl) fun _ => ?_
  split
  · rfl
  · exact handSignals_engine _

theorem ownSegmentAdd_engine (tag : Nat) (a : SegmentAddArgs) (s : State) : (ownSegmentAdd tag a s).engine = s.engine := by
  refine engine_ite _ (fun _ => rfl) fun _ => ?_
  split
  · rfl
  · exact engine_ite _ (fun _ => rfl) fun _ => engine_ite _ (fun _ => rfl) fun _ => engine_ite _ (fun _ => rfl) fun _ => rfl

/-- The stream that a command names is its owner's affair. -/
theorem withStream_engine (code tag id : Nat) (f : Nat → State → State) (s : State) (h : ∀ n, (f n s).engine = s.engine) :
    (withStream code tag id f s).engine = s.engine := by
  refine engine_ite _ (fun _ => rfl) fun _ => ?_
  split
  · rfl
  · exact h _

theorem pauseByHost_engine (tag n : Nat) (s : State) : (pauseByHost tag n s).engine = s.engine := by
  have htold (f : StreamRecord → StreamRecord) : (reply 0x92 tag .ok (handSignals (onRecord n f s))).engine = s.engine :=
    handSignals_engine _
  rw [pauseByHost]
  split
  · exact htold _
  · exact htold _
  · exact engine_ite _ (fun _ => rfl) fun _ => htold _
  · rfl
  · rfl
  · rfl

theorem resumeByHost_engine (tag : Nat) (q : Option Nat) (n : Nat) (s : State) : (resumeByHost tag q n s).engine = s.engine := by
  have htold (f : StreamRecord → StreamRecord) : (reply 0x93 tag .ok (handSignals (onRecord n f s))).engine = s.engine :=
    handSignals_engine _
  rw [resumeByHost]
  split
  · exact engine_ite _ (fun _ => rfl) fun _ => htold _
  · exact engine_ite _ (fun _ => rfl) fun _ => htold _
  · exact engine_ite _ (fun _ => rfl) fun _ => htold _
  · rfl
  · rfl
  · rfl

theorem ownStreamResume_engine (tag : Nat) (a : ResumeArgs) (s : State) : (ownStreamResume tag a s).engine = s.engine :=
  engine_ite _ (fun _ => rfl) fun _ => withStream_engine _ _ _ _ s fun n => resumeByHost_engine tag _ n s

theorem ownStreamQuery_engine (tag id : Nat) (s : State) : (ownStreamQuery tag id s).engine = s.engine := by
  refine engine_ite _ (fun _ => rfl) fun _ => ?_
  split
  · rfl
  · rfl

theorem ownDoze_engine (tag : Nat) (d : Option Nat) (s : State) : (ownDoze tag d s).engine = s.engine := by
  simp only [ownDoze]
  split <;> simp only [reply_engine, onPower_engine, setMode_engine]

theorem ownWakeMask_engine (tag : Nat) (ks : List Nat) (s : State) : (ownWakeMask tag ks s).engine = s.engine := by
  rw [ownWakeMask]
  split
  · simp only [reply_engine, recount_engine, onPower_engine]
  · exact reply_engine 0xA2 tag .badParam s

theorem ownUnknown_engine (b : UnknownBody) (s : State) : (ownUnknown b s).engine = s.engine := by
  cases b <;> rfl

theorem ownTileTarget_engine (b : TileBody) (s : State) : (ownTileTarget b s).engine = s.engine := by
  rw [ownTileTarget]
  split
  · exact raise_engine _ s
  · cases b <;> rfl

theorem ownTileLeaf_engine (n : Nat) (r : Rect) (pixels : List Byte) (s : State) : (ownTileLeaf n r pixels s).engine = s.engine := by
  rw [ownTileLeaf]
  split
  · exact raise_engine _ s
  · split
    · rfl
    · rfl

theorem ownTable_engine (body : List Byte) (s : State) : (ownTable body s).engine = s.engine := by
  rw [ownTable]
  split
  · exact raise_engine _ s
  · refine engine_ite _ (fun _ => raise_engine _ s) fun _ => engine_ite _ (fun _ => ?_) fun _ => rfl
    exact engine_ite _ (fun _ => raise_engine _ _) fun _ => raise_engine _ _

/-! ### Transactions -/

theorem discardWrite_engine (c : LinkErrorCause) (s : State) : (discardWrite c s).engine = s.engine := raise_engine _ _

theorem writeByte_engine (b : Byte) (s : State) : (writeByte b s).engine = s.engine := by
  rw [writeByte]
  split
  · simp only
    split
    · rfl
    · exact discardWrite_engine _ s
    · rfl
  all_goals rfl

theorem writeBytes_engine (bytes : List Byte) (s : State) : (bytes.foldl (fun s b => writeByte b s)
    (if s.link.transaction = .begun then beginWrite s else s)).engine = s.engine := by
  refine (foldl_keeps State.engine (fun s b => writeByte b s) (fun s b => writeByte_engine b s) bytes _).trans ?_
  exact engine_ite _ (fun _ => engine_ite _ (fun _ => discardWrite_engine _ s) fun _ => rfl) fun _ => rfl

theorem messageReadOut_engine (e : Entry) (queued : Bool) (s : State) : (messageReadOut e queued s).engine = s.engine := by
  have hqueue : (if queued then recount (s.onLink (fun l => { l with queue := l.queue.tail })) else s).engine = s.engine :=
    engine_ite _ (fun _ => rfl) fun _ => rfl
  cases e with
  | report r => exact hqueue
  | reply r => cases h : r.state <;> simp only [messageReadOut, h] <;> exact hqueue

theorem releaseEffect_engine (t : Transaction) (whole : Bool) (s : State) : (releaseEffect t whole s).engine = s.engine := by
  unfold releaseEffect
  split
  · exact raise_engine _ s
  · exact engine_ite _ (fun _ => messageReadOut_engine _ _ s) fun _ => rfl
  · exact engine_ite _ (fun _ => commitChunk_engine _ s) fun _ => rfl
  all_goals rfl

/-! ### Every row -/

/-- A row that keeps the lanes apart, and the CHANGED ones off uncertain ground. -/
def RowKeepsLanes (s : State) (o : Host.Outcome State Fault Refusal) : Prop := ∀ t, o = .next t → KeepsLanes s t

theorem KeepsLanes.row {s t : State} (h : KeepsLanes s t) : RowKeepsLanes s (.next t) := by
  rintro u ⟨⟩; exact h

theorem RowKeepsLanes.of_engine {s t : State} (h : t.engine = s.engine) : RowKeepsLanes s (.next t) := (KeepsLanes.of_engine h).row

/-- A command whose owner leaves the update engine alone. -/
theorem RowKeepsLanes.command {α : Type} {i : Instr} {code tag : Nat} {b : Body α} {owner : α → State → State} {s : State}
    (h : ∀ a s, (owner a s).engine = s.engine) : RowKeepsLanes s (.next (takeCommand i code tag b owner s)) :=
  (takeCommand_keepsLanes_of_engine i code tag b owner s h).row

theorem packet_keepsLanes {i : Instr} {owner : State → State} {s : State} (h : ∀ s, (owner s).engine = s.engine) :
    RowKeepsLanes s (.next (takePacket i owner s)) := (takePacket_keepsLanes i owner s fun s => .of_engine (h s)).row

theorem execPreparingEnd_keepsLanes (n : Nat) (s : State) : RowKeepsLanes s (execPreparingEnd n s) := by
  refine (KeepsLanes.ite _ (fun h => ?_) fun _ => .refl s).row
  simp only [Bool.and_eq_true, decide_eq_true_eq, Bool.not_eq_eq_eq_not, Bool.not_true] at h
  obtain ⟨hprep, hheld⟩ := h
  have hhist : KeepsLanes s (onLane n (fun x => { x with hist := histogram (s.lanePixels (s.lane n)) }) s) :=
    onLane_keepsLanes n _ s (fun _ => by simp [hprep]) rfl rfl fun hp hb => hp hb
  refine (hhist.trans (askBand_keepsLanes ?_)).trans (.of_engine (engineNotify_engine _))
  have hn : n < 8 := lt_of_busy (s := s) (by simp [hprep])
  rw [onLane_lane_same _ s hn]; exact hprep

theorem execTempSample_keepsLanes (reading : Int) (s : State) : RowKeepsLanes s (execTempSample reading s) :=
  (KeepsLanes.ite _ (fun _ => .refl s) fun _ => (KeepsLanes.of_engine (takeReading_engine reading s)).trans
    ((answerHeld_keepsLanes _).trans (.of_engine (engineNotify_engine _)))).row

theorem execPowerGoodArrive_keepsLanes (s : State) : RowKeepsLanes s (execPowerGoodArrive s) := by
  have hgood : KeepsLanes s (s.onRail (fun r => { r with powerGood := true })) := .of_engine rfl
  exact (KeepsLanes.ite _ (fun _ => .refl s) fun _ => hgood.trans (.ite _
    (fun _ => (endRise_keepsLanes _).trans (.of_engine (engineNotify_engine _))) fun _ => .refl _)).row

theorem execPowerGoodLost_keepsLanes (s : State) : RowKeepsLanes s (execPowerGoodLost s) := by
  have hlost : KeepsLanes s (s.onRail (fun r => { r with powerGood := false })) := .of_engine rfl
  exact (KeepsLanes.ite _ (fun _ => .refl s) fun _ => hlost.trans (.ite _
    (fun _ => enterFault_keepsLanes _ _) fun _ => .refl _)).row

theorem execLowbatChange_keepsLanes (asserted : Bool) (s : State) : RowKeepsLanes s (execLowbatChange asserted s) := by
  refine .of_engine (engine_ite _ (fun _ => rfl) fun _ => ?_)
  rw [← rebudget_engine (fun b => { b with lowbat := asserted }) s]
  exact engine_ite _ (fun _ => rfl) fun _ => engine_ite _ (fun _ => reportLowBattery_engine _) fun _ => rfl

theorem execRadioCharacter_keepsLanes (start mark : BitSamples) (data : Vector BitSamples 8) (s : State) :
    RowKeepsLanes s (execRadioCharacter start mark data s) := by
  refine .of_engine (engine_ite _ (fun _ => (placeChar_engine _ _ _).trans ?_) fun _ => rfl)
  exact engine_ite _ (fun _ => radioError_engine _ _ _) fun _ => rfl

theorem execFifoTake_keepsLanes (s : State) : RowKeepsLanes s (execFifoTake s) := by
  refine .of_engine (engine_ite _ (fun _ => rfl) fun _ => ?_)
  split
  · rfl
  · exact takeEntryAt_engine _ _ s

theorem execPayloadWriteDone_keepsLanes (s : State) : RowKeepsLanes s (execPayloadWriteDone s) := by
  refine .of_engine ?_
  split
  · rfl
  · exact lateAnswer_engine _ _

theorem execDebounceExpire_keepsLanes (k : Nat) (s : State) : RowKeepsLanes s (execDebounceExpire k s) := by
  refine KeepsLanes.row ?_
  split
  · exact .refl s
  · exact acceptLevel_keepsLanes k _ s

theorem setPeriod_keepsLanes (tag p : Nat) (s : State) :
    KeepsLanes s (reply 0x32 tag .ok (s.onEngine (fun e => { e with framePeriod := clampNat 500 5000 p }))) :=
  .of_same rfl rfl rfl

theorem execPanelSetup_keepsLanes (tag : Nat) (b : Body PanelArgs) (s : State) : RowKeepsLanes s (execPanelSetup tag b s) :=
  (takeCommand_keepsLanes _ _ _ b _ s (ownPanelSetup_keepsLanes tag)).row

theorem execPoolSetup_keepsLanes (tag : Nat) (b : Body Nat) (s : State) : RowKeepsLanes s (execPoolSetup tag b s) :=
  .command (ownPoolSetup_engine tag)

theorem execWaveLoad_keepsLanes (tag : Nat) (b : Body WaveLoadArgs) (s : State) : RowKeepsLanes s (execWaveLoad tag b s) :=
  .command (ownWaveLoad_engine tag)

theorem execWaveAbort_keepsLanes (tag : Nat) (b : Body Unit) (s : State) : RowKeepsLanes s (execWaveAbort tag b s) :=
  .command fun _ s => ownWaveAbort_engine tag s

theorem execWaveDrop_keepsLanes (tag : Nat) (b : Body Nat) (s : State) : RowKeepsLanes s (execWaveDrop tag b s) :=
  .command (ownWaveDrop_engine tag)

theorem execTempSetup_keepsLanes (tag : Nat) (b : Body TempArgs) (s : State) : RowKeepsLanes s (execTempSetup tag b s) :=
  .command fun _ _ => rfl

theorem execUpdate_keepsLanes (tag : Nat) (b : Body UpdateArgs) (s : State) : RowKeepsLanes s (execUpdate tag b s) :=
  (takeCommand_keepsLanes _ _ _ b _ s (hostUpdate_keepsLanes _ tag)).row

theorem execUpdateCancel_keepsLanes (tag : Nat) (b : Body Unit) (s : State) : RowKeepsLanes s (execUpdateCancel tag b s) :=
  (takeCommand_keepsLanes _ _ _ b _ s fun _ => ownUpdateCancel_keepsLanes tag).row

theorem execScanSetup_keepsLanes (tag : Nat) (b : Body Nat) (s : State) : RowKeepsLanes s (execScanSetup tag b s) :=
  (takeCommand_keepsLanes _ _ _ b _ s (setPeriod_keepsLanes tag)).row

theorem execRailSetup_keepsLanes (tag : Nat) (b : Body RailArgs) (s : State) : RowKeepsLanes s (execRailSetup tag b s) :=
  .command (ownRailSetup_engine tag)

theorem execRailClear_keepsLanes (tag : Nat) (b : Body Unit) (s : State) : RowKeepsLanes s (execRailClear tag b s) :=
  (takeCommand_keepsLanes _ _ _ b _ s fun _ => ownRailClear_keepsLanes tag).row

theorem execBudgetSetup_keepsLanes (tag : Nat) (b : Body BudgetArgs) (s : State) : RowKeepsLanes s (execBudgetSetup tag b s) :=
  .command (ownBudgetSetup_engine tag)

theorem execLeafFill_keepsLanes (tag : Nat) (b : Body LeafFillArgs) (s : State) : RowKeepsLanes s (execLeafFill tag b s) :=
  .command (ownLeafFill_engine tag)

theorem execLeafClose_keepsLanes (tag : Nat) (b : Body Nat) (s : State) : RowKeepsLanes s (execLeafClose tag b s) :=
  .command (ownLeafClose_engine tag)

theorem execLeafDrop_keepsLanes (tag : Nat) (b : Body Nat) (s : State) : RowKeepsLanes s (execLeafDrop tag b s) :=
  .command (ownLeafDrop_engine tag)

theorem execShowLeaf_keepsLanes (tag : Nat) (b : Body ShowLeafArgs) (s : State) : RowKeepsLanes s (execShowLeaf tag b s) :=
  (takeCommand_keepsLanes _ _ _ b _ s (ownShowLeaf_keepsLanes tag)).row

theorem execShowLeafDeclare_keepsLanes (tag : Nat) (a : ShowLeafArgs) (s : State) : RowKeepsLanes s (execShowLeafDeclare tag a s) :=
  .command (ownDeclare_engine tag)

theorem execCacheSetup_keepsLanes (tag : Nat) (b : Body CacheArgs) (s : State) : RowKeepsLanes s (execCacheSetup tag b s) :=
  .command fun _ _ => engine_ite _ (fun _ => rfl) fun _ => rfl

theorem execCacheQuery_keepsLanes (tag : Nat) (b : Body Unit) (s : State) : RowKeepsLanes s (execCacheQuery tag b s) :=
  .command fun _ _ => rfl

theorem execKeySetup_keepsLanes (tag : Nat) (b : Body KeyArgs) (s : State) : RowKeepsLanes s (execKeySetup tag b s) :=
  .command fun _ _ => engine_ite _ (fun _ => rfl) fun _ => rfl

theorem execKeyQuery_keepsLanes (tag : Nat) (b : Body Unit) (s : State) : RowKeepsLanes s (execKeyQuery tag b s) :=
  .command fun _ _ => rfl

theorem execLightCurve_keepsLanes (tag : Nat) (b : Body (List Nat)) (s : State) : RowKeepsLanes s (execLightCurve tag b s) :=
  .command fun _ s => engine_ite _ (fun _ => rfl) fun _ => engine_ite _ (fun _ => rfl) fun _ => lightEvent_engine _ s

theorem execLightSet_keepsLanes (tag : Nat) (b : Body LightSetArgs) (s : State) : RowKeepsLanes s (execLightSet tag b s) :=
  .command fun _ s => lightEvent_engine _ s

theorem execLightSetup_keepsLanes (tag : Nat) (b : Body LightSetupArgs) (s : State) : RowKeepsLanes s (execLightSetup tag b s) :=
  .command (ownLightSetup_engine tag)

theorem execRadioSetup_keepsLanes (tag : Nat) (b : Body RadioArgs) (s : State) : RowKeepsLanes s (execRadioSetup tag b s) :=
  .command fun _ _ => rfl

theorem execStreamOpen_keepsLanes (tag : Nat) (b : Body StreamOpenArgs) (s : State) : RowKeepsLanes s (execStreamOpen tag b s) :=
  .command (ownStreamOpen_engine tag)

theorem execSegmentAdd_keepsLanes (tag : Nat) (b : Body SegmentAddArgs) (s : State) : RowKeepsLanes s (execSegmentAdd tag b s) :=
  .command (ownSegmentAdd_engine tag)

theorem execStreamPause_keepsLanes (tag : Nat) (b : Body Nat) (s : State) : RowKeepsLanes s (execStreamPause tag b s) :=
  .command fun _ s => withStream_engine _ _ _ _ s fun n => pauseByHost_engine tag n s

theorem execStreamResume_keepsLanes (tag : Nat) (b : Body ResumeArgs) (s : State) : RowKeepsLanes s (execStreamResume tag b s) :=
  .command (ownStreamResume_engine tag)

theorem execStreamClose_keepsLanes (tag : Nat) (b : Body Nat) (s : State) : RowKeepsLanes s (execStreamClose tag b s) :=
  .command fun _ s => withStream_engine _ _ _ _ s fun n => (reply_engine 0x94 tag .ok _).trans (closeStream_engine n s)

theorem execStreamQuery_keepsLanes (tag : Nat) (b : Body Nat) (s : State) : RowKeepsLanes s (execStreamQuery tag b s) :=
  .command (ownStreamQuery_engine tag)

theorem execDrainSelect_keepsLanes (tag : Nat) (b : Body Nat) (s : State) : RowKeepsLanes s (execDrainSelect tag b s) :=
  .command fun _ s => withStream_engine _ _ _ _ s fun _ => rfl

theorem execDoze_keepsLanes (tag : Nat) (b : Body (Option Nat)) (s : State) : RowKeepsLanes s (execDoze tag b s) :=
  .command (ownDoze_engine tag)

theorem execSleep_keepsLanes (tag : Nat) (b : Body Unit) (s : State) : RowKeepsLanes s (execSleep tag b s) :=
  .command fun _ s => settle_engine true s

theorem execWakeMask_keepsLanes (tag : Nat) (b : Body (List Nat)) (s : State) : RowKeepsLanes s (execWakeMask tag b s) :=
  .command (ownWakeMask_engine tag)

theorem execStatus_keepsLanes (tag : Nat) (b : Body Unit) (s : State) : RowKeepsLanes s (execStatus tag b s) :=
  .command fun _ _ => rfl

theorem execIdentify_keepsLanes (tag : Nat) (b : Body Unit) (s : State) : RowKeepsLanes s (execIdentify tag b s) :=
  .command fun _ _ => rfl

theorem execLinkSetup_keepsLanes (tag : Nat) (b : Body Nat) (s : State) : RowKeepsLanes s (execLinkSetup tag b s) :=
  .command fun _ _ => rfl

theorem execSetupEnd_keepsLanes (tag : Nat) (b : Body Unit) (s : State) : RowKeepsLanes s (execSetupEnd tag b s) :=
  .command fun _ _ => engine_ite _ (fun _ => rfl) fun _ => rfl

theorem execEngineReset_keepsLanes (tag : Nat) (b : Body Unit) (s : State) : RowKeepsLanes s (execEngineReset tag b s) := by
  refine KeepsLanes.row ?_
  cases b with
  | fields a => exact takePacket_keepsLanes _ _ s (resetAll_keepsLanes tag)
  | badLength => exact takeCommand_keepsLanes _ _ _ _ _ s fun _ => resetAll_keepsLanes tag
  | badParam => exact takeCommand_keepsLanes _ _ _ _ _ s fun _ => resetAll_keepsLanes tag

theorem execUnknownCommand_keepsLanes (b : UnknownBody) (s : State) : RowKeepsLanes s (execUnknownCommand b s) :=
  (takePacket_keepsLanes _ _ s fun s => withReplyPlace_keepsLanes _ s fun s => .of_engine (ownUnknown_engine b s)).row

theorem execTileTarget_keepsLanes (b : TileBody) (s : State) : RowKeepsLanes s (execTileTarget b s) :=
  packet_keepsLanes (ownTileTarget_engine b)

theorem execTileLeaf_keepsLanes (n : Nat) (r : Rect) (pixels : List Byte) (s : State) : RowKeepsLanes s (execTileLeaf n r pixels s) :=
  packet_keepsLanes (ownTileLeaf_engine n r pixels)

theorem execTable_keepsLanes (body : List Byte) (s : State) : RowKeepsLanes s (execTable body s) :=
  packet_keepsLanes (ownTable_engine body)

theorem execUnknownPacketKind_keepsLanes (kind : Nat) (s : State) : RowKeepsLanes s (execUnknownPacketKind kind s) :=
  packet_keepsLanes (raise_engine _)

theorem execChipSelectAssert_keepsLanes (s : State) : RowKeepsLanes s (execChipSelectAssert s) :=
  .of_engine (engine_ite _ (fun _ => linkNotice_engine s) fun _ => rfl)

theorem execWrite_keepsLanes (bytes : List Byte) (s : State) : RowKeepsLanes s (execWrite bytes s) :=
  .of_engine (writeBytes_engine bytes s)

theorem execReadMessage_keepsLanes (s : State) : RowKeepsLanes s (execReadMessage s) :=
  .of_engine (engine_ite _ (fun _ => rfl) fun _ => engine_ite _ (fun _ => rfl) fun _ => rfl)

theorem execReadDrain_keepsLanes (s : State) : RowKeepsLanes s (execReadDrain s) :=
  .of_engine (engine_ite _ (fun _ => rfl) fun _ => engine_ite _ (fun _ => rfl) fun _ => rfl)

theorem execVoidTransaction_keepsLanes (s : State) : RowKeepsLanes s (execVoidTransaction s) :=
  .of_engine (engine_ite _ (fun _ => raise_engine _ _) fun _ => rfl)

theorem execChipSelectRelease_keepsLanes (whole : Bool) (s : State) : RowKeepsLanes s (execChipSelectRelease whole s) :=
  .of_engine (releaseEffect_engine _ whole _)

theorem execLinkStallExpire_keepsLanes (s : State) : RowKeepsLanes s (execLinkStallExpire s) :=
  .of_engine (engine_ite _ (fun _ => discardWrite_engine _ s) fun _ => rfl)

theorem execRadioLineReturn_keepsLanes (s : State) : RowKeepsLanes s (execRadioLineReturn s) :=
  .of_engine (engine_ite _ (fun _ => radioError_engine _ _ _) fun _ => rfl)

theorem execRadioBreak_keepsLanes (s : State) : RowKeepsLanes s (execRadioBreak s) :=
  .of_engine (engine_ite _ (fun _ => rfl) fun _ => rfl)

theorem execGapTimerExpire_keepsLanes (s : State) : RowKeepsLanes s (execGapTimerExpire s) :=
  .of_engine (engine_ite _ (fun _ => dropFrame_engine _ _ s) fun _ => rfl)

theorem execRadioBreakWake_keepsLanes (s : State) : RowKeepsLanes s (execRadioBreakWake s) :=
  .of_engine (engine_ite _ (fun _ => beginWaking_engine _ _) fun _ => rfl)

theorem execStallTimerExpire_keepsLanes (n : Nat) (s : State) : RowKeepsLanes s (execStallTimerExpire n s) :=
  .of_engine (engine_ite _ (fun _ => pauseStream_engine _ _ _ s) fun _ => rfl)

theorem execFrameEvent_keepsLanes (s : State) : RowKeepsLanes s (execFrameEvent s) :=
  (KeepsLanes.ite _ (fun _ => (runFrame_keepsLanes s).trans (.of_engine (engineNotify_engine _))) fun _ => .refl s).row

theorem execRiseTimerExpire_keepsLanes (s : State) : RowKeepsLanes s (execRiseTimerExpire s) :=
  (KeepsLanes.ite _ (fun _ => enterFault_keepsLanes _ s) fun _ => .refl s).row

theorem execHoldTimerExpire_keepsLanes (s : State) : RowKeepsLanes s (execHoldTimerExpire s) :=
  .of_engine (engine_ite _ (fun _ => startFall_engine s) fun _ => rfl)

theorem execFallTimerExpire_keepsLanes (s : State) : RowKeepsLanes s (execFallTimerExpire s) :=
  (KeepsLanes.ite _ (fun _ => (endFall_keepsLanes s).trans (.of_engine (engineNotify_engine _))) fun _ => .refl s).row

theorem execKeyInputChange_keepsLanes (k : Nat) (l : Level) (s : State) : RowKeepsLanes s (execKeyInputChange k l s) :=
  .of_engine (engine_ite _ (fun _ => rawChanged_engine k l s) fun _ => rfl)

theorem execKeyHoldExpire_keepsLanes (k : Nat) (s : State) : RowKeepsLanes s (execKeyHoldExpire k s) :=
  (KeepsLanes.ite _ (fun _ => repeatKey_keepsLanes k s) fun _ => .refl s).row

theorem execKeyRepeatExpire_keepsLanes (k : Nat) (s : State) : RowKeepsLanes s (execKeyRepeatExpire k s) :=
  (KeepsLanes.ite _ (fun _ => repeatKey_keepsLanes k s) fun _ => .refl s).row

theorem execRampStep_keepsLanes (s : State) : RowKeepsLanes s (execRampStep s) :=
  .of_engine (engine_ite _ (fun _ => lightEvent_engine _ s) fun _ => rfl)

theorem execDwellExpire_keepsLanes (s : State) : RowKeepsLanes s (execDwellExpire s) :=
  .of_engine (engine_ite _ (fun _ => lightEvent_engine _ s) fun _ => rfl)

theorem execStandbyDelayExpire_keepsLanes (s : State) : RowKeepsLanes s (execStandbyDelayExpire s) :=
  .of_engine (engine_ite _ (fun _ => settle_engine false s) fun _ => rfl)

theorem execSelfRefreshEntered_keepsLanes (s : State) : RowKeepsLanes s (execSelfRefreshEntered s) :=
  .of_engine (engine_ite _ (fun _ => rfl) fun _ => rfl)

theorem execWakingComplete_keepsLanes (s : State) : RowKeepsLanes s (execWakingComplete s) :=
  (KeepsLanes.ite _ (fun _ => completeWaking_keepsLanes s) fun _ => .refl s).row

theorem execPowerOnReset_keepsLanes (inputs : InputLevels) (s : State) : RowKeepsLanes s (execPowerOnReset inputs s) :=
  (powerOn_keepsLanes inputs s).row

theorem execPinReset_keepsLanes (inputs : InputLevels) (s : State) : RowKeepsLanes s (execPinReset inputs s) :=
  (pinReset_keepsLanes inputs s).row

theorem execBreakEnd_keepsLanes (s : State) : RowKeepsLanes s (execBreakEnd s) :=
  .of_engine (engine_ite _ (fun _ => rfl) fun _ => rfl)

theorem exec_keepsLanes (i : Instr) (s : State) : RowKeepsLanes s (exec i s) := by
  cases i with
  | panelSetup tag b => exact execPanelSetup_keepsLanes tag b s
  | poolSetup tag b => exact execPoolSetup_keepsLanes tag b s
  | waveLoad tag b => exact execWaveLoad_keepsLanes tag b s
  | waveAbort tag b => exact execWaveAbort_keepsLanes tag b s
  | waveDrop tag b => exact execWaveDrop_keepsLanes tag b s
  | tempSetup tag b => exact execTempSetup_keepsLanes tag b s
  | update tag b => exact execUpdate_keepsLanes tag b s
  | updateCancel tag b => exact execUpdateCancel_keepsLanes tag b s
  | scanSetup tag b => exact execScanSetup_keepsLanes tag b s
  | railSetup tag b => exact execRailSetup_keepsLanes tag b s
  | railClear tag b => exact execRailClear_keepsLanes tag b s
  | budgetSetup tag b => exact execBudgetSetup_keepsLanes tag b s
  | leafFill tag b => exact execLeafFill_keepsLanes tag b s
  | leafClose tag b => exact execLeafClose_keepsLanes tag b s
  | leafDrop tag b => exact execLeafDrop_keepsLanes tag b s
  | showLeaf tag b => exact execShowLeaf_keepsLanes tag b s
  | showLeafDeclare tag a => exact execShowLeafDeclare_keepsLanes tag a s
  | cacheSetup tag b => exact execCacheSetup_keepsLanes tag b s
  | cacheQuery tag b => exact execCacheQuery_keepsLanes tag b s
  | keySetup tag b => exact execKeySetup_keepsLanes tag b s
  | keyQuery tag b => exact execKeyQuery_keepsLanes tag b s
  | lightCurve tag b => exact execLightCurve_keepsLanes tag b s
  | lightSet tag b => exact execLightSet_keepsLanes tag b s
  | lightSetup tag b => exact execLightSetup_keepsLanes tag b s
  | radioSetup tag b => exact execRadioSetup_keepsLanes tag b s
  | streamOpen tag b => exact execStreamOpen_keepsLanes tag b s
  | segmentAdd tag b => exact execSegmentAdd_keepsLanes tag b s
  | streamPause tag b => exact execStreamPause_keepsLanes tag b s
  | streamResume tag b => exact execStreamResume_keepsLanes tag b s
  | streamClose tag b => exact execStreamClose_keepsLanes tag b s
  | streamQuery tag b => exact execStreamQuery_keepsLanes tag b s
  | drainSelect tag b => exact execDrainSelect_keepsLanes tag b s
  | doze tag b => exact execDoze_keepsLanes tag b s
  | sleep tag b => exact execSleep_keepsLanes tag b s
  | wakeMask tag b => exact execWakeMask_keepsLanes tag b s
  | status tag b => exact execStatus_keepsLanes tag b s
  | identify tag b => exact execIdentify_keepsLanes tag b s
  | linkSetup tag b => exact execLinkSetup_keepsLanes tag b s
  | setupEnd tag b => exact execSetupEnd_keepsLanes tag b s
  | engineReset tag b => exact execEngineReset_keepsLanes tag b s
  | unknownCommand b => exact execUnknownCommand_keepsLanes b s
  | tileTarget b => exact execTileTarget_keepsLanes b s
  | tileLeaf leaf rect pixels => exact execTileLeaf_keepsLanes leaf rect pixels s
  | table body => exact execTable_keepsLanes body s
  | unknownPacketKind kind => exact execUnknownPacketKind_keepsLanes kind s
  | chipSelectAssert => exact execChipSelectAssert_keepsLanes s
  | write bytes => exact execWrite_keepsLanes bytes s
  | readMessage => exact execReadMessage_keepsLanes s
  | readDrain => exact execReadDrain_keepsLanes s
  | voidTransaction => exact execVoidTransaction_keepsLanes s
  | chipSelectRelease whole => exact execChipSelectRelease_keepsLanes whole s
  | linkStallExpire => exact execLinkStallExpire_keepsLanes s
  | radioCharacter start mark data => exact execRadioCharacter_keepsLanes start mark data s
  | radioLineReturn => exact execRadioLineReturn_keepsLanes s
  | radioBreak => exact execRadioBreak_keepsLanes s
  | fifoTake => exact execFifoTake_keepsLanes s
  | gapTimerExpire => exact execGapTimerExpire_keepsLanes s
  | radioBreakWake => exact execRadioBreakWake_keepsLanes s
  | payloadWriteDone => exact execPayloadWriteDone_keepsLanes s
  | stallTimerExpire record => exact execStallTimerExpire_keepsLanes record s
  | tempSample reading => exact execTempSample_keepsLanes reading s
  | preparingEnd lane => exact execPreparingEnd_keepsLanes lane s
  | frameEvent => exact execFrameEvent_keepsLanes s
  | powerGoodArrive => exact execPowerGoodArrive_keepsLanes s
  | powerGoodLost => exact execPowerGoodLost_keepsLanes s
  | riseTimerExpire => exact execRiseTimerExpire_keepsLanes s
  | holdTimerExpire => exact execHoldTimerExpire_keepsLanes s
  | fallTimerExpire => exact execFallTimerExpire_keepsLanes s
  | lowbatChange asserted => exact execLowbatChange_keepsLanes asserted s
  | keyInputChange key level => exact execKeyInputChange_keepsLanes key level s
  | debounceExpire key => exact execDebounceExpire_keepsLanes key s
  | keyHoldExpire key => exact execKeyHoldExpire_keepsLanes key s
  | keyRepeatExpire key => exact execKeyRepeatExpire_keepsLanes key s
  | rampStep => exact execRampStep_keepsLanes s
  | dwellExpire => exact execDwellExpire_keepsLanes s
  | standbyDelayExpire => exact execStandbyDelayExpire_keepsLanes s
  | selfRefreshEntered => exact execSelfRefreshEntered_keepsLanes s
  | wakingComplete => exact execWakingComplete_keepsLanes s
  | powerOnReset inputs => exact execPowerOnReset_keepsLanes inputs s
  | pinReset inputs => exact execPinReset_keepsLanes inputs s
  | breakEnd => exact execBreakEnd_keepsLanes s

theorem step_keepsLanes (s : State) : RowKeepsLanes s (step s) := by
  rw [step]
  split
  · rw [idleStep]
    split
    · exact exec_keepsLanes _ s
    · exact .of_engine rfl
  next i rest _ =>
    have hqueue : KeepsLanes s { s with pending := rest } := .of_engine rfl
    exact fun t ht => hqueue.trans (exec_keepsLanes i _ t ht)

/-- Settles O22: every row keeps busy lanes on rectangles of their own. -/
theorem lanesStayApart : Obligations.LanesStayApart := fun s t hs ht => (step_keepsLanes s t ht).apart hs

/-- Settles O23: every row keeps CHANGED lanes off uncertain ground. -/
theorem uncertainGroundIsDrivenWhole : Obligations.UncertainGroundIsDrivenWhole :=
  fun s t hs hu ht => (step_keepsLanes s t ht).ground hs hu

/-! ## The drive of a lane (R44, R48, R49, R26) -/

/-- The selected pixels, each with its levels (R44). -/
theorem mem_lanePixels {s : State} {l : Lane} {i f t : Nat} : (i, f, t) ∈ s.lanePixels l ↔
    i ∈ rectIndices s.panelWidth l.rect ∧ f = Memory.pixel s.mem (shownBlocks s.pool.geometry) i ∧ t = s.toLevel l i ∧
      (l.selection = .all ∨ f ≠ t) := by
  simp only [State.lanePixels, List.mem_filter, List.mem_map, Prod.mk.injEq, Bool.or_eq_true, decide_eq_true_eq]
  constructor
  · rintro ⟨⟨k, hk, rfl, rfl, rfl⟩, hsel⟩
    exact ⟨hk, rfl, rfl, hsel⟩
  · rintro ⟨hi, rfl, rfl, hsel⟩
    exact ⟨⟨i, hi, rfl, rfl, rfl⟩, hsel⟩

/-- What a DRIVING lane gives the panel (R48). -/
theorem mem_laneDrive {s : State} {l : Lane} {i : Nat} {c : DriveCode} (h : l.state = .driving) :
    (i, c) ∈ s.laneDrive l ↔ c ≠ .none ∧ ∃ f t, (i, f, t) ∈ s.lanePixels l ∧ c = s.laneCode l f t := by
  rw [State.laneDrive, if_pos h]
  simp only [List.mem_filter, List.mem_map, Prod.mk.injEq, Prod.exists, decide_eq_true_eq]
  constructor
  · rintro ⟨⟨k, f, t, hp, rfl, rfl⟩, hc⟩
    exact ⟨hc, f, t, hp, rfl⟩
  · rintro ⟨hc, f, t, hp, rfl⟩
    exact ⟨⟨i, f, t, hp, rfl, rfl⟩, hc⟩

/-- The load of a DRIVING lane, pair by pair (R49). -/
theorem laneLoad_driving {s : State} {l : Lane} (h : l.state = .driving) : s.laneLoad l = ((List.range 256).map (fun i =>
    if s.laneCode l (i / 16) (i % 16) = .none then 0 else l.hist.getD i 0)).sum := by
  rw [State.laneLoad, if_pos h]
  simp only [ne_eq, ite_not]

/-- A lane that does not drive gives nothing. -/
theorem laneDrive_idle {s : State} {l : Lane} (h : l.state ≠ .driving) : s.laneDrive l = [] ∧ s.laneLoad l = 0 :=
  ⟨if_neg h, if_neg h⟩

/-- The to-level of a LEAF source (R13). -/
theorem toLevel_leaf {s : State} {l : Lane} {n : Nat} (i : Nat) (h : l.source = .leaf n) :
    s.toLevel l i = if s.pool.written (l.blocks.getD (i / 8192) 0) = true
      then Memory.pixel s.mem l.blocks i else l.background := by
  have hblock : i / 2 / Config.blockBytes = i / 8192 := Nat.div_div_eq_div_mul i 2 4096
  simp only [State.toLevel, h, leafPixel, hblock]

/-- The code of a pair (R26, R27). -/
theorem driveLookup_eq (m : Memory) (slot band k f t : Nat) (frames : List Nat) : driveLookup m slot frames band k f t =
    driveCode ((Memory.read m ((3904 + 32 * slot) * 4096 +
      (64 * (frames.take band).sum + 64 * k + 4 * f + t / 4))).toNat / 4 ^ (t % 4) % 4) := rfl

/-- Settles O38: each selected pixel has the code of its pair, and the code stands in the slot's body where R26 says. -/
theorem laneDrivesItsSelectedPixels : Obligations.LaneDrivesItsSelectedPixels := by
  refine ⟨fun s l => ⟨fun i f t => mem_lanePixels, laneDrive_idle, fun h => ⟨fun i c => mem_laneDrive h, laneLoad_driving h⟩,
    fun i h => ?_, fun i n => toLevel_leaf i⟩, fun m slot band k f t v frames hv => ?_⟩
  · rw [State.toLevel, h]
  · rw [driveLookup_eq, ← hv]
    exact ⟨fun h => by rw [h]; rfl, fun h => by rw [h]; rfl, fun h => by rw [h]; rfl⟩

/-! ## The checks of an UPDATE (R37) -/

/-- An UPDATE that a check refuses is answered and changes nothing else. -/
theorem exec_update_refused {tag : Nat} {a : UpdateArgs} {s : State} {st : Status} (hs : s.serves)
    (h : updateCheck a s = some st) : exec (.update tag (.fields a)) s =
      .next (s.answered (.update tag (.fields a)) (plainReply 0x30 tag st)) := by
  refine takeCommand_reply hs ?_
  have hplaced : updateCheck a (s.placed (.update tag (.fields a))) = some st := h
  rw [hostUpdate, hplaced]

theorem updateCheck_of_none {a : UpdateArgs} {s : State} (h : s.pool.geometry = none) : updateCheck a s = some .state := by
  rw [updateCheck, h]

/-- The parameters that R37 checks together. -/
def UpdateInRange (a : UpdateArgs) (p : PanelArgs) : Prop :=
  a.slot ≤ 5 ∧ (∀ n, a.source = .leaf n → n ≤ 16777215) ∧ (∀ n, a.shows = some n → n ≤ 16777215) ∧
    0 < a.rect.w ∧ 0 < a.rect.h ∧ a.rect.x + a.rect.w ≤ p.width ∧ a.rect.y + a.rect.h ≤ p.height

theorem inRange_iff (a : UpdateArgs) (p : PanelArgs) : UpdateInRange a p ↔
    (a.slot ≤ 5 && Source.inRange a.source && a.shows.all (· ≤ Config.maxLeaf) && rectInside a.rect p) = true := by
  have hsource : Source.inRange a.source = true ↔ ∀ n, a.source = .leaf n → n ≤ 16777215 := by
    cases a.source with
    | target => simp [Source.inRange]
    | leaf n => exact decide_eq_true_iff.trans ⟨fun h k hk => by cases hk; exact h, fun h => h n rfl⟩
  have hshows : a.shows.all (· ≤ Config.maxLeaf) = true ↔ ∀ n, a.shows = some n → n ≤ 16777215 := by
    cases a.shows with
    | none => simp
    | some n => exact decide_eq_true_iff.trans ⟨fun h k hk => by cases hk; exact h, fun h => h n rfl⟩
  simp only [UpdateInRange, rectInside, Bool.and_eq_true, decide_eq_true_eq, hsource, hshows, and_assoc]

theorem updateCheck_badParam {a : UpdateArgs} {s : State} {p : PanelArgs} (h : s.pool.geometry = some p) (hbad : ¬ UpdateInRange a p) :
    updateCheck a s = some .badParam := by
  rw [inRange_iff, Bool.not_eq_true] at hbad
  simp only [updateCheck, h, hbad, Bool.not_false, if_true]

theorem updateCheck_inRange {a : UpdateArgs} {s : State} {p : PanelArgs} (h : s.pool.geometry = some p) (hgood : UpdateInRange a p) :
    updateCheck a s = lateCheck a.slot a.source a.shows s := by
  rw [inRange_iff] at hgood
  simp only [updateCheck, h, hgood, Bool.not_true, Bool.false_eq_true, if_false]

theorem lateCheck_slot {n : Nat} {src : Source} {shows : Option Nat} {s : State} (h : (s.slot n).state ≠ .valid) :
    lateCheck n src shows s = some .slotInvalid := by
  rw [lateCheck, State.slotValid, decide_eq_false h]; rfl

/-- The leaves that an update names are READY or SHOWN (R37). -/
def CacheState.leavesThere (c : CacheState) (src : Source) (shows : Option Nat) : Prop :=
  (∀ n, src = .leaf n → c.showable n = true) ∧ ∀ n, shows = some n → c.showable n = true

theorem leavesThere_iff (c : CacheState) (src : Source) (shows : Option Nat) :
    c.leavesThere src shows ↔ (c.sourceThere src && c.showsThere shows) = true := by
  have hsource : c.sourceThere src = true ↔ ∀ n, src = .leaf n → c.showable n = true := by
    cases src <;> simp [CacheState.sourceThere]
  have hshows : c.showsThere shows = true ↔ ∀ n, shows = some n → c.showable n = true := by
    cases shows <;> simp [CacheState.showsThere]
  rw [Bool.and_eq_true, hsource, hshows, CacheState.leavesThere]

theorem lateCheck_leaf {n : Nat} {src : Source} {shows : Option Nat} {s : State} (h : (s.slot n).state = .valid)
    (hmiss : ¬s.cache.leavesThere src shows) : lateCheck n src shows s = some .noSuch := by
  rw [leavesThere_iff, Bool.not_eq_true] at hmiss
  rw [lateCheck, State.slotValid, h, hmiss]; rfl

/-- Past slot and leaves, the rails and the queue decide (R37). -/
theorem lateCheck_there {n : Nat} {src : Source} {shows : Option Nat} {s : State} (h : (s.slot n).state = .valid)
    (hthere : s.cache.leavesThere src shows) : lateCheck n src shows s =
      if s.rail.mode = .fault then some .railFault else if 16 ≤ s.engine.pending.length then some .queueFull else none := by
  rw [leavesThere_iff] at hthere
  rw [lateCheck, State.slotValid, h, hthere]; rfl

/-- Settles O32: the checks in their order. -/
theorem updatesAreRefusedInOrder : Obligations.UpdatesAreRefusedInOrder := by
  intro tag a s hs
  refine ⟨fun h => exec_update_refused hs (updateCheck_of_none h), fun p hp => ⟨fun hbad => ?_,
    fun hslot hsource hshows hw hh hx hy => ?_⟩⟩
  · refine exec_update_refused hs (updateCheck_badParam hp ?_)
    rintro ⟨hslot, hsource, hshows, hw, hh, hx, hy⟩
    rcases hbad with h | ⟨n, hn, h⟩ | ⟨n, hn, h⟩ | h
    · omega
    · exact absurd (hsource n hn) (by omega)
    · exact absurd (hshows n hn) (by omega)
    · omega
  · have hlate := updateCheck_inRange (s := s) hp ⟨hslot, hsource, hshows, hw, hh, hx, hy⟩
    refine ⟨fun hv => exec_update_refused hs (hlate.trans (lateCheck_slot hv)), fun hv => ⟨fun hmiss => ?_, fun hsrc hsh => ?_⟩⟩
    · refine exec_update_refused hs (hlate.trans (lateCheck_leaf hv ?_))
      rintro ⟨hsrc, hsh⟩
      rcases hmiss with ⟨n, hn, h⟩ | ⟨n, hn, h⟩
      · rw [hsrc n hn] at h; cases h
      · rw [hsh n hn] at h; cases h
    · have hthere := hlate.trans (lateCheck_there hv ⟨hsrc, hsh⟩)
      exact ⟨fun hf => exec_update_refused hs (hthere.trans (if_pos hf)),
        fun hf hfull => exec_update_refused hs (hthere.trans ((if_neg hf).trans (if_pos hfull)))⟩

/-! ## The walk (R41, R42) -/

theorem onSlot_slot_same {n : Nat} (f : Slot → Slot) (s : State) (h : n < 6) : (onSlot n f s).slot n = f (s.slot n) :=
  recordAt_withRecord_same s.wave.slots n f {} h

theorem onSlot_slot_other {n k : Nat} (f : Slot → Slot) (s : State) (h : k ≠ n) : (onSlot n f s).slot k = s.slot k :=
  recordAt_withRecord_other s.wave.slots n k f {} h

/-- A part of a walk: lanes only fill, and the rails stay. -/
structure LanesFill (s t : State) : Prop where
  rail : t.rail = s.rail
  busy : ∀ k, k < 8 → (s.lane k).state ≠ .free → t.lane k = s.lane k

theorem LanesFill.refl (s : State) : LanesFill s s := ⟨rfl, fun _ _ _ => rfl⟩

theorem LanesFill.trans {s t u : State} (h : LanesFill s t) (h' : LanesFill t u) : LanesFill s u := by
  refine ⟨h'.rail.trans h.rail, fun k hk hb => ?_⟩
  have ht := h.busy k hk hb
  exact (h'.busy k hk (by rw [ht]; exact hb)).trans ht

/-- What lets an entry start, lane by lane (R41). -/
theorem startsOn_iff (e : PendingEntry) (ahead : List PendingEntry) (n : Nat) (s : State) : startsOn e ahead s = some n ↔
    s.rail.mode ≠ .fault ∧ (∀ k, k < 8 → (s.lane k).state ≠ .free → rectOverlaps (s.lane k).rect e.rect = false) ∧
      (∀ a ∈ ahead, rectOverlaps a.rect e.rect = false) ∧ n < 8 ∧ (s.lane n).state = .free ∧
      ∀ k, k < n → (s.lane k).state ≠ .free := by
  rw [← freeLane?_iff, ← busyOver_false_iff]
  refine ⟨startsOn_some, fun ⟨hrail, hbusy, hahead, hfree⟩ => ?_⟩
  rw [startsOn, if_neg (by simpa [hrail, hbusy] using hahead), hfree]

/-- The lowest FREE lane, where some lane is FREE. -/
theorem exists_lowest_free {s : State} {m : Nat} (hm : (s.lane m).state = .free) (hlt : m < 8) :
    ∃ n, n < 8 ∧ (s.lane n).state = .free ∧ ∀ k, k < n → (s.lane k).state ≠ .free := by
  have hex : ∃ n, (s.lane n).state = .free := ⟨m, hm⟩
  exact ⟨Nat.find hex, lt_of_le_of_lt (Nat.find_min' hex hm) hlt, Nat.find_spec hex, fun k hk => Nat.find_min hex hk⟩

/-- An entry that does not qualify does not as more lanes fill. -/
theorem LanesFill.startsOn_none {s t : State} (h : LanesFill s t) {e : PendingEntry} {ahead : List PendingEntry}
    (hs : startsOn e ahead s = none) : startsOn e ahead t = none := by
  by_contra hsome
  obtain ⟨m, hm⟩ := Option.ne_none_iff_exists'.1 hsome
  obtain ⟨hrail, hbusy, hahead, hlt, hfree, -⟩ := (startsOn_iff e ahead m t).1 hm
  have hfree' : (s.lane m).state = .free := by
    by_contra hb
    exact hb (by rw [← h.busy m hlt hb]; exact hfree)
  obtain ⟨n, hn, hnfree, hlow⟩ := exists_lowest_free hfree' hlt
  have hstart : startsOn e ahead s = some n := by
    refine (startsOn_iff e ahead n s).2 ⟨by rw [← h.rail]; exact hrail, fun k hk hb => ?_, hahead, hn, hnfree, hlow⟩
    rw [← h.busy k hk hb]
    exact hbusy k hk (by rw [h.busy k hk hb]; exact hb)
  rw [hs] at hstart; cases hstart

theorem startLane_fills {n : Nat} {e : PendingEntry} {ahead : List PendingEntry} {s : State} (h : startsOn e ahead s = some n) :
    LanesFill s (startLane n e s) := by
  obtain ⟨-, -, -, -, hfree, -⟩ := (startsOn_iff e ahead n s).1 h
  refine ⟨(startLane_frame n e s).2 .rail (by decide), fun k _ hb => startLane_lane_other e s ?_⟩
  rintro rfl; exact hb hfree

/-- No entry of a list qualifies behind those ahead of it. -/
def NoneStarts (es : List PendingEntry) (s : State) : Prop :=
  ∀ (front back : List PendingEntry) (e : PendingEntry), es = front ++ e :: back → startsOn e front s = none

theorem NoneStarts.append {es : List PendingEntry} {e : PendingEntry} {s : State} (h : NoneStarts es s)
    (he : startsOn e es s = none) : NoneStarts (es ++ [e]) s := by
  intro front back x hx
  rcases List.eq_nil_or_concat' back with rfl | ⟨init, last, rfl⟩
  · obtain ⟨rfl, hex⟩ := List.append_inj' hx rfl
    cases hex; exact he
  · have hinit : es ++ [e] = (front ++ x :: init) ++ [last] := by simpa using hx
    exact h front init x (List.append_inj' hinit rfl).1

/-- What a walk leaves: a part of the queue, none of which qualifies, and lanes that only fill. -/
theorem walkFrom_leaves (es : List PendingEntry) : ∀ ahead s, NoneStarts ahead s →
    ∃ kept, List.Sublist kept es ∧ (walkFrom ahead es s).engine.pending = ahead ++ kept ∧
      NoneStarts (ahead ++ kept) (walkFrom ahead es s) ∧ LanesFill s (walkFrom ahead es s) := by
  induction es with
  | nil =>
    intro ahead s h
    have hfill : LanesFill s (walkFrom ahead [] s) := ⟨rfl, fun _ _ _ => rfl⟩
    refine ⟨[], .slnil, (List.append_nil ahead).symm, ?_, hfill⟩
    rw [List.append_nil]
    exact fun front back e he => hfill.startsOn_none (h front back e he)
  | cons e es ih =>
    intro ahead s h
    rw [walkFrom]
    split
    next n hn =>
      have hfill := startLane_fills hn
      obtain ⟨kept, hsub, hpending, hnone, hfills⟩ := ih ahead _ fun front back x hx => hfill.startsOn_none (h front back x hx)
      exact ⟨kept, hsub.cons e, hpending, hnone, hfill.trans hfills⟩
    next hn =>
      obtain ⟨kept, hsub, hpending, hnone, hfills⟩ := ih (ahead ++ [e]) s (h.append hn)
      rw [List.append_assoc, List.singleton_append] at hpending hnone
      exact ⟨e :: kept, hsub.cons_cons e, hpending, hnone, hfills⟩

theorem walk_leaves (s : State) : List.Sublist (walk s).engine.pending s.engine.pending ∧
    NoneStarts (walk s).engine.pending (walk s) ∧ LanesFill s (walk s) := by
  obtain ⟨kept, hsub, hpending, hnone, hfills⟩ := walkFrom_leaves s.engine.pending [] s fun front back e he => by simp at he
  rw [← walk] at hpending hnone hfills
  rw [List.nil_append] at hpending hnone
  rw [hpending]
  exact ⟨hsub, hnone, hfills⟩

theorem walk_frame (s : State) : SameExcept [.wave, .engine] s (walk s) := walkFrom_frame _ [] s

/-! ### How a lane starts -/

theorem startChoice_asked {e : PendingEntry} {s : State} (h : (s.slot e.slot).kind = .fullOnly ∨ e.selection = .all) :
    startChoice e s = (.all, e.slot, false) := by
  rw [startChoice]
  split
  · rfl
  next hk => rw [if_pos (h.resolve_left hk)]

/-- A CHANGED entry of a PARTIAL_OK slot: promoted over uncertain ground (R42). -/
theorem startChoice_partial {e : PendingEntry} {s : State} (hk : (s.slot e.slot).kind = .partialOk) (hs : e.selection = .changed) :
    startChoice e s = if s.engine.uncertainOver e.rect then (.all, (s.usablePartner e.slot).getD e.slot, true)
      else (.changed, e.slot, false) := by
  rw [startChoice, if_neg (by simp [hk]), if_neg (by simp [hs])]

theorem uncertainOver_iff (e : EngineState) (r : Rect) : e.uncertainOver r = true ↔
    e.whole = true ∨ ∃ u ∈ e.uncertain, rectOverlaps u r = true := by
  simp [EngineState.uncertainOver]

theorem usablePartner_valid {n p : Nat} {s : State} (hp : (s.slot n).partner = some p) (hv : (s.slot p).state = .valid) :
    s.usablePartner n = some p := by
  simp [State.usablePartner, hp, State.slotValid, hv]

theorem usablePartner_none {n : Nat} {s : State} (h : ∀ p, (s.slot n).partner = some p → (s.slot p).state ≠ .valid) :
    s.usablePartner n = none := by
  rw [State.usablePartner]
  split
  · rfl
  next p hp => rw [if_neg (by simpa [State.slotValid] using h p hp)]

/-- A lane that starts with the slot it asked for leaves the slots alone. -/
theorem startLane_wave_kept {n : Nat} {e : PendingEntry} {s : State} (h : (startChoice e s).2.1 = e.slot) :
    (startLane n e s).wave = s.wave := by
  simp only [startLane, h, if_true]; rfl

/-- A slot replaced by its partner passes its use on (R18, R42). -/
theorem startLane_wave_passed {n : Nat} {e : PendingEntry} {s : State} (h : (startChoice e s).2.1 ≠ e.slot) :
    (startLane n e s).wave = (useSlot (startChoice e s).2.1 (unuseSlot e.slot s)).wave := by
  simp only [startLane, if_neg h]; rfl

/-- Settles O34: what a walk leaves, and what a lane starts with. -/
theorem walkStartsWhatQualifiesAndPromotes : Obligations.WalkStartsWhatQualifiesAndPromotes := by
  refine ⟨fun s => ?_, fun n e s hn => ⟨startLane_lane_same e s hn, fun k hk => startLane_lane_other e s hk,
    startLane_frame n e s, startChoice_asked, fun hk hs => ⟨fun hw hu => ?_, fun hover => ⟨fun p hp hv => ?_, fun hnone => ?_⟩⟩,
    startLane_wave_kept, ?_⟩⟩
  · obtain ⟨hsub, hnone, hfill⟩ := walk_leaves s
    exact ⟨fun e ahead n => startsOn_iff e ahead n s, hsub, hnone, hfill.busy, walk_frame s⟩
  · rw [startChoice_partial hk hs, if_neg (by rw [(uncertainOver_false_iff _ _).2 ⟨hw, hu⟩]; simp)]
  · rw [startChoice_partial hk hs, if_pos ((uncertainOver_iff _ _).2 hover), usablePartner_valid hp hv, Option.getD_some]
  · rw [startChoice_partial hk hs, if_pos ((uncertainOver_iff _ _).2 hover), usablePartner_none hnone, Option.getD_none]
  · rintro p hp he rfl hne
    have hwave := startLane_wave_passed (n := n) hne
    have hslot (k : Nat) : (startLane n e s).slot k = (useSlot (startChoice e s).2.1 (unuseSlot e.slot s)).slot k := by
      rw [State.slot, hwave]; rfl
    constructor
    · rw [hslot, useSlot, onSlot_slot_same _ _ hp, unuseSlot, onSlot_slot_other _ _ hne]
    · rw [hslot, useSlot, onSlot_slot_other _ _ (Ne.symm hne), unuseSlot, onSlot_slot_same _ _ he]

/-! ## A tile in the target plane (R6, R55) -/

/-- The first `n` bytes of an image have addresses of their own. -/
def ImageApart (blocks : List Nat) (n : Nat) : Prop :=
  ∀ j k, j < n → k < n → imageAddr blocks j = imageAddr blocks k → j = k

theorem pixel_setPixel_same (m : Memory) (blocks : List Nat) (i level : Nat) :
    (m.setPixel blocks i level).pixel blocks i = level % 16 := by
  rw [Memory.pixel, Memory.setPixel, Memory.read_write_same, pixelOf_withPixel_same]

/-- A pixel keeps its level as another is set, in the same byte too. -/
theorem pixel_setPixel_other {blocks : List Nat} {n i k : Nat} (m : Memory) (level : Nat) (hblocks : ImageApart blocks n)
    (hi : i / 2 < n) (hk : k / 2 < n) (h : i ≠ k) : (m.setPixel blocks i level).pixel blocks k = m.pixel blocks k := by
  rw [Memory.pixel, Memory.setPixel]
  by_cases haddr : imageAddr blocks (k / 2) = imageAddr blocks (i / 2)
  · have hbyte := hblocks _ _ hk hi haddr
    rw [haddr, Memory.read_write_same, pixelOf_withPixel_other _ _ _ _ (by omega), ← haddr]; rfl
  · rw [Memory.read_write_other _ _ _ _ haddr]; rfl

/-- Several pixels set leave the others. -/
theorem pixel_setPixels_other {blocks : List Nat} {n k : Nat} (hblocks : ImageApart blocks n) (hk : k / 2 < n)
    (ps : List (Nat × Nat)) : ∀ m : Memory, (∀ p ∈ ps, p.1 / 2 < n) → (∀ p ∈ ps, p.1 ≠ k) →
    (m.setPixels blocks ps).pixel blocks k = m.pixel blocks k := by
  induction ps with
  | nil => exact fun m _ _ => rfl
  | cons p ps ih =>
    intro m hn hne
    rw [Memory.setPixels, ih _ (fun q hq => hn q (List.mem_cons_of_mem _ hq)) fun q hq => hne q (List.mem_cons_of_mem _ hq)]
    exact pixel_setPixel_other m p.2 hblocks (hn p List.mem_cons_self) hk (hne p List.mem_cons_self)

/-- Several pixels set, with one level for each index. -/
theorem pixel_setPixels_same {blocks : List Nat} {n k level : Nat} (hblocks : ImageApart blocks n) (hk : k / 2 < n)
    (ps : List (Nat × Nat)) : ∀ m : Memory, (∀ p ∈ ps, p.1 / 2 < n) → (∀ p ∈ ps, p.1 = k → p.2 = level) → (k, level) ∈ ps →
    (m.setPixels blocks ps).pixel blocks k = level % 16 := by
  induction ps with
  | nil => exact fun m _ _ h => absurd h List.not_mem_nil
  | cons p ps ih =>
    intro m hn hlevel hmem
    have hn' : ∀ q ∈ ps, q.1 / 2 < n := fun q hq => hn q (List.mem_cons_of_mem _ hq)
    have hlevel' : ∀ q ∈ ps, q.1 = k → q.2 = level := fun q hq => hlevel q (List.mem_cons_of_mem _ hq)
    by_cases hlast : ∀ q ∈ ps, q.1 ≠ k
    · have hp : p = (k, level) := by
        rcases List.mem_cons.1 hmem with h | h
        · exact h.symm
        · exact absurd rfl (hlast _ h)
      rw [Memory.setPixels, pixel_setPixels_other hblocks hk ps _ hn' hlast, hp, pixel_setPixel_same]
    · push Not at hlast
      obtain ⟨⟨i, v⟩, hq, rfl⟩ := hlast
      refine ih _ hn' hlevel' ?_
      rw [← hlevel' _ hq rfl]; exact hq

/-! ### The target plane -/

/-- The target plane lies in one piece behind the shown plane (R6). -/
theorem imageAddr_target {g : Option PanelArgs} {k : Nat} (h : k < 4096 * planeSize g) :
    imageAddr (targetBlocks g) k = 4096 * planeSize g + k := by
  have hblock : (targetBlocks g)[k / 4096]? = some (planeSize g + k / 4096) := by
    rw [targetBlocks, List.getElem?_range' (by omega)]; simp
  rw [imageAddr_of_block _ _ _ hblock]; omega

theorem target_apart (g : Option PanelArgs) : ImageApart (targetBlocks g) (4096 * planeSize g) := by
  intro j k hj hk h
  rw [imageAddr_target hj, imageAddr_target hk] at h
  omega

/-- A pixel of the panel lies in a byte of the plane (R6). -/
theorem panel_pixel_in_plane {p : PanelArgs} {x y : Nat} (hw : p.width % 8 = 0) (hx : x < p.width) (hy : y < p.height) :
    (y * p.width + x) / 2 < 4096 * planeSize (some p) := by
  have hbound := (planeSize_bounds p hw).1
  have hlast : y * p.width + x < p.width * p.height := by
    calc y * p.width + x < (y + 1) * p.width := by rw [Nat.add_mul]; omega
      _ ≤ p.height * p.width := Nat.mul_le_mul_right _ hy
      _ = p.width * p.height := Nat.mul_comm _ _
  omega

/-- Pixels of the panel have indices of their own (R6). -/
theorem panel_index_inj {w x y x' y' : Nat} (hx : x < w) (hx' : x' < w) (h : y * w + x = y' * w + x') : x = x' ∧ y = y' := by
  have hmod := congrArg (· % w) h
  have hdiv := congrArg (· / w) h
  simp only [Nat.mul_comm _ w, Nat.mul_add_mod, Nat.mod_eq_of_lt hx, Nat.mod_eq_of_lt hx'] at hmod
  simp only [Nat.mul_comm _ w, Nat.mul_add_div (show 0 < w by omega), Nat.div_eq_of_lt hx, Nat.div_eq_of_lt hx', Nat.add_zero] at hdiv
  exact ⟨hmod, hdiv⟩

theorem mem_rectCells (r : Rect) (j i : Nat) : (j, i) ∈ rectCells r ↔ j < r.h ∧ i < r.w := by
  simp [rectCells]

theorem pixelOf_lt (b : Byte) (i : Nat) : pixelOf b i < 16 := by
  have hb : b.toNat < 256 := b.isLt
  rw [pixelOf]; split <;> omega

theorem mem_tilePixels {w : Nat} {r : Rect} {pixels : List Byte} {q : Nat × Nat} (h : q ∈ tilePixels w r pixels) :
    ∃ j i, j < r.h ∧ i < r.w ∧ q = (pixelIndex w r (j, i), tileLevel r pixels (j, i)) := by
  obtain ⟨⟨j, i⟩, hc, rfl⟩ := List.mem_map.1 h
  obtain ⟨hj, hi⟩ := (mem_rectCells r j i).1 hc
  exact ⟨j, i, hj, hi, rfl⟩

/-- A tile that passes its checks lies inside the panel (R55). -/
theorem inside_of_tileCheck {dest : Nat} {r : Rect} {pixels : List Byte} {p : PanelArgs} {s : State}
    (hp : s.pool.geometry = some p) (h : tileCheck (.tile dest r pixels) s = none) :
    0 < r.w ∧ 0 < r.h ∧ r.x + r.w ≤ p.width ∧ r.y + r.h ≤ p.height := by
  simp only [tileCheck, hp] at h
  split at h
  · cases h
  next hbad =>
    rw [Bool.or_eq_true, not_or] at hbad
    simpa [rectInside, and_assoc, Nat.pos_iff_ne_zero] using hbad.2

/-- A tile taken for the target plane (R55). -/
theorem exec_tileTarget {dest : Nat} {r : Rect} {pixels : List Byte} {s : State} (hs : servingMode s.power.mode = true)
    (h : tileCheck (.tile dest r pixels) s = none) :
    exec (.tileTarget (.tile dest r pixels)) s = .next { s.taken (.tileTarget (.tile dest r pixels)) with
      mem := Memory.setPixels s.mem (targetBlocks s.pool.geometry) (tilePixels s.panelWidth r pixels) } := by
  have htaken : tileCheck (.tile dest r pixels) (s.taken (.tileTarget (.tile dest r pixels))) = none := h
  refine congrArg Host.Outcome.next ((takePacket_serving _ _ s hs).trans ?_)
  rw [ownTileTarget, htaken]
  rfl

/-- Settles O41: the tile's pixels take their levels, and all else keeps its own. -/
theorem tileWritesTheTargetPlane : Obligations.TileWritesTheTargetPlane := by
  intro r pixels p s hs hp hw hcheck
  obtain ⟨-, -, hx, hy⟩ := inside_of_tileCheck hp hcheck
  have hwidth : s.panelWidth = p.width := by rw [State.panelWidth, hp]
  have hblocks := target_apart s.pool.geometry
  have hin {x y : Nat} (hx : x < p.width) (hy : y < p.height) : (y * p.width + x) / 2 < 4096 * planeSize s.pool.geometry := by
    rw [hp]; exact panel_pixel_in_plane hw hx hy
  have hwritten : ∀ q ∈ tilePixels p.width r pixels, q.1 / 2 < 4096 * planeSize s.pool.geometry := by
    intro q hq
    obtain ⟨j, i, hj, hi, rfl⟩ := mem_tilePixels hq
    exact hin (x := r.x + i) (y := r.y + j) (by omega) (by omega)
  refine ⟨_, exec_tileTarget hs hcheck, fun i j hi hj => ?_, fun x y hxw hyh hout => ?_, fun x hx => ?_⟩
  · rw [hwidth]
    refine (pixel_setPixels_same (level := tileLevel r pixels (j, i)) hblocks (hin (by omega) (by omega)) _ s.mem hwritten
      (fun q hq hindex => ?_) ?_).trans ?_
    · obtain ⟨j', i', hj', hi', rfl⟩ := mem_tilePixels hq
      obtain ⟨hcol, hrow⟩ := panel_index_inj (w := p.width) (by omega) (by omega) hindex
      rw [show j' = j by omega, show i' = i by omega]
    · exact List.mem_map.2 ⟨(j, i), (mem_rectCells r j i).2 ⟨hj, hi⟩, rfl⟩
    · exact Nat.mod_eq_of_lt (pixelOf_lt _ _)
  · rw [hwidth]
    refine pixel_setPixels_other hblocks (hin hxw hyh) _ s.mem hwritten fun q hq hindex => hout ?_
    obtain ⟨j, i, hj, hi, rfl⟩ := mem_tilePixels hq
    obtain ⟨hcol, hrow⟩ := panel_index_inj (w := p.width) (by omega) (by omega) hindex
    omega
  · rw [hwidth]
    refine Memory.read_setPixels_other _ _ s.mem x fun q hq haddr => ?_
    have hq2 := hwritten q hq
    rw [imageAddr_target hq2] at haddr
    omega

/-! ## An event while the update engine is at work: the part does not fall asleep in it (R173) -/

/-- Only the parts listed differ, in the same power state, with the engine still known to be at work. -/
structure Stays (bs : List Block) (s t : State) : Prop where
  frame : SameExcept bs s t
  mem : t.mem = s.mem
  mode : t.power.mode = s.power.mode
  atWork : t.power.engineIdle = false

/-- Part of an event that, with the engine known to be at work, changes only the parts listed. -/
def Works (bs : List Block) (s t : State) : Prop := s.power.engineIdle = false → Stays bs s t

theorem Works.refl (bs : List Block) (s : State) : Works bs s s := fun h => ⟨.refl bs s, rfl, rfl, h⟩

theorem Works.trans {bs : List Block} {s t u : State} (h : Works bs s t) (h' : Works bs t u) : Works bs s u := by
  intro hs
  obtain ⟨hframe, hmem, hmode, hwork⟩ := h hs
  obtain ⟨hframe', hmem', hmode', hwork'⟩ := h' hwork
  exact ⟨hframe.trans hframe', hmem'.trans hmem, hmode'.trans hmode, hwork'⟩

theorem Works.mono {bs cs : List Block} {s t : State} (h : Works bs s t) (hbc : ∀ b ∈ bs, b ∈ cs := by decide) : Works cs s t :=
  fun hs => ⟨(h hs).frame.mono hbc, (h hs).mem, (h hs).mode, (h hs).atWork⟩

theorem Works.ite {bs : List Block} {s t u : State} (c : Prop) [Decidable c] (ht : c → Works bs s t) (hu : ¬ c → Works bs s u) :
    Works bs s (if c then t else u) := by
  split
  · exact ht ‹_›
  · exact hu ‹_›

/-- A change outside the power controller. -/
theorem Works.of_frame {bs : List Block} {s t : State} (h : SameExcept bs s t) (hm : t.mem = s.mem := by rfl)
    (hp : Block.power ∉ bs := by decide) : Works bs s t := by
  intro hs
  have hpower : t.power = s.power := h.2 .power hp
  exact ⟨h, hm, by rw [hpower], by rw [hpower, hs]⟩

theorem foldl_works {α : Type} {bs : List Block} (f : State → α → State) (h : ∀ s a, Works bs s (f s a)) (l : List α) :
    ∀ s, Works bs s (l.foldl f s) := by
  induction l with
  | nil => exact .refl bs
  | cons a l ih => exact fun s => (h s a).trans (ih _)

theorem eachLane_works {bs : List Block} (f : Nat → State → State) (h : ∀ n s, Works bs s (f n s)) (s : State) :
    Works bs s (eachLane f s) := foldl_works _ (fun s n => h n s) _ s

/-- With one of the four conditions of R173 missing the part does not enter STANDBY. -/
theorem powerReact_stays {s : State} (h : s.power.fourIdle = false) : powerReact s = s ∨
    powerReact s = s.onPower PowerState.recheckDoze := by
  cases hm : s.power.mode <;> simp only [powerReact, hm, h, Bool.false_eq_true, if_false, true_or, or_true]

theorem fourIdle_of_atWork {p : PowerState} (h : p.engineIdle = false) : p.fourIdle = false := by
  simp [PowerState.fourIdle, h]

theorem powerReact_works (s : State) : Works [.power] s (powerReact s) := by
  intro hs
  rcases powerReact_stays (fourIdle_of_atWork hs) with h | h <;> rw [h]
  · exact ⟨.refl _ s, rfl, rfl, hs⟩
  · exact ⟨onPower_frame _ s, rfl, PowerState.recheckDoze_mode _, (recheckDoze_engineIdle _).trans hs⟩

/-- The power controller hears of something other than the engine. -/
theorem tell_works (c : Prop) [Decidable c] (f : PowerState → PowerState) (s : State)
    (hm : (f s.power).mode = s.power.mode := by rfl) (hi : (f s.power).engineIdle = s.power.engineIdle := by rfl) :
    Works [.power] s (if c then s else powerReact (s.onPower f)) := by
  have htold : Works [.power] s (s.onPower f) := fun hs => ⟨onPower_frame f s, rfl, hm, hi.trans hs⟩
  exact .ite _ (fun _ => .refl _ s) fun _ => htold.trans (powerReact_works _)

theorem lightEvent_works (f : LightState → LightState) (s : State) : Works [.light, .power] s (lightEvent f s) :=
  (Works.of_frame (onLight_frame f s)).mono.trans (tell_works _ (fun p => { p with lightDark := (f s.light).isDark }) _).mono

theorem rebudget_works (f : BudgetState → BudgetState) (s : State) : Works [.budget, .light, .power] s (rebudget f s) :=
  (Works.of_frame (onBudget_frame (fun b => (f b).recompute) s)).mono.trans (lightEvent_works _ _).mono

theorem setRail_works (m : RailMode) (s : State) : Works [.rail, .budget, .light, .power] s (setRail m s) := by
  have hmode := (Works.of_frame (onRail_frame (fun r => { r with mode := m }) s)).mono (cs := [.rail, .budget, .light, .power])
  exact (hmode.trans (rebudget_works (fun b => { b with rail := m }) _).mono).trans
    (tell_works _ (fun p => { p with railsOff := m = .off }) _).mono

/-- The rails change on their own before they enter a state. -/
theorem onRail_setRail_works (m : RailMode) (f : RailState → RailState) (s : State) :
    Works [.rail, .budget, .light, .power] s (setRail m (s.onRail f)) :=
  (Works.of_frame (onRail_frame f s)).mono.trans (setRail_works m _)

theorem startFall_works (s : State) : Works [.rail, .budget, .light, .power] s (startFall s) := onRail_setRail_works _ _ s

theorem enterHold_works (s : State) : Works [.rail, .budget, .light, .power] s (enterHold s) :=
  (onRail_setRail_works .hold (fun r => { r with hold := some r.holdTime }) s).trans
    (.ite _ (fun _ => startFall_works _) fun _ => .refl _ _)

theorem laneLeft_works (s : State) : Works [.rail, .budget, .light, .power] s (laneLeft s) :=
  (Works.of_frame (onRail_frame (fun r => { r with armed := r.armed - 1 }) s)).mono.trans
    (.ite _ (fun _ => enterHold_works _) fun _ => .refl _ _)

theorem recount_works (s : State) : Works [.power, .link] s (recount s) := by
  intro hs
  refine ⟨((onLink_frame (fun l => { l with wakeCount := worthyCount s.power.mask s.link.queue }) s).mono (by decide)).trans
    ((onPower_frame _ _).mono (by decide)), rfl, PowerState.recheckDoze_mode _, (recheckDoze_engineIdle _).trans hs⟩

theorem raise_works (r : Report) (s : State) : Works [.power, .link] s (raise r s) := by
  have hqueue := (Works.of_frame (onLink_frame (fun l => { l with queue := l.queue ++ [.report r] }) s)).mono
    (cs := [.power, .link])
  exact .ite _ (fun _ => .refl _ s) fun _ => .ite _ (fun _ => hqueue.trans (recount_works _))
    fun _ => (Works.of_frame (onLink_frame _ s)).mono

theorem raiseAll_works (rs : List Report) (s : State) : Works [.power, .link] s (raiseAll rs s) :=
  foldl_works _ (fun s r => raise_works r s) rs s

theorem reply_works (code tag : Nat) (st : Status) (s : State) : Works [.power, .link] s (reply code tag st s) :=
  (Works.of_frame (onLink_frame (fun l => { l with
    queue := l.queue ++ [.reply ⟨code, tag, st, .none⟩], reserved := false }) s)).mono.trans (recount_works _)

theorem stopScan_works (s : State) : Works [.engine, .budget, .light, .power] s (stopScan s) :=
  (Works.of_frame (onEngine_frame (fun e => { e with scan := none, load := 0 }) s)).mono.trans
    (rebudget_works (fun b => { b with load := 0 }) _).mono

theorem unuseSource_mem (src : Source) (s : State) : (unuseSource src s).mem = s.mem := by
  cases src <;> rfl

theorem freeLane_works (inFrame : Bool) (n : Nat) (s : State) :
    Works [.wave, .engine, .rail, .budget, .cache, .light, .power] s (freeLane inFrame n s) := by
  have hlane := (Works.of_frame (onLane_frame n (fun _ => {}) s)).mono (cs := [.wave, .engine, .rail, .budget, .cache, .light, .power])
  have hslot := hlane.trans (Works.of_frame (onSlot_frame (s.lane n).slot (fun t => { t with useCount := t.useCount - 1 }) _)).mono
  have hsource := hslot.trans (Works.of_frame (unuseSource_frame (s.lane n).source _) (unuseSource_mem _ _)).mono
  have hleft := hsource.trans (Works.ite ((s.lane n).armed = true) (fun _ => (laneLeft_works _).mono) fun _ => .refl _ _)
  exact hleft.trans (.ite _ (fun _ => (stopScan_works _).mono) fun _ => .refl _ _)

theorem startLane_mem (n : Nat) (e : PendingEntry) (s : State) : (startLane n e s).mem = s.mem := by
  simp only [startLane]
  split <;> rfl

theorem walkFrom_mem (es : List PendingEntry) : ∀ ahead s, (walkFrom ahead es s).mem = s.mem := by
  induction es with
  | nil => exact fun _ _ => rfl
  | cons e es ih =>
    intro ahead s
    rw [walkFrom]
    split
    · exact (ih _ _).trans (startLane_mem _ e s)
    · exact ih _ s

theorem walk_works (s : State) : Works [.wave, .engine] s (walk s) := .of_frame (walk_frame s) (walkFrom_mem _ [] s)

theorem turnAbandoned_works (c : MissCause) (s : State) : Works [.cache, .power, .link] s (turnAbandoned c s) := by
  rw [turnAbandoned]
  split
  · exact .refl _ s
  next f _ =>
    exact (raise_works (.turnMiss f.dir (some f.leaf) c) s).mono.trans (Works.of_frame (onCache_frame _ _)).mono

theorem tellLane_works (l : Lane) (o : UpdateOutcome) (c : MissCause) (s : State) :
    Works [.cache, .power, .link] s (tellLane l o c s) := by
  rw [tellLane]
  split
  · exact (raise_works _ s).mono
  · exact turnAbandoned_works c s

/-! ### The rails, exactly -/

theorem setRail_rail (m : RailMode) (s : State) : (setRail m s).rail = { s.rail with mode := m } := by
  have hbudget : (rebudget (fun b => { b with rail := m }) (s.onRail (fun r => { r with mode := m }))).rail =
      { s.rail with mode := m } := lightEvent_rail _ _
  simp only [setRail, tellRailsOff]
  split
  · exact hbudget
  · exact (powerReact_rail _).trans hbudget

theorem startFall_rail (s : State) : (startFall s).rail =
    { s.rail with mode := .falling, hold := none, fall := some s.rail.fallTime } := setRail_rail _ _

/-- A hold time of 0 ends as it starts (R67). -/
theorem enterHold_rail (s : State) : (enterHold s).rail = if s.rail.holdTime = 0
    then { s.rail with mode := .falling, hold := none, fall := some s.rail.fallTime }
    else { s.rail with mode := .hold, hold := some s.rail.holdTime } := by
  have hheld : (setRail .hold (s.onRail (fun r => { r with hold := some r.holdTime }))).rail =
      { s.rail with mode := .hold, hold := some s.rail.holdTime } := setRail_rail _ _
  simp only [enterHold, hheld]
  split
  · rw [startFall_rail, hheld]
  · exact hheld

/-- A lane that leaves the rails lowers their count; the last one to leave ends ON (R67). -/
theorem laneLeft_rail_counted {s : State} (h : ¬(s.rail.mode = .on ∧ s.rail.armed - 1 = 0)) :
    (laneLeft s).rail = { s.rail with armed := s.rail.armed - 1 } := by
  have hstay : ¬(decide (s.rail.mode = .on) && decide (s.rail.armed - 1 = 0)) = true :=
    fun hc => h ((Bool.and_eq_true_iff.1 hc).imp of_decide_eq_true of_decide_eq_true)
  exact congrArg State.rail (if_neg hstay)

theorem laneLeft_rail_last {s : State} (hm : s.rail.mode = .on) (ha : s.rail.armed - 1 = 0) : (laneLeft s).rail =
    if s.rail.holdTime = 0 then { s.rail with armed := s.rail.armed - 1, mode := .falling, hold := none, fall := some s.rail.fallTime }
    else { s.rail with armed := s.rail.armed - 1, mode := .hold, hold := some s.rail.holdTime } := by
  rw [laneLeft, if_pos (by simp [hm, ha]), enterHold_rail]; rfl

theorem laneLeft_armed (s : State) : (laneLeft s).rail.armed = s.rail.armed - 1 := by
  by_cases h : s.rail.mode = .on ∧ s.rail.armed - 1 = 0
  · rw [laneLeft_rail_last h.1 h.2]; split <;> rfl
  · rw [laneLeft_rail_counted h]

/-- What a lane does to the rails as it leaves them depends on the rails alone. -/
theorem laneLeft_rail_congr {s t : State} (h : t.rail = s.rail) : (laneLeft t).rail = (laneLeft s).rail := by
  by_cases hlast : s.rail.mode = .on ∧ s.rail.armed - 1 = 0
  · rw [laneLeft_rail_last hlast.1 hlast.2, laneLeft_rail_last (by rw [h]; exact hlast.1) (by rw [h]; exact hlast.2), h]
  · rw [laneLeft_rail_counted hlast, laneLeft_rail_counted (by rw [h]; exact hlast), h]

theorem stopScan_rail (s : State) : (stopScan s).rail = s.rail := lightEvent_rail _ _

theorem freeLane_rail (inFrame : Bool) (n : Nat) (s : State) : (freeLane inFrame n s).rail =
    if (s.lane n).armed = true then (laneLeft s).rail else s.rail := by
  have hunused (src : Source) (k : Nat) : (unuseSource src (unuseSlot k (onLane n (fun _ => {}) s))).rail = s.rail :=
    (unuseSource_frame src _).2 .rail (by decide)
  have hlet (u : State) (c : Prop) [Decidable c] : (if c then stopScan u else u).rail = u.rail := by
    split
    · exact stopScan_rail u
    · rfl
  simp only [freeLane]
  rw [hlet]
  split
  · exact laneLeft_rail_congr (hunused _ _)
  · exact hunused _ _

/-! ### What outlives an entry to STANDBY -/

/-- What a step into STANDBY does not touch of an update: page memory, the engine, the slots, the rails, the leaves and turns, and
the message queue (R176). -/
structure SameWork (s t : State) : Prop where
  mem : t.mem = s.mem
  engine : t.engine = s.engine
  slots : t.wave.slots = s.wave.slots
  rail : t.rail = s.rail
  leaves : t.cache.leaves = s.cache.leaves
  current : t.cache.current = s.cache.current
  anchor : t.cache.anchor = s.cache.anchor
  flight : t.cache.flight = s.cache.flight
  deferred : t.cache.deferred = s.cache.deferred
  counter : t.cache.counter = s.cache.counter
  queue : t.link.queue = s.link.queue

theorem SameWork.refl (s : State) : SameWork s s := ⟨rfl, rfl, rfl, rfl, rfl, rfl, rfl, rfl, rfl, rfl, rfl⟩

theorem SameWork.lane {s t : State} (h : SameWork s t) (n : Nat) : t.lane n = s.lane n := lane_of_engine h.engine n

theorem SameWork.slot {s t : State} (h : SameWork s t) (n : Nat) : t.slot n = s.slot n := by
  rw [State.slot, h.slots]; rfl

theorem onPower_sameWork (f : PowerState → PowerState) (s : State) : SameWork s (s.onPower f) :=
  ⟨rfl, rfl, rfl, rfl, rfl, rfl, rfl, rfl, rfl, rfl, rfl⟩

theorem enterStandby_sameWork (s : State) : SameWork s (enterStandby s) := by
  obtain ⟨-, -, hcache, -, -, hlink, -⟩ := enterStandby_fields s
  have hframe := enterStandby_frame s
  exact ⟨by simp [enterStandby, setMode, handMode], hframe.2 .engine (by decide), by rw [enterStandby_wave], hframe.2 .rail (by decide),
    by rw [hcache], by rw [hcache], by rw [hcache], by rw [hcache], by rw [hcache], by rw [hcache], by rw [hlink]⟩

theorem powerReact_sameWork (s : State) : SameWork s (powerReact s) := by
  cases h : s.power.mode <;> simp only [powerReact, h]
  case settling =>
    split
    · exact enterStandby_sameWork s
    · exact .refl s
  case doze => exact onPower_sameWork _ s
  all_goals exact .refl s

/-- The notice that ends an engine event (R36). -/
theorem engineNotify_sameWork (s : State) : SameWork s (engineNotify s) := by
  have hreact := powerReact_sameWork (s.onPower (fun p => { p with engineIdle := s.engine.idle }))
  rw [engineNotify, tellEngineIdle]
  split
  · exact .refl s
  · exact ⟨hreact.mem, hreact.engine, hreact.slots, hreact.rail, hreact.leaves, hreact.current, hreact.anchor, hreact.flight,
      hreact.deferred, hreact.counter, hreact.queue⟩

/-- The notice of an engine at work. -/
theorem engineNotify_stays {s : State} (h : s.engine.idle = false) :
    SameExcept [.power] s (engineNotify s) ∧ (engineNotify s).power.mode = s.power.mode := by
  rw [engineNotify, tellEngineIdle, h]
  split
  · exact ⟨.refl _ s, rfl⟩
  · obtain ⟨hframe, -, hmode, -⟩ := powerReact_works (s.onPower (fun p => { p with engineIdle := false })) rfl
    exact ⟨(onPower_frame _ s).trans hframe, hmode⟩

theorem idle_of_busy {s : State} {n : Nat} (h : (s.lane n).state ≠ .free) : s.engine.idle = false := by
  rw [← Bool.not_eq_true, engine_idle_iff]
  exact fun hidle => h (hidle.2 n (lt_of_busy h))

theorem idle_of_pending {s : State} (h : s.engine.pending ≠ []) : s.engine.idle = false := by
  rw [← Bool.not_eq_true, engine_idle_iff]
  exact fun hidle => h hidle.1

/-! ## An accepted UPDATE (R38, R41, R126) -/

/-- What activity leaves of the light's marks (R126). -/
theorem activity_marks (l : LightState) : l.activity.dimmed = false ∧ l.activity.dark = false := by
  obtain ⟨w, hw⟩ := startDwell_eq { l with dimmed := false, dark := false }
  obtain ⟨v, r, d, he⟩ := retarget_eq { l with dimmed := false, dark := false, dwell := w }
  rw [LightState.activity, hw, he]
  exact ⟨rfl, rfl⟩

/-- Activity darkens no light (R123, R126). -/
theorem isDark_of_activity {l : LightState} (hl : l.sound) (h : l.activity.isDark = true) : l.isDark = true := by
  obtain ⟨w, hw⟩ := startDwell_eq { l with dimmed := false, dark := false }
  obtain ⟨v, r, d, he⟩ := retarget_eq { l with dimmed := false, dark := false, dwell := w }
  have htarget : l.activity.target = LightState.wanted { l with dimmed := false, dark := false } := by
    rw [LightState.activity, hw, he]; rfl
  have hnone : LightState.wanted { l with dimmed := false, dark := false } = 0 := by
    simp only [LightState.isDark, Bool.and_eq_true, decide_eq_true_eq] at h
    rw [← htarget]; exact h.1.2
  have hwanted : l.wanted = 0 := by
    simp only [LightState.wanted, Bool.false_eq_true, if_false] at hnone ⊢
    split at hnone
    · next hhold => rw [if_pos hhold]
    · next hhold => rw [if_neg hhold, hnone]; simp
  have hkept : l.activity = { l with dimmed := false, dark := false, dwell := w } := by
    rw [LightState.activity, hw, LightState.retarget]
    refine if_pos (hnone.trans ?_)
    rw [← hwanted, ← hl.2.1]
  rw [hkept] at h
  exact h

/-- Activity in a part that takes commands: in SETTLING too it is no step into STANDBY (R126, R173). -/
theorem lightActivity_serving {s : State} (hmode : servingMode s.power.mode = true) (hdark : s.power.lightDark = s.light.isDark)
    (hsound : s.light.sound) : SameExcept [.light, .power] s (lightActivity s) ∧ (lightActivity s).power.mode = s.power.mode ∧
      (lightActivity s).light = s.light.activity := by
  have hlight : SameExcept [.light, .power] s (s.onLight LightState.activity) := (onLight_frame _ s).mono (by decide)
  rw [lightActivity, if_pos hmode, lightEvent, tellLightDark]
  split
  · exact ⟨hlight, rfl, rfl⟩
  next hchange =>
    have hlit : s.light.activity.isDark = false := by
      rw [← Bool.not_eq_true]
      intro hd
      exact hchange (hdark.trans ((isDark_of_activity hsound hd).trans hd.symm))
    have htold := hlight.trans ((onPower_frame (fun p => { p with lightDark := s.light.activity.isDark }) _).mono
      (cs := [.light, .power]) (by decide))
    rcases powerReact_stays (s := (s.onLight LightState.activity).onPower (fun p => { p with lightDark := s.light.activity.isDark }))
      (by simp [PowerState.fourIdle, hlit]) with h | h
    · rw [onLight_light, h]; exact ⟨htold, rfl, rfl⟩
    · rw [onLight_light, h]
      exact ⟨htold.trans ((onPower_frame _ _).mono (by decide)), PowerState.recheckDoze_mode _, rfl⟩

/-- The walk of a queue with one entry (R41). -/
theorem walk_single {s : State} {e : PendingEntry} (h : s.engine.pending = [e]) : walk s =
    match startsOn e [] s with
    | some n => (startLane n e s).onEngine (fun g => { g with pending := [] })
    | none => s.onEngine (fun g => { g with pending := [e] }) := by
  rw [walk, h, walkFrom]
  cases startsOn e [] s <;> rfl

theorem walk_single_starts {s : State} {e : PendingEntry} {n : Nat} (h : s.engine.pending = [e]) (hn : startsOn e [] s = some n) :
    walk s = (startLane n e s).onEngine (fun g => { g with pending := [] }) := by
  rw [walk_single h, hn]

theorem walk_single_waits {s : State} {e : PendingEntry} (h : s.engine.pending = [e]) (hn : startsOn e [] s = none) :
    walk s = s.onEngine (fun g => { g with pending := [e] }) := by
  rw [walk_single h, hn]

theorem reply_frame (code tag : Nat) (st : Status) (s : State) : SameExcept [.power, .link] s (reply code tag st s) := by
  have hqueue := (onLink_frame (fun l => { l with
    queue := l.queue ++ [.reply ⟨code, tag, st, .none⟩], reserved := false }) s).mono (cs := [.power, .link]) (by decide)
  exact (hqueue.trans ((onLink_frame _ _).mono (by decide))).trans ((onPower_frame _ _).mono (by decide))

theorem reply_mode (code tag : Nat) (st : Status) (s : State) : (reply code tag st s).power.mode = s.power.mode :=
  PowerState.recheckDoze_mode _

theorem appendEntry_wave (e : PendingEntry) (s : State) : (appendEntry e s).wave = (useSlot e.slot s).wave := by
  have h := (useSource_frame e.source (useSlot e.slot (s.onEngine (fun g => { g with pending := g.pending ++ [e] })))).2 .wave
    (by decide)
  exact h

theorem appendEntry_cache (e : PendingEntry) (s : State) : (appendEntry e s).cache = (useSource e.source s).cache := by
  rw [appendEntry]
  cases e.source <;> rfl

theorem useSource_cache_congr (src : Source) {s t : State} (h : t.cache = s.cache) :
    (useSource src t).cache = (useSource src s).cache := by
  cases src with
  | target => exact h
  | leaf n => exact congrArg (fun c : CacheState => c.withLeaf n (fun l => { l with useCount := l.useCount + 1 })) h

/-- An update taken, before the walk (R38). -/
def State.accepted (s : State) (tag : Nat) (a : UpdateArgs) : State :=
  reply 0x30 tag .accepted (lightActivity (appendEntry (hostEntry tag a) (s.placed (.update tag (.fields a)))))

theorem exec_update_accepted {tag : Nat} {a : UpdateArgs} {s : State} (hs : s.serves) (h : updateCheck a s = none) :
    exec (.update tag (.fields a)) s = .next (engineNotify (walk (s.accepted tag a))) := by
  have hplaced : updateCheck a (s.placed (.update tag (.fields a))) = none := h
  refine congrArg Host.Outcome.next ((takeCommand_fields _ _ _ _ _ s hs).trans ?_)
  rw [hostUpdate, hplaced]; rfl

/-- What an accepted update has changed before the walk. -/
structure Accepted (tag : Nat) (a : UpdateArgs) (s t : State) : Prop where
  frame : SameExcept [.wave, .engine, .cache, .light, .power, .link] s t
  mode : t.power.mode = s.power.mode
  light : t.light = s.light.activity
  engine : t.engine = { s.engine with pending := s.engine.pending ++ [hostEntry tag a] }
  wave : t.wave = (useSlot a.slot s).wave
  cache : t.cache = (useSource a.source s).cache
  queue : t.link.queue = s.link.queue ++ [.reply (plainReply 0x30 tag .accepted)]

theorem accepted_facts {tag : Nat} {a : UpdateArgs} {s : State} (hs : s.serves) (hc : s.coherent) :
    Accepted tag a s (s.accepted tag a) := by
  obtain ⟨-, -, hdark, -, -, -, -, -, -, -, -, -, -, -, -, -, -, -, -, hsound⟩ := hc
  have hplaced := placed_frame (.update tag (.fields a)) s
  have hentry := appendEntry_frame (hostEntry tag a) (s.placed (.update tag (.fields a)))
  have hpower := hentry.2 .power (by decide)
  have hlight := hentry.2 .light (by decide)
  obtain ⟨hlit, hmode, hmarks⟩ := lightActivity_serving (s := appendEntry (hostEntry tag a) (s.placed (.update tag (.fields a))))
    (by rw [hpower]; exact hs.1) (by rw [hpower, hlight]; exact hdark) (by rw [hlight]; exact hsound)
  have hsame := reply_frame 0x30 tag .accepted (lightActivity (appendEntry (hostEntry tag a) (s.placed (.update tag (.fields a)))))
  refine ⟨(hplaced.mono (by decide)).trans ((hentry.mono (by decide)).trans ((hlit.mono (by decide)).trans (hsame.mono (by decide)))),
    (reply_mode 0x30 tag .accepted _).trans (hmode.trans (by rw [hpower]; rfl)), ?_, ?_, ?_, ?_, ?_⟩
  · exact (hsame.2 .light (by decide)).trans (hmarks.trans (by rw [hlight]; rfl))
  · exact (lightActivity_engine _).trans (useSource_engine _ _)
  · exact (hsame.2 .wave (by decide)).trans ((hlit.2 .wave (by decide)).trans (appendEntry_wave _ _))
  · exact (hsame.2 .cache (by decide)).trans ((hlit.2 .cache (by decide)).trans
      ((appendEntry_cache _ _).trans (useSource_cache_congr _ rfl)))
  · exact congrArg (fun l : LinkState => l.queue ++ [.reply (plainReply 0x30 tag .accepted)])
      ((hlit.2 .link (by decide)).trans (hentry.2 .link (by decide)))

/-- What an accepted update leaves: the walk that follows only fills lanes, and the engine is at work. -/
theorem accepted_after {tag : Nat} {a : UpdateArgs} {s : State} (hs : s.serves) (hc : s.coherent) :
    SameExcept [.wave, .engine, .cache, .light, .power, .link] s (walk (s.accepted tag a)) ∧
      (walk (s.accepted tag a)).power.mode = s.power.mode ∧ (walk (s.accepted tag a)).light = s.light.activity ∧
      (walk (s.accepted tag a)).cache = (useSource a.source s).cache ∧
      (walk (s.accepted tag a)).link.queue = s.link.queue ++ [.reply (plainReply 0x30 tag .accepted)] ∧
      (∀ n, n < 8 → (s.lane n).state ≠ .free → (walk (s.accepted tag a)).lane n = s.lane n) := by
  have hfacts := accepted_facts (tag := tag) (a := a) hs hc
  have hwalk := walk_frame (s.accepted tag a)
  have hpower := hwalk.2 .power (by decide)
  have hlane (n : Nat) : (s.accepted tag a).lane n = s.lane n := lane_of_lanes (by rw [hfacts.engine]) n
  obtain ⟨-, -, hfill⟩ := walk_leaves (s.accepted tag a)
  refine ⟨hfacts.frame.trans (hwalk.mono (by decide)), by rw [hpower, hfacts.mode], (hwalk.2 .light (by decide)).trans hfacts.light,
    (hwalk.2 .cache (by decide)).trans hfacts.cache, ?_, fun n hn hb => ?_⟩
  · rw [hwalk.2 .link (by decide), hfacts.queue]
  · exact (hfill.busy n hn (by rw [hlane]; exact hb)).trans (hlane n)

/-- With nothing pending an accepted update that may not start waits (R40, R41). -/
theorem accepted_waits {tag : Nat} {a : UpdateArgs} {s : State} (hs : s.serves) (hc : s.coherent) (hp : s.engine.pending = [])
    (hwait : s.engine.busyOver a.rect = true ∨ ∀ n, n < 8 → (s.lane n).state ≠ .free) :
    walk (s.accepted tag a) = (s.accepted tag a).onEngine (fun g => { g with pending := [hostEntry tag a] }) := by
  have hfacts := accepted_facts (tag := tag) (a := a) hs hc
  have hpending : (s.accepted tag a).engine.pending = [hostEntry tag a] := by rw [hfacts.engine, hp]; rfl
  have hlane (n : Nat) : (s.accepted tag a).lane n = s.lane n := lane_of_lanes (by rw [hfacts.engine]) n
  refine walk_single_waits hpending (Option.eq_none_iff_forall_ne_some.2 fun n hn => ?_)
  obtain ⟨-, hbusy, -, hlt, hfree, -⟩ := (startsOn_iff _ _ _ _).1 hn
  rw [hlane] at hfree
  rcases hwait with h | h
  · have hover : s.engine.busyOver a.rect = false :=
      (busyOver_false_iff s a.rect).2 fun k hk hb => by
        have h := hbusy k hk (by rw [hlane]; exact hb)
        rw [hlane] at h; exact h
    rw [h] at hover; cases hover
  · exact h n hlt hfree

/-- An accepted update passed the check of the rails and named a slot (R37). -/
theorem updateCheck_none {a : UpdateArgs} {s : State} (h : updateCheck a s = none) : a.slot ≤ 5 ∧ s.rail.mode ≠ .fault := by
  cases hg : s.pool.geometry with
  | none => rw [updateCheck_of_none hg] at h; cases h
  | some p =>
    by_cases hin : UpdateInRange a p
    · refine ⟨hin.1, fun hf => ?_⟩
      rw [updateCheck_inRange hg hin] at h
      by_cases hv : (s.slot a.slot).state = .valid
      · by_cases hthere : s.cache.leavesThere a.source a.shows
        · rw [lateCheck_there hv hthere, if_pos hf] at h; cases h
        · rw [lateCheck_leaf hv hthere] at h; cases h
      · rw [lateCheck_slot hv] at h; cases h
    · rw [updateCheck_badParam hg hin] at h; cases h

/-- With nothing pending an accepted update starts on the lowest FREE lane where its rectangle overlaps no busy one (R41). -/
theorem accepted_starts {tag : Nat} {a : UpdateArgs} {s : State} {n : Nat} (hs : s.serves) (hc : s.coherent)
    (hcheck : updateCheck a s = none) (hp : s.engine.pending = []) (hn : n < 8) (hbusy : s.engine.busyOver a.rect = false)
    (hfree : (s.lane n).state = .free) (hlow : ∀ k, k < n → (s.lane k).state ≠ .free) :
    walk (s.accepted tag a) = (startLane n (hostEntry tag a) (s.accepted tag a)).onEngine (fun g => { g with pending := [] }) := by
  have hfacts := accepted_facts (tag := tag) (a := a) hs hc
  have hpending : (s.accepted tag a).engine.pending = [hostEntry tag a] := by rw [hfacts.engine, hp]; rfl
  have hlane (n : Nat) : (s.accepted tag a).lane n = s.lane n := lane_of_lanes (by rw [hfacts.engine]) n
  refine walk_single_starts hpending ((startsOn_iff _ _ _ _).2 ⟨?_, fun k hk hb => ?_, by simp, hn, ?_, fun k hk => ?_⟩)
  · rw [hfacts.frame.2 .rail (by decide)]; exact (updateCheck_none hcheck).2
  · rw [hlane] at hb ⊢; exact (busyOver_false_iff s a.rect).1 hbusy k hk hb
  · rw [hlane]; exact hfree
  · rw [hlane]; exact hlow k hk

theorem setPending_lane (es : List PendingEntry) (s : State) (n : Nat) :
    (s.onEngine (fun g => { g with pending := es })).lane n = s.lane n := rfl

theorem startLane_scan (n : Nat) (e : PendingEntry) (s : State) : (startLane n e s).engine.scan = s.engine.scan := by
  simp only [startLane]
  split <;> rfl

/-- An accepted update is at work, on a lane or in the queue. -/
theorem accepted_at_work {tag : Nat} {a : UpdateArgs} {s : State} (hs : s.serves) (hc : s.coherent)
    (hcheck : updateCheck a s = none) (hp : s.engine.pending = []) :
    (walk (s.accepted tag a)).engine.uncertain = s.engine.uncertain ∧ (walk (s.accepted tag a)).engine.scan = s.engine.scan ∧
      (walk (s.accepted tag a)).engine.idle = false := by
  have hfacts := accepted_facts (tag := tag) (a := a) hs hc
  by_cases hwait : s.engine.busyOver a.rect = true ∨ ∀ n, n < 8 → (s.lane n).state ≠ .free
  · rw [accepted_waits hs hc hp hwait]
    exact ⟨by rw [onEngine_engine, hfacts.engine], by rw [onEngine_engine, hfacts.engine], idle_of_pending (by simp)⟩
  · push Not at hwait
    obtain ⟨hover, m, hm, hmfree⟩ := hwait
    obtain ⟨n, hn, hfree, hlow⟩ := exists_lowest_free hmfree hm
    rw [accepted_starts hs hc hcheck hp hn (Bool.eq_false_iff.2 hover) hfree hlow]
    obtain ⟨huncertain, -, -⟩ := startLane_rest n (hostEntry tag a) (s.accepted tag a)
    refine ⟨?_, ?_, idle_of_busy (n := n) ?_⟩
    · exact huncertain.trans (by rw [hfacts.engine])
    · exact (startLane_scan n (hostEntry tag a) (s.accepted tag a)).trans (by rw [hfacts.engine])
    · have hlane := startLane_lane_same (hostEntry tag a) (s.accepted tag a) hn
      rw [setPending_lane, hlane]
      simp

/-- Settles O33: an accepted update waits alone in the queue, or has its lane. -/
theorem acceptedUpdateStartsOrWaits : Obligations.AcceptedUpdateStartsOrWaits := by
  intro tag a s hs hc hcheck hp
  have hfacts := accepted_facts (tag := tag) (a := a) hs hc
  obtain ⟨hframe, hmode, hlight, hcache, hqueue, hbusy⟩ := accepted_after (tag := tag) (a := a) hs hc
  obtain ⟨huncertain, hscan, hidle⟩ := accepted_at_work (tag := tag) hs hc hcheck hp
  obtain ⟨hstays, hmodes⟩ := engineNotify_stays hidle
  have hsame := engineNotify_sameWork (walk (s.accepted tag a))
  obtain ⟨hdimmed, hdark⟩ := activity_marks s.light
  refine ⟨engineNotify (walk (s.accepted tag a)), exec_update_accepted hs hcheck, hsame.queue.trans hqueue, ?_, ?_, ?_, ?_,
    fun x _ => ?_, hmodes.trans hmode, ?_, ?_, fun n hn hb => (hsame.lane n).trans (hbusy n hn hb), fun n hn => ?_, fun ht => ?_,
    fun hwait => ?_, fun n hn hover hfree hlow => ?_⟩
  · rw [hstays.2 .light (by decide), hlight]; exact hdimmed
  · rw [hstays.2 .light (by decide), hlight]; exact hdark
  · exact hsame.rail.trans (hframe.2 .rail (by decide))
  · exact (hstays.2 .pool (by decide)).trans (hframe.2 .pool (by decide))
  · rw [hsame.mem]; exact hframe.mem_read (by decide) x
  · rw [hsame.engine, huncertain]
  · rw [hsame.engine, hscan]
  · rw [hstays.2 .cache (by decide), hcache, hn]; rfl
  · rw [hstays.2 .cache (by decide), hcache, ht]; rfl
  · rw [hsame.slot, hsame.engine, accepted_waits hs hc hp hwait]
    refine ⟨rfl, by rw [onEngine_engine, hfacts.engine], ?_⟩
    have hslot : (s.accepted tag a).slot a.slot = (useSlot a.slot s).slot a.slot := by rw [State.slot, hfacts.wave]; rfl
    have hlt : a.slot < 6 := Nat.lt_succ_of_le (updateCheck_none hcheck).1
    exact congrArg Slot.useCount (hslot.trans (onSlot_slot_same _ s hlt))
  · have hlane := startLane_lane_same (hostEntry tag a) (s.accepted tag a) hn
    rw [hsame.lane, hsame.engine, accepted_starts hs hc hcheck hp hn hover hfree hlow,
      setPending_lane, hlane]
    exact ⟨rfl, rfl, rfl, rfl, rfl, rfl, rfl, rfl, rfl⟩

/-! ## Frame events (R46 to R50) -/

/-! ### The notice of a lane that becomes DRIVING (R50, R88) -/

theorem showable_of_leaf {c : CacheState} {n : Nat} {x : Leaf} (h : c.leaf n = some x) (hm : x.mode = .ready ∨ x.mode = .shown) :
    c.showable n = true := by
  simpa [CacheState.showable, h] using hm

theorem not_showable_of_leaf {c : CacheState} {n : Nat} (h : ∀ x, c.leaf n = some x → x.mode = .filling) : c.showable n = false := by
  rw [CacheState.showable]
  split
  · rfl
  next x hx => simp [h x hx]

theorem showLeaf_there {c : CacheState} {n : Nat} (h : c.showable n = true) : c.showLeaf n = { c with
    leaves := c.leaves.map (fun x =>
      if x.number = n then { x with mode := .shown } else if x.mode = .shown then { x with mode := .ready } else x)
    current := some n, anchor := some n } := by
  simp only [CacheState.showLeaf, h, if_true, beq_iff_eq]; rfl

theorem showLeaf_gone {c : CacheState} {n : Nat} (h : c.showable n = false) : c.showLeaf n = c.showNone := by
  simp only [CacheState.showLeaf, h, Bool.false_eq_true, if_false]

/-- The leaf that a lane shows (R50). -/
theorem notice_shows {l : Lane} {n : Nat} (c : CacheState) (h : l.shows = some n ∨ (l.shows = none ∧ l.source = .leaf n)) :
    l.notice c = c.showLeaf n := by
  rw [Lane.notice]
  rcases h with h | ⟨h, h'⟩
  · rw [h]
  · rw [h, h']

theorem notice_target {l : Lane} (c : CacheState) (h : l.shows = none) (h' : l.source = .target) :
    l.notice c = if l.keepLeaf then c else c.showNone := by
  rw [Lane.notice, h, h']

/-! ### Joining -/

/-- An ARMED lane joins the scan (R46). -/
def Lane.joined (l : Lane) : Lane := if l.state = .armed then { l with state := .driving, index := 0 } else l

theorem joinLane_lane_same {n : Nat} (s : State) (hn : n < 8) : (joinLane n s).lane n = (s.lane n).joined := by
  simp only [joinLane, Lane.joined]
  split
  · exact onLane_lane_same _ s hn
  · rfl

theorem joinLane_lane_other (n k : Nat) (s : State) (h : k ≠ n) : (joinLane n s).lane k = s.lane k := by
  simp only [joinLane]
  split
  · exact onLane_lane_other (fun x => { x with state := .driving, index := 0 }) s h
  · rfl

theorem joinLane_cache (n : Nat) (s : State) :
    (joinLane n s).cache = if (s.lane n).state = .armed then (s.lane n).notice s.cache else s.cache := by
  simp only [joinLane]
  split <;> rfl

/-- Every ARMED lane has joined. -/
def State.joined (s : State) : State := eachLane joinLane s

theorem joined_lane (s : State) (n : Nat) : s.joined.lane n = (s.lane n).joined := by
  rcases Nat.lt_or_ge n 8 with hn | hn
  · obtain ⟨u, hu, he⟩ := eachLane_lane joinLane joinLane_lane_other s hn
    rw [State.joined, he, joinLane_lane_same u hn, hu]
  · rw [lane_beyond _ hn, lane_beyond _ hn]; rfl

/-- A join changes lanes and cache. -/
structure Joins (s t : State) : Prop where
  frame : SameExcept [.engine, .cache] s t
  mem : t.mem = s.mem
  engine : t.engine = { s.engine with lanes := t.engine.lanes }

theorem joinLane_joins (n : Nat) (s : State) : Joins s (joinLane n s) := by
  simp only [joinLane]
  split
  · exact ⟨((onLane_frame n (fun x => { x with state := .driving, index := 0 }) s).mono (by decide)).trans
      ((onCache_frame (s.lane n).notice _).mono (by decide)), rfl, rfl⟩
  · exact ⟨.refl _ s, rfl, rfl⟩

theorem joined_joins (s : State) : Joins s s.joined := by
  have hloop : ∀ (l : List Nat) (v : State), Joins s v → Joins s (l.foldl (fun s n => joinLane n s) v) := by
    intro l
    induction l with
    | nil => exact fun _ h => h
    | cons n l ih =>
      intro v h
      obtain ⟨hframe, hmem, hengine⟩ := joinLane_joins n v
      refine ih _ ⟨h.frame.trans hframe, hmem.trans h.mem, ?_⟩
      rw [hengine, h.engine]
  exact hloop _ s ⟨.refl _ s, rfl, rfl⟩

theorem lanes_toList (s : State) : s.engine.lanes.toList = (List.range 8).map s.lane := by
  refine List.ext_getElem (by simp) fun n hn hn' => ?_
  have hn : n < 8 := by simpa using hn
  simp [State.lane, recordAt, hn]

/-- The cache hears of the joining lanes in their order (R50). -/
theorem joined_cache (s : State) : s.joined.cache =
    (s.engine.lanes.toList.filter (fun l => l.state = .armed)).foldl (fun c l => l.notice c) s.cache := by
  have hloop : ∀ (l : List Nat), l.Nodup → ∀ v : State, (∀ n ∈ l, v.lane n = s.lane n) →
      (l.foldl (fun s n => joinLane n s) v).cache =
        ((l.map s.lane).filter (fun l => l.state = .armed)).foldl (fun c l => l.notice c) v.cache := by
    intro l
    induction l with
    | nil => exact fun _ _ _ => rfl
    | cons n l ih =>
      intro hnd v hv
      rw [List.nodup_cons] at hnd
      have hn := hv n List.mem_cons_self
      have hrest : ∀ k ∈ l, (joinLane n v).lane k = s.lane k := fun k hk => by
        rw [joinLane_lane_other n k v (fun he => hnd.1 (he ▸ hk)), hv k (List.mem_cons_of_mem _ hk)]
      rw [List.foldl_cons, ih hnd.2 _ hrest, joinLane_cache, hn, List.map_cons, List.filter_cons]
      by_cases harmed : (s.lane n).state = .armed
      · rw [if_pos harmed, if_pos (by simpa using harmed), List.foldl_cons]
      · rw [if_neg harmed, if_neg (by simpa using harmed)]
  rw [lanes_toList]
  exact hloop _ List.nodup_range s fun _ _ => rfl

/-! ### Driving -/

theorem driveFrame_works (s : State) : Works [.engine, .budget, .light, .power] s (driveFrame s) :=
  (Works.of_frame (onEngine_frame (fun e => { e with
    panel := s.engine.lanes.toList.flatMap s.laneDrive, load := (s.engine.lanes.toList.map s.laneLoad).sum }) s)).mono.trans
    (rebudget_works (fun b => { b with load := (s.engine.lanes.toList.map s.laneLoad).sum }) _).mono

/-- The budget unit after a recomputation, in a part that does not fall asleep in it. -/
theorem rebudget_budget (f : BudgetState → BudgetState) {s : State} (h : s.power.engineIdle = false) :
    (rebudget f s).budget = (f s.budget).recompute :=
  (lightEvent_works _ (s.onBudget fun b => (f b).recompute) h).frame.2 .budget (by decide)

/-- A frame has been driven, and no lane has completed yet (R47, R48, R61). -/
def State.driven (s : State) : State := (driveFrame s.joined).advanced

theorem advanced_works (s : State) : Works [.engine] s s.advanced := .of_frame (onEngine_frame _ s)

theorem driven_works (s : State) : Works [.engine, .budget, .cache, .light, .power] s s.driven := by
  obtain ⟨hframe, hmem, -⟩ := joined_joins s
  exact ((Works.of_frame hframe hmem).mono.trans (driveFrame_works s.joined).mono).trans (advanced_works _).mono

theorem driven_engine (s : State) : s.driven.engine = { s.engine with
    lanes := s.joined.engine.lanes.map Lane.advance, scan := some s.engine.framePeriod
    panel := s.joined.engine.lanes.toList.flatMap s.joined.laneDrive
    load := (s.joined.engine.lanes.toList.map s.joined.laneLoad).sum } := by
  have hjoined := (joined_joins s).engine
  rw [State.driven, State.advanced, onEngine_engine, driveFrame_engine, hjoined]

theorem driven_lane (s : State) (n : Nat) : s.driven.lane n = (s.lane n).joined.advance := by
  have hdrive : (driveFrame s.joined).lane n = s.joined.lane n := lane_of_lanes (by rw [driveFrame_engine]) n
  rw [State.driven, advanced_lane, hdrive, joined_lane]

theorem driveFrame_cache {s : State} (h : s.power.engineIdle = false) : (driveFrame s).cache = s.cache :=
  (driveFrame_works s h).frame.2 .cache (by decide)

theorem driveFrame_budget_load {s : State} (h : s.power.engineIdle = false) :
    (driveFrame s).budget.load = (s.engine.lanes.toList.map s.laneLoad).sum :=
  congrArg BudgetState.load (rebudget_budget (fun b => { b with load := (s.engine.lanes.toList.map s.laneLoad).sum })
    (s := s.onEngine (fun e => { e with
      panel := s.engine.lanes.toList.flatMap s.laneDrive, load := (s.engine.lanes.toList.map s.laneLoad).sum })) h)

theorem advanced_cache (s : State) : s.advanced.cache = s.cache := rfl

theorem advanced_budget (s : State) : s.advanced.budget = s.budget := rfl

theorem driven_cache {s : State} (h : s.power.engineIdle = false) : s.driven.cache = s.joined.cache := by
  have hpower : s.joined.power = s.power := (joined_joins s).frame.2 .power (by decide)
  rw [State.driven, advanced_cache, driveFrame_cache (by rw [hpower, h])]

theorem driven_budget_load {s : State} (h : s.power.engineIdle = false) : s.driven.budget.load = s.driven.engine.load := by
  have hpower : s.joined.power = s.power := (joined_joins s).frame.2 .power (by decide)
  rw [driven_engine, State.driven, advanced_budget, driveFrame_budget_load (by rw [hpower, h])]

theorem walk_empty {s : State} (h : s.engine.pending = []) : walk s = s := by
  rw [walk, h, walkFrom, ← h]; rfl

theorem runFrame_eq (s : State) : runFrame s =
    if (walk (eachLane completeLane s.driven)).engine.someLane .driving then walk (eachLane completeLane s.driven)
    else stopScan (walk (eachLane completeLane s.driven)) := rfl

/-- A lane with frames left does not complete (R52). -/
theorem completeLane_unfinished {n : Nat} {s : State} (h : (s.lane n).state = .driving → (s.lane n).index < (s.lane n).frames) :
    completeLane n s = s := by
  refine if_neg fun hc => ?_
  obtain ⟨hdrives, hdone⟩ := Bool.and_eq_true_iff.1 hc
  exact absurd (h (of_decide_eq_true hdrives)) (Nat.not_lt.2 (of_decide_eq_true hdone))

theorem Lane.advance_driving {l : Lane} (h : l.state = .driving) : l.advance = { l with index := l.index + 1 } := if_pos h

theorem Lane.advance_other {l : Lane} (h : l.state ≠ .driving) : l.advance = l := if_neg h

theorem Lane.joined_armed {l : Lane} (h : l.state = .armed) : l.joined = { l with state := .driving, index := 0 } := if_pos h

theorem Lane.joined_other {l : Lane} (h : l.state ≠ .armed) : l.joined = l := if_neg h

theorem Lane.advance_state (l : Lane) : l.advance.state = l.state := by
  obtain ⟨i, hi⟩ := l.advance_eq
  rw [hi]

/-- ARMED and DRIVING lanes drive at a frame event (R46, R47). -/
theorem driven_drives {s : State} {n : Nat} (h : (s.lane n).state = .armed ∨ (s.lane n).state = .driving) :
    (s.driven.lane n).state = .driving := by
  rw [driven_lane, Lane.advance_state]
  rcases h with h | h
  · rw [Lane.joined_armed h]
  · rw [Lane.joined_other (by simp [h]), h]

/-- A frame at which no lane completes, with nothing pending and a lane that drives. -/
theorem runFrame_quiet {s : State} (hpending : s.engine.pending = [])
    (hdrives : ∃ n, n < 8 ∧ ((s.lane n).state = .armed ∨ (s.lane n).state = .driving))
    (hmore : ∀ n, n < 8 → (s.driven.lane n).state = .driving → (s.driven.lane n).index < (s.driven.lane n).frames) :
    runFrame s = s.driven := by
  obtain ⟨n, hn, hstate⟩ := hdrives
  have hcomplete : eachLane completeLane s.driven = s.driven := by
    refine List.foldl_fixed' (fun k => completeLane_unfinished fun hk => ?_) _
    exact hmore k (lt_of_busy (s := s.driven) (by simp [hk])) hk
  have hwalk : walk (eachLane completeLane s.driven) = s.driven := by
    rw [hcomplete, walk_empty]
    rw [driven_engine]; exact hpending
  rw [runFrame_eq, hwalk, if_pos ((someLane_iff _ _).2 ⟨n, hn, driven_drives hstate⟩)]

/-- In a part that is in step the engine's own notice tells nothing new. -/
theorem atWork_of_busy {s : State} {n : Nat} (hs : s.coherent) (h : (s.lane n).state ≠ .free) : s.power.engineIdle = false :=
  hs.1.trans (idle_of_busy h)

/-- Settles O37: a frame event is a join, a frame of drive and a step of each index; and what the joining lanes tell the cache. -/
theorem frameEventDrivesTheLanes : Obligations.FrameEventDrivesTheLanes := by
  refine ⟨fun s => ⟨fun hno => ?_, fun hs hscan hon hpending hdrives harmed hdriving => ?_⟩, fun l c => ⟨fun n hn => ⟨?_, fun hgone => ?_⟩,
    fun hshows hsource hkeep => ?_, fun hshows hsource hkeep => ?_⟩⟩
  · refine congrArg Host.Outcome.next (if_neg fun hc => ?_)
    obtain ⟨hscan, hon⟩ := Bool.and_eq_true_iff.1 hc
    rcases hno with h | h
    · rw [h] at hscan; cases hscan
    · exact h (of_decide_eq_true hon)
  · obtain ⟨n, hn, hstate⟩ := hdrives
    have hwork : s.power.engineIdle = false := atWork_of_busy hs (n := n) (by rcases hstate with h | h <;> simp [h])
    obtain ⟨hframe, hmem, hmode, hstill⟩ := driven_works s hwork
    have hjoins := joined_joins s
    have hmore : ∀ k, k < 8 → (s.driven.lane k).state = .driving → (s.driven.lane k).index < (s.driven.lane k).frames := by
      intro k hk hd
      rw [driven_lane] at hd ⊢
      rw [Lane.advance_state] at hd
      rw [Lane.advance_driving hd]
      by_cases ha : (s.lane k).state = .armed
      · rw [Lane.joined_armed ha]; exact harmed k hk ha
      · rw [Lane.joined_other ha] at hd ⊢; exact hdriving k hk hd
    have hidle : s.driven.engine.idle = false := idle_of_busy (n := n) (by rw [driven_drives hstate]; simp)
    have hrun : exec .frameEvent s = .next s.driven := by
      refine congrArg Host.Outcome.next ((if_pos (by simp [hscan, hon])).trans ?_)
      rw [runFrame_quiet hpending ⟨n, hn, hstate⟩ hmore, engineNotify_told (by rw [hstill, hidle])]
    refine ⟨s.driven, s.joined, hrun, hjoins.mem, hjoins.frame.2 .pool (by decide), hjoins.frame.2 .wave (by decide),
      fun k _ => joined_lane s k, fun k _ => ?_, ?_, ?_, driven_budget_load hwork, ?_, ?_, (driven_cache hwork).trans (joined_cache s),
      hframe.2 .rail (by decide), congrArg LinkState.queue (hframe.2 .link (by decide)), ?_, ?_, hmode, hframe⟩
    · rw [driven_lane, joined_lane]; rfl
    · rw [driven_engine]
    · rw [driven_engine]
    · rw [driven_engine]
    · rw [driven_engine]; exact hpending
    · rw [driven_engine]
    · rw [driven_engine]
  · rintro ⟨x, hx, hm⟩
    rw [notice_shows c hn, showLeaf_there (showable_of_leaf hx hm)]
  · rw [notice_shows c hn, showLeaf_gone (not_showable_of_leaf hgone)]; rfl
  · rw [notice_target c hshows hsource, hkeep]; rfl
  · rw [notice_target c hshows hsource, hkeep]; rfl

/-! ## Room in the message queue (R184) -/

/-- There is room for `k` reports more, in a power state in which reports are raised. -/
structure HasRoom (k : Nat) (s : State) : Prop where
  awake : s.power.mode ≠ .standby
  reports : reportCount s.link.queue + k ≤ 28
  places : s.link.queue.length + (if s.link.reserved then 1 else 0) + k ≤ 32

/-- Room that holds whether or not a reply's place is held. -/
theorem HasRoom.of_lengths {k : Nat} {s : State} (hm : s.power.mode ≠ .standby) (hr : reportCount s.link.queue + k ≤ 28)
    (hl : s.link.queue.length + (k + 1) ≤ 32) : HasRoom k s := by
  refine ⟨hm, hr, ?_⟩
  split <;> omega

theorem HasRoom.congr {k : Nat} {s t : State} (h : HasRoom k s) (hl : t.link = s.link) (hm : t.power.mode = s.power.mode) :
    HasRoom k t := ⟨by rw [hm]; exact h.awake, by rw [hl]; exact h.reports, by rw [hl]; exact h.places⟩

theorem HasRoom.mono {j k : Nat} {s : State} (h : HasRoom k s) (hjk : j ≤ k) : HasRoom j s :=
  ⟨h.awake, by have := h.reports; omega, by have := h.places; omega⟩

theorem HasRoom.roomForReport {k : Nat} {s : State} (h : HasRoom (k + 1) s) : s.link.roomForReport = true := by
  obtain ⟨-, hr, hp⟩ := h
  have hreports : reportCount s.link.queue < Config.maxReports := Nat.lt_of_succ_le (by rw [Config.maxReports]; omega)
  have hplaces : s.link.queue.length + (if s.link.reserved then 1 else 0) < Config.queueSize :=
    Nat.lt_of_succ_le (by rw [Config.queueSize]; omega)
  exact Bool.and_eq_true_iff.2 ⟨decide_eq_true hreports, decide_eq_true hplaces⟩

/-- A report for which there is room joins the queue. -/
theorem HasRoom.raise {k : Nat} {s : State} (h : HasRoom (k + 1) s) (r : Report) :
    (raise r s).link.queue = s.link.queue ++ [.report r] ∧ HasRoom k (raise r s) := by
  have hjoin := raise_joins r s h.awake h.roomForReport
  have hqueue : (s.withEntry (.report r)).link.queue = s.link.queue ++ [.report r] := rfl
  have hreserved : (s.withEntry (.report r)).link.reserved = s.link.reserved := rfl
  obtain ⟨hm, hr, hp⟩ := h
  rw [hjoin]
  refine ⟨hqueue, by rw [withEntry_mode]; exact hm, ?_, ?_⟩
  · rw [hqueue, reportCount_append, reportCount_report]; omega
  · rw [hqueue, hreserved, List.length_append, List.length_singleton]; omega

theorem HasRoom.raiseAll {k : Nat} (rs : List Report) : ∀ {s : State}, HasRoom (k + rs.length) s →
    (raiseAll rs s).link.queue = s.link.queue ++ rs.map .report ∧ HasRoom k (raiseAll rs s) := by
  induction rs with
  | nil => exact fun h => ⟨(List.append_nil _).symm, h⟩
  | cons r rs ih =>
    intro s h
    obtain ⟨hqueue, hroom⟩ := HasRoom.raise (k := k + rs.length) h r
    obtain ⟨hqueues, hrooms⟩ := ih hroom
    exact ⟨by rw [List.map_cons, List.append_cons, ← hqueue]; exact hqueues, hrooms⟩

theorem excursionReport_length (n : Nat) (x : Slot) (t : Int) : (excursionReport n x t).length ≤ 1 := by
  rw [excursionReport]
  split
  · exact Nat.zero_le 1
  · split
    · exact Nat.zero_le 1
    · exact Nat.le_refl 1

/-- A band selection raises one report at most (R32). -/
theorem HasRoom.selectBand {k : Nat} {s : State} (h : HasRoom (k + 1) s) (t : Int) (n : Nat) :
    ∃ more, (selectBand t n s).link.queue = s.link.queue ++ more ∧ HasRoom k (selectBand t n s) := by
  rw [Machine.selectBand]
  split
  · have hroom : HasRoom (k + (excursionReport n (s.slot n) t).length) (onSlot n (fun x => x.select s.wave.hyst t) s) :=
      (h.mono (by have := excursionReport_length n (s.slot n) t; omega)).congr rfl rfl
    obtain ⟨hqueue, hrest⟩ := hroom.raiseAll
    exact ⟨_, hqueue, hrest⟩
  · exact ⟨[], (List.append_nil _).symm, h.mono (Nat.le_succ k)⟩

/-- A reading raises six reports at most (R32). -/
theorem HasRoom.takeReading {k : Nat} {s : State} (h : HasRoom (k + 6) s) (reading : Int) :
    ∃ more, (takeReading reading s).link.queue = s.link.queue ++ more ∧ HasRoom k (takeReading reading s) := by
  have hloop : ∀ (ns : List Nat) (v : State), HasRoom (k + ns.length) v →
      ∃ more, (ns.foldl (fun x n => Machine.selectBand (s.wave.filteredBy (clampReading reading)) n x) v).link.queue =
        v.link.queue ++ more ∧ HasRoom k (ns.foldl (fun x n => Machine.selectBand (s.wave.filteredBy (clampReading reading)) n x) v) := by
    intro ns
    induction ns with
    | nil => exact fun v hv => ⟨[], (List.append_nil _).symm, hv⟩
    | cons n ns ih =>
      intro v hv
      obtain ⟨first, hfirst, hroom⟩ := HasRoom.selectBand (k := k + ns.length) hv (s.wave.filteredBy (clampReading reading)) n
      obtain ⟨rest, hrest, hrooms⟩ := ih _ hroom
      exact ⟨first ++ rest, by rw [← List.append_assoc, ← hfirst]; exact hrest, hrooms⟩
  rw [takeReading_eq]
  exact hloop _ (s.sampled reading) (h.congr rfl rfl)

/-! ## What a freed lane gives up (R51) -/

/-- The leaves once a source is used once less (R51). -/
def Leaf.unused (src : Source) (l : Leaf) : Leaf := if src = .leaf l.number then { l with useCount := l.useCount - 1 } else l

theorem unuseSource_cache (src : Source) (s : State) :
    (unuseSource src s).cache = { s.cache with leaves := s.cache.leaves.map (Leaf.unused src) } := by
  cases src with
  | target =>
    have hid : s.cache.leaves.map (Leaf.unused .target) = s.cache.leaves := by
      conv_rhs => rw [← List.map_id s.cache.leaves]
      exact List.map_congr_left fun l _ => if_neg (by simp)
    rw [hid]; rfl
  | leaf n =>
    have hmap : s.cache.leaves.map (Leaf.unused (.leaf n)) =
        s.cache.leaves.map (fun l => if l.number == n then { l with useCount := l.useCount - 1 } else l) := by
      refine List.map_congr_left fun l _ => ?_
      by_cases hl : l.number = n
      · subst hl; simp [Leaf.unused]
      · rw [Leaf.unused, if_neg fun he => hl (by cases he; rfl), if_neg (by simpa using hl)]
    rw [hmap]; rfl

theorem unuseSlot_slot {n k : Nat} (s : State) (hk : k < 6) : (unuseSlot n s).slot k =
    if k = n then { s.slot k with useCount := (s.slot k).useCount - 1 } else s.slot k := by
  split
  next h => subst h; exact onSlot_slot_same _ s hk
  next h => exact onSlot_slot_other _ s h

/-- A freed lane gives up its slot and its leaf, and page memory and the queue stay. -/
theorem freeLane_parts (inFrame : Bool) (n : Nat) {s : State} (h : s.power.engineIdle = false) :
    (freeLane inFrame n s).wave = (unuseSlot (s.lane n).slot s).wave ∧
      (freeLane inFrame n s).cache = (unuseSource (s.lane n).source s).cache := by
  have hunused (src : Source) (k : Nat) : (unuseSource src (unuseSlot k (onLane n (fun _ => {}) s))).power.engineIdle = false ∧
      (unuseSource src (unuseSlot k (onLane n (fun _ => {}) s))).wave = (unuseSlot k s).wave ∧
      (unuseSource src (unuseSlot k (onLane n (fun _ => {}) s))).cache = (unuseSource src s).cache := by
    have hframe := unuseSource_frame src (unuseSlot k (onLane n (fun _ => {}) s))
    exact ⟨(congrArg PowerState.engineIdle (hframe.2 .power (by decide))).trans h, hframe.2 .wave (by decide),
      by rw [unuseSource_cache, unuseSource_cache]; rfl⟩
  obtain ⟨hwork, hwave, hcache⟩ := hunused (s.lane n).source (s.lane n).slot
  have hrest := (Works.ite ((s.lane n).armed = true) (fun _ => laneLeft_works _) fun _ => .refl _ _) hwork
  have hscan (u : State) (hu : u.power.engineIdle = false) (c : Prop) [Decidable c] :
      (if c then stopScan u else u).wave = u.wave ∧ (if c then stopScan u else u).cache = u.cache := by
    split
    · exact ⟨(stopScan_works u hu).frame.2 .wave (by decide), (stopScan_works u hu).frame.2 .cache (by decide)⟩
    · exact ⟨rfl, rfl⟩
  exact ⟨(hscan _ hrest.atWork _).1.trans ((hrest.frame.2 .wave (by decide)).trans hwave),
    (hscan _ hrest.atWork _).2.trans ((hrest.frame.2 .cache (by decide)).trans hcache)⟩

/-- The slots after a lane has been freed. -/
theorem freeLane_slot (inFrame : Bool) (n : Nat) {s : State} (h : s.power.engineIdle = false) {k : Nat} (hk : k < 6) :
    (freeLane inFrame n s).slot k =
      if k = (s.lane n).slot then { s.slot k with useCount := (s.slot k).useCount - 1 } else s.slot k := by
  rw [← unuseSlot_slot s hk, State.slot, (freeLane_parts inFrame n h).1]; rfl

theorem freeLane_cache (inFrame : Bool) (n : Nat) {s : State} (h : s.power.engineIdle = false) :
    (freeLane inFrame n s).cache = { s.cache with leaves := s.cache.leaves.map (Leaf.unused (s.lane n).source) } := by
  rw [(freeLane_parts inFrame n h).2, unuseSource_cache]

/-! ## A lane becomes ARMED (R64, R65, R46) -/

/-- The rails as a lane becomes ARMED, before power-good is looked at (R64). -/
def RailState.laneArmed (r : RailState) : RailState :=
  { r with
    armed := r.armed + 1
    mode := match r.mode with
      | .off => .rising
      | .hold => .on
      | m => m
    rise := if r.mode = .off then some r.riseTime else r.rise
    hold := if r.mode = .hold then none else r.hold }

theorem reportOn_idle {s : State} (h : s.engine.scan.isSome = true) : reportOn s = s := by
  refine if_neg fun hc => ?_
  obtain ⟨⟨-, hnone⟩, -⟩ := (Bool.and_eq_true_iff.1 hc).imp Bool.and_eq_true_iff.1 id
  rw [Option.isNone_iff_eq_none] at hnone
  rw [hnone] at h; cases h

theorem reportOn_starts {s : State} (hm : s.rail.mode = .on) (hs : s.engine.scan = none) (ha : s.engine.someLane .armed = true) :
    reportOn s = runFrame s := if_pos (by simp [hm, hs, ha])

/-- The rails rise, and power-good is still to come (R64). -/
theorem startRise_waits {s : State} (h : s.rail.powerGood = false) :
    startRise s = setRail .rising (s.onRail (fun r => { r with rise := some r.riseTime })) := by
  have hgood : (setRail .rising (s.onRail (fun r => { r with rise := some r.riseTime }))).rail.powerGood = false := by
    rw [setRail_rail]; exact h
  exact if_neg (by rw [hgood]; decide)

/-- Power-good that is there ends the rise at once (R65). -/
theorem startRise_ends {s : State} (h : s.rail.powerGood = true) :
    startRise s = endRise (setRail .rising (s.onRail (fun r => { r with rise := some r.riseTime }))) := by
  have hgood : (setRail .rising (s.onRail (fun r => { r with rise := some r.riseTime }))).rail.powerGood = true := by
    rw [setRail_rail]; exact h
  exact if_pos hgood

/-- A lane more is ARMED at the rails. -/
def State.counted (s : State) : State := s.onRail (fun r => { r with armed := r.armed + 1 })

theorem counted_works (s : State) : Works [.rail, .budget, .light, .power] s s.counted := (Works.of_frame (onRail_frame _ s)).mono

theorem laneArmed_eq (s : State) : laneArmed s = match s.rail.mode with
    | .off => startRise s.counted
    | .rising => s.counted
    | .on => reportOn s.counted
    | .hold => reportOn (setRail .on (s.counted.onRail (fun r => { r with hold := none })))
    | .falling => s.counted
    | .fault => s.counted := rfl

/-- The rails leave HOLD for a lane (R64). -/
def State.unheld (s : State) : State := setRail .on (s.counted.onRail (fun r => { r with hold := none }))

theorem unheld_works (s : State) : Works [.rail, .budget, .light, .power] s s.unheld :=
  (counted_works s).trans (onRail_setRail_works _ _ _)

theorem unheld_rail {s : State} (h : s.rail.mode = .hold) : s.unheld.rail = s.rail.laneArmed := by
  rw [State.unheld, setRail_rail]; simp [RailState.laneArmed, State.counted, h]

theorem unheld_engine (s : State) : s.unheld.engine = s.engine := setRail_engine _ _

/-- A lane that becomes ARMED where no frame is driven for it at once. -/
theorem laneArmed_waits {s : State} (h : s.rail.mode = .rising ∨ s.rail.mode = .falling ∨ (s.rail.mode = .off ∧ s.rail.powerGood = false) ∨
    ((s.rail.mode = .on ∨ s.rail.mode = .hold) ∧ s.engine.scan.isSome = true)) :
    Works [.rail, .budget, .light, .power] s (laneArmed s) ∧ (laneArmed s).rail = s.rail.laneArmed := by
  rcases h with hm | hm | ⟨hm, hgood⟩ | ⟨hm | hm, hscan⟩ <;> rw [laneArmed_eq, hm]
  · exact ⟨counted_works s, by simp [RailState.laneArmed, State.counted, hm]⟩
  · exact ⟨counted_works s, by simp [RailState.laneArmed, State.counted, hm]⟩
  · simp only
    rw [startRise_waits (s := s.counted) hgood]
    exact ⟨(counted_works s).trans (onRail_setRail_works _ _ _),
      by rw [setRail_rail]; simp [RailState.laneArmed, State.counted, hm]⟩
  · simp only
    rw [reportOn_idle (s := s.counted) hscan]
    exact ⟨counted_works s, by simp [RailState.laneArmed, State.counted, hm]⟩
  · simp only
    rw [← State.unheld, reportOn_idle (by rw [unheld_engine]; exact hscan)]
    exact ⟨unheld_works s, unheld_rail hm⟩

/-- The rails are ON for a lane that rises with power-good there. -/
def State.risen (s : State) : State :=
  setRail .on ((setRail .rising (s.counted.onRail (fun r => { r with rise := some r.riseTime }))).onRail (fun r => { r with rise := none }))

theorem risen_works (s : State) : Works [.rail, .budget, .light, .power] s s.risen :=
  (counted_works s).trans ((onRail_setRail_works _ _ _).trans (onRail_setRail_works _ _ _))

theorem risen_rail (s : State) : s.risen.rail = { s.rail with mode := .on, armed := s.rail.armed + 1, rise := none } := by
  rw [State.risen, setRail_rail, onRail_rail, setRail_rail]; rfl

theorem risen_engine (s : State) : s.risen.engine = s.engine := (setRail_engine _ _).trans (setRail_engine _ (s.counted.onRail _))

/-- A lane that becomes ARMED with the scan stopped and the rails ON at once: its first frame is driven (R46, R64, R65). -/
theorem laneArmed_starts {s : State} (h : (s.rail.mode = .off ∧ s.rail.powerGood = true) ∨ s.rail.mode = .on ∨ s.rail.mode = .hold)
    (hscan : s.engine.scan = none) (harmed : s.engine.someLane .armed = true) : ∃ w, laneArmed s = runFrame w ∧
      Works [.rail, .budget, .light, .power] s w ∧ w.engine = s.engine ∧ w.rail = { s.rail with
        mode := .on, armed := s.rail.armed + 1
        rise := if s.rail.mode = .off then none else s.rail.rise
        hold := if s.rail.mode = .hold then none else s.rail.hold } := by
  have hreport {w : State} (hw : w.rail.mode = .on) (he : w.engine = s.engine) : reportOn w = runFrame w :=
    reportOn_starts hw (by rw [he]; exact hscan) (by rw [he]; exact harmed)
  rcases h with ⟨hm, hgood⟩ | hm | hm <;> rw [laneArmed_eq, hm]
  · refine ⟨s.risen, ?_, risen_works s, risen_engine s, by rw [risen_rail]; simp⟩
    have harm : ¬s.risen.rail.armed = 0 := by rw [risen_rail]; exact Nat.succ_ne_zero _
    simp only
    rw [startRise_ends (s := s.counted) hgood]
    exact (if_neg harm).trans (hreport (w := s.risen) (by rw [risen_rail]) (risen_engine s))
  · exact ⟨s.counted, hreport hm rfl, counted_works s, rfl, by simp [State.counted, hm]⟩
  · have hrail := unheld_rail hm
    refine ⟨s.unheld, hreport (w := s.unheld) ?_ (unheld_engine s), unheld_works s, unheld_engine s, ?_⟩
    · rw [hrail]; simp [RailState.laneArmed, hm]
    · rw [hrail]; simp [RailState.laneArmed, hm]

/-! ## The band of a lane (R45, R33) -/

/-! ### The answer -/

/-- A lane in PREPARING that meets the rails in FAULT (R45, R98). -/
structure LaneRefused (n : Nat) (s t : State) : Prop where
  free : t.lane n = {}
  others : ∀ k, k ≠ n → t.lane k = s.lane k
  rail : t.rail = s.rail
  pending : t.engine.pending = s.engine.pending
  mem : t.mem = s.mem
  leaves : t.cache.leaves = s.cache.leaves.map (Leaf.unused (s.lane n).source)
  host : (s.lane n).origin = .host → HasRoom 1 s →
    t.link.queue = s.link.queue ++ [.report (.updateDone (s.lane n).tag .railFault (s.lane n).promoted)]
  turn : (s.lane n).origin = .turn → ∀ f, s.cache.flight = some f → t.cache.flight = none ∧ t.cache.deferred = none ∧
    t.cache.counter = s.cache.counter ∧ t.cache.current = s.cache.current ∧
    (HasRoom 1 s → t.link.queue = s.link.queue ++ [.report (.turnMiss f.dir (some f.leaf) .rail)])

/-- The notice that ends the event changes nothing of it. -/
theorem LaneRefused.told {n : Nat} {s t u : State} (h : LaneRefused n s t) (hu : SameWork t u) : LaneRefused n s u := by
  refine ⟨(hu.lane n).trans h.free, fun k hk => (hu.lane k).trans (h.others k hk), hu.rail.trans h.rail,
    (congrArg EngineState.pending hu.engine).trans h.pending, hu.mem.trans h.mem, hu.leaves.trans h.leaves,
    fun ho hr => hu.queue.trans (h.host ho hr), fun ho f hf => ?_⟩
  obtain ⟨hflight, hdeferred, hcounter, hcurrent, hqueue⟩ := h.turn ho f hf
  exact ⟨hu.flight.trans hflight, hu.deferred.trans hdeferred, hu.counter.trans hcounter, hu.current.trans hcurrent,
    fun hr => hu.queue.trans (hqueue hr)⟩

theorem turnAbandoned_none {c : MissCause} {s : State} (h : s.cache.flight = none) : turnAbandoned c s = s := by
  rw [turnAbandoned, h]

theorem turnAbandoned_some {c : MissCause} {s : State} {f : TurnFlight} (h : s.cache.flight = some f) : turnAbandoned c s =
    (raise (.turnMiss f.dir (some f.leaf) c) s).onCache (fun c => { c with flight := none, deferred := none }) := by
  rw [turnAbandoned, h]

theorem turnAbandoned_leaves (c : MissCause) (s : State) : (turnAbandoned c s).cache.leaves = s.cache.leaves := by
  rw [turnAbandoned]
  split
  · rfl
  · rw [onCache_cache, raise_cache]

theorem tellLane_leaves (l : Lane) (o : UpdateOutcome) (c : MissCause) (s : State) :
    (tellLane l o c s).cache.leaves = s.cache.leaves := by
  rw [tellLane]
  split
  · exact congrArg CacheState.leaves (raise_cache _ s)
  · exact turnAbandoned_leaves c s

/-- A lane that is not on the rails ends with a rail fault (R45, R51, R98). -/
theorem endLane_refused {n : Nat} {s : State} (hwork : s.power.engineIdle = false) (harmed : (s.lane n).armed = false) :
    LaneRefused n s (endLane n .railFault .rail s) := by
  obtain ⟨hframe, hmem, hmode, hwork'⟩ := freeLane_works false n s hwork
  obtain ⟨hframe', hmem', -, -⟩ := tellLane_works (s.lane n) .railFault .rail (freeLane false n s) hwork'
  have hcache := freeLane_cache false n hwork
  have hroom (h : HasRoom 1 s) : HasRoom 1 (freeLane false n s) := h.congr (hframe.2 .link (by decide)) hmode
  have hlink : (freeLane false n s).link.queue = s.link.queue := congrArg LinkState.queue (hframe.2 .link (by decide))
  refine ⟨endLane_lane_same n _ _ s, fun k hk => endLane_lane_other _ _ s hk, ?_, ?_, hmem'.trans hmem, ?_, fun ho hr => ?_,
    fun ho f hf => ?_⟩
  · exact (hframe'.2 .rail (by decide)).trans ((freeLane_rail false n s).trans (if_neg (by rw [harmed]; decide)))
  · rw [endLane_engine, (freeLane_rest false n s).2.2]
  · exact (tellLane_leaves _ _ _ _).trans (congrArg CacheState.leaves hcache)
  · rw [endLane, tellLane, ho, ((hroom hr).raise _).1, hlink]
  · have hflight : (freeLane false n s).cache.flight = some f := by rw [hcache]; exact hf
    rw [endLane, tellLane, ho]
    simp only
    rw [turnAbandoned_some hflight, onCache_cache, onCache_link, raise_cache, hcache]
    exact ⟨rfl, rfl, rfl, rfl, fun hr => by rw [((hroom hr).raise _).1, hlink]⟩

/-- In FAULT the lane is freed (R45). -/
theorem answerBand_fault {n : Nat} {s : State} (hwork : s.power.engineIdle = false) (hrail : s.rail.mode = .fault)
    (hprep : (s.lane n).state = .preparing) (hpending : s.engine.pending = []) : LaneRefused n s (answerBand n s) := by
  have hrefused := endLane_refused hwork (n := n) (by simp [Lane.armed, hprep])
  have hwalk : walk (endLane n .railFault .rail s) = endLane n .railFault .rail s :=
    walk_empty (hrefused.pending.trans hpending)
  have he : answerBand n s = endLane n .railFault .rail s := (if_pos hrail).trans hwalk
  rw [he]; exact hrefused

/-- A lane that has its band (R45). -/
def Lane.latched (l : Lane) (x : Slot) : Lane :=
  { l with state := .armed, band := some (x.band.getD 0), frames := x.frames.getD (x.band.getD 0) 0, bandHeld := false }

/-- The lane has its band and is ARMED (R45). -/
def State.latched (n : Nat) (s : State) : State := onLane n (fun l => l.latched (s.slot (s.lane n).slot)) s

theorem answerBand_latches {n : Nat} {s : State} (h : s.rail.mode ≠ .fault) : answerBand n s = laneArmed (s.latched n) := if_neg h

theorem latched_lane_same {n : Nat} (s : State) (hn : n < 8) :
    (s.latched n).lane n = (s.lane n).latched (s.slot (s.lane n).slot) := onLane_lane_same _ s hn

theorem latched_lane_other {n k : Nat} (s : State) (h : k ≠ n) : (s.latched n).lane k = s.lane k :=
  onLane_lane_other (fun l => l.latched (s.slot (s.lane n).slot)) s h

theorem latched_works (n : Nat) (s : State) : Works [.engine] s (s.latched n) := .of_frame (onLane_frame n _ s)

/-- Where no frame is driven for it at once, the lane waits ARMED for one (R64). -/
theorem answerBand_waits {n : Nat} {s : State} (hwork : s.power.engineIdle = false)
    (h : s.rail.mode = .rising ∨ s.rail.mode = .falling ∨ (s.rail.mode = .off ∧ s.rail.powerGood = false) ∨
      ((s.rail.mode = .on ∨ s.rail.mode = .hold) ∧ s.engine.scan.isSome = true)) :
    Stays [.engine, .rail, .budget, .light, .power] s (answerBand n s) ∧ (answerBand n s).engine = (s.latched n).engine ∧
      (answerBand n s).rail = s.rail.laneArmed := by
  obtain ⟨hworks, hrail⟩ := laneArmed_waits (s := s.latched n) h
  have hfault : s.rail.mode ≠ .fault := by
    rcases h with h | h | ⟨h, -⟩ | ⟨h | h, -⟩ <;> simp [h]
  have hstays := hworks (latched_works n s hwork).atWork
  rw [answerBand_latches hfault]
  exact ⟨(latched_works n s).mono.trans hworks.mono hwork, hstays.frame.2 .engine (by decide), hrail⟩

/-- With the scan stopped and the rails ON at once, the lane drives its first frame (R46, R64, R65). -/
theorem answerBand_drives {n : Nat} {s : State} (hn : n < 8)
    (h : (s.rail.mode = .off ∧ s.rail.powerGood = true) ∨ s.rail.mode = .on ∨ s.rail.mode = .hold)
    (hscan : s.engine.scan = none) (hpending : s.engine.pending = [])
    (hothers : ∀ k, k < 8 → k ≠ n → (s.lane k).state ≠ .armed ∧ (s.lane k).state ≠ .driving)
    (hframes : 1 < ((s.latched n).lane n).frames) :
    ∃ w, answerBand n s = w.driven ∧ Works [.engine, .rail, .budget, .light, .power] s w ∧ w.engine = (s.latched n).engine ∧
      w.rail = { s.rail with
        mode := .on, armed := s.rail.armed + 1
        rise := if s.rail.mode = .off then none else s.rail.rise
        hold := if s.rail.mode = .hold then none else s.rail.hold } := by
  have hfault : s.rail.mode ≠ .fault := by
    rcases h with ⟨h, -⟩ | h | h <;> simp [h]
  have harmed : ((s.latched n).lane n).state = .armed := by rw [latched_lane_same s hn]; rfl
  obtain ⟨w, he, hworks, hengine, hrail⟩ := laneArmed_starts (s := s.latched n) h hscan ((someLane_iff _ _).2 ⟨n, hn, harmed⟩)
  have hlane (k : Nat) : w.lane k = (s.latched n).lane k := lane_of_engine hengine k
  refine ⟨w, ?_, (latched_works n s).mono.trans hworks.mono, hengine, hrail⟩
  rw [answerBand_latches hfault, he]
  refine runFrame_quiet (by rw [hengine]; exact hpending) ⟨n, hn, .inl (by rw [hlane]; exact harmed)⟩ fun k hk hd => ?_
  by_cases hkn : k = n
  · subst hkn
    rw [driven_lane, hlane, Lane.joined_armed harmed, Lane.advance_driving rfl]
    exact hframes
  · obtain ⟨ha, hdr⟩ := hothers k hk hkn
    rw [driven_lane, hlane, latched_lane_other s hkn, Lane.advance_state, Lane.joined_other ha] at hd
    exact absurd hd hdr

/-! ### The request -/

/-- The transitions of a lane are counted (R44). -/
def State.counts (n : Nat) (s : State) : State :=
  onLane n (fun l => { l with hist := histogram (s.lanePixels (s.lane n)) }) s

theorem counts_lane_same {n : Nat} (s : State) (hn : n < 8) :
    (s.counts n).lane n = { s.lane n with hist := histogram (s.lanePixels (s.lane n)) } := onLane_lane_same _ s hn

theorem counts_lane_other {n k : Nat} (s : State) (h : k ≠ n) : (s.counts n).lane k = s.lane k :=
  onLane_lane_other (fun l => { l with hist := histogram (s.lanePixels (s.lane n)) }) s h

theorem exec_preparingEnd {n : Nat} {s : State} (hprep : (s.lane n).state = .preparing) (hheld : (s.lane n).bandHeld = false) :
    exec (.preparingEnd n) s = .next (engineNotify (askBand n (s.counts n))) :=
  congrArg Host.Outcome.next (if_pos (by simp [hprep, hheld]))

/-- A slot without a band selects one before it is asked (R33). -/
def State.asked (s : State) (k : Nat) (t : Int) : State := if (s.slot k).band.isNone then selectBand t k s else s

theorem askBand_some {n : Nat} {s : State} {t : Int} (h : s.wave.filtered = some t) :
    askBand n s = answerBand n (s.asked (s.lane n).slot t) := by
  rw [askBand, h]; rfl

theorem askBand_none {n : Nat} {s : State} (h : s.wave.filtered = none) :
    askBand n s = onLane n (fun l => { l with bandHeld := true }) s := by
  rw [askBand, h]

theorem selectBand_works (t : Int) (k : Nat) (s : State) : Works [.wave, .power, .link] s (selectBand t k s) :=
  .ite _ (fun _ => (Works.of_frame (onSlot_frame k (fun x => x.select s.wave.hyst t) s)).mono.trans (raiseAll_works _ _).mono)
    fun _ => .refl _ s

theorem asked_works (s : State) (k : Nat) (t : Int) : Works [.wave, .power, .link] s (s.asked k t) :=
  .ite _ (fun _ => selectBand_works t k s) fun _ => .refl _ s

theorem asked_engine (s : State) (k : Nat) (t : Int) : (s.asked k t).engine = s.engine :=
  engine_ite _ (fun _ => selectBand_engine _ _ s) fun _ => rfl

/-- A band selection raises a report at most; none where the slot has its band. -/
theorem HasRoom.asked {j : Nat} {s : State} (h : HasRoom (j + 1) s) (k : Nat) (t : Int) :
    ∃ more, (s.asked k t).link.queue = s.link.queue ++ more ∧ HasRoom j (s.asked k t) ∧
      ((s.slot k).band.isSome = true → more = []) := by
  rw [State.asked]
  split
  next hnone =>
    obtain ⟨more, hqueue, hroom⟩ := h.selectBand t k
    refine ⟨more, hqueue, hroom, fun hsome => ?_⟩
    rw [Option.isNone_iff_eq_none] at hnone
    rw [hnone] at hsome; cases hsome
  · exact ⟨[], (List.append_nil _).symm, h.mono (Nat.le_succ j), fun _ => rfl⟩

theorem slot_lt_of_valid {s : State} {k : Nat} (h : (s.slot k).state = .valid) : k < 6 := by
  by_contra hk
  rw [State.slot, recordAt_beyond _ _ _ (by omega)] at h
  cases h

/-- The band a lane is answered with (R33). -/
def Slot.answer (x : Slot) (t : Int) : Nat :=
  match x.band with
  | some b => b
  | none => bandOf x.uppers t

/-- A VALID slot has a band once asked (R31, R33). -/
theorem asked_slot {s : State} {k : Nat} (t : Int) (h : (s.slot k).state = .valid) :
    ((s.asked k t).slot k).band = some ((s.slot k).answer t) ∧ ((s.asked k t).slot k).frames = (s.slot k).frames := by
  rw [State.asked, Slot.answer]
  cases hb : (s.slot k).band with
  | some b => exact ⟨hb, rfl⟩
  | none =>
    rw [if_pos Option.isNone_none, selectBand_slot t k k s (slot_lt_of_valid h), if_pos rfl, Slot.selected, if_pos h]
    exact ⟨by rw [Slot.select, hb]; rfl, rfl⟩

theorem withRecord_withRecord {α : Type} {n : Nat} (v : Vector α n) (i : Nat) (f g : α → α) :
    withRecord (withRecord v i f) i g = withRecord v i (fun a => g (f a)) := by
  by_cases h : i < n <;> simp [withRecord, h]

/-- A loop over the lanes in which one lane alone has a part. -/
theorem eachLane_single (f : Nat → State → State) {n : Nat} {s : State} (hn : n < 8) (hbefore : ∀ k, k ≠ n → f k s = s)
    (hafter : ∀ k, k ≠ n → f k (f n s) = f n s) : eachLane f s = f n s := by
  have hrest : ∀ (l : List Nat), n ∉ l → l.foldl (fun s k => f k s) (f n s) = f n s := by
    intro l
    induction l with
    | nil => exact fun _ => rfl
    | cons k l ih =>
      intro hl
      rw [List.mem_cons, not_or] at hl
      rw [List.foldl_cons, hafter k (Ne.symm hl.1), ih hl.2]
  have hloop : ∀ (l : List Nat), l.Nodup → n ∈ l → l.foldl (fun s k => f k s) s = f n s := by
    intro l
    induction l with
    | nil => exact fun _ h => absurd h List.not_mem_nil
    | cons k l ih =>
      intro hnd hl
      rw [List.nodup_cons] at hnd
      rw [List.foldl_cons]
      by_cases hk : n = k
      · subst hk; exact hrest l hnd.1
      · rw [hbefore k (Ne.symm hk), ih hnd.2 ((List.mem_cons.1 hl).resolve_left hk)]
  exact hloop _ List.nodup_range (List.mem_range.2 hn)

/-! ## The end of PREPARING (R44, R45, R33) -/

theorem onLane_onLane (n : Nat) (f g : Lane → Lane) (s : State) : onLane n g (onLane n f s) =
    { s with engine := { s.engine with lanes := withRecord s.engine.lanes n (fun l => g (f l)) } } := by
  rw [← withRecord_withRecord]; rfl

/-- For a lane that does not prepare, or waits already, it is no event. -/
theorem preparingEnd_noEvent {n : Nat} {s : State} (h : (s.lane n).state ≠ .preparing ∨ (s.lane n).bandHeld = true) :
    exec (.preparingEnd n) s = .next s := by
  refine congrArg Host.Outcome.next (if_neg fun hc => ?_)
  obtain ⟨hprep, hheld⟩ := Bool.and_eq_true_iff.1 hc
  rcases h with h | h
  · exact h (of_decide_eq_true hprep)
  · rw [h] at hheld; cases hheld

/-- With no filtered temperature the request is held (R33). -/
theorem preparingEnd_holds {n : Nat} {s : State} (hn : n < 8) (hs : s.coherent) (hprep : (s.lane n).state = .preparing)
    (hheld : (s.lane n).bandHeld = false) (hno : s.wave.filtered = none) :
    exec (.preparingEnd n) s = .next { s with engine := { s.engine with
      lanes := withRecord s.engine.lanes n (fun l => { l with
        hist := histogram (s.lanePixels (s.lane n)), bandHeld := true }) } } := by
  have hask : askBand n (s.counts n) = onLane n (fun l => { l with bandHeld := true }) (s.counts n) := askBand_none hno
  have hbusy : ((onLane n (fun l => { l with bandHeld := true }) (s.counts n)).lane n).state ≠ .free := by
    rw [onLane_lane_same _ _ hn, counts_lane_same s hn, hprep]; simp
  have hs : s.power.engineIdle = false := atWork_of_busy (n := n) hs (by simp [hprep])
  have hwork : (onLane n (fun l => { l with bandHeld := true }) (s.counts n)).power.engineIdle = false := hs
  rw [exec_preparingEnd hprep hheld, hask, engineNotify_told (hwork.trans (idle_of_busy hbusy).symm), State.counts, onLane_onLane]

/-- What stands before the answer: the transitions counted, the slot asked for its band. -/
structure Asked (n : Nat) (s u : State) : Prop where
  frame : SameExcept [.wave, .engine, .power, .link] s u
  mem : u.mem = s.mem
  atWork : u.power.engineIdle = false
  mode : u.power.mode = s.power.mode
  engine : u.engine = { s.engine with lanes := u.engine.lanes }
  lane : u.lane n = { s.lane n with hist := histogram (s.lanePixels (s.lane n)) }
  others : ∀ k, k ≠ n → u.lane k = s.lane k

theorem preparingEnd_asks {n : Nat} {s : State} {t : Int} (hn : n < 8) (hs : s.coherent) (hprep : (s.lane n).state = .preparing)
    (hheld : (s.lane n).bandHeld = false) (ht : s.wave.filtered = some t) :
    exec (.preparingEnd n) s = .next (engineNotify (answerBand n ((s.counts n).asked (s.lane n).slot t))) ∧
      Asked n s ((s.counts n).asked (s.lane n).slot t) := by
  have hslot : ((s.counts n).lane n).slot = (s.lane n).slot := by rw [counts_lane_same s hn]
  have hask : askBand n (s.counts n) = answerBand n ((s.counts n).asked (s.lane n).slot t) := by
    rw [askBand_some (s := s.counts n) ht, hslot]
  have hcounts : Works [.engine] s (s.counts n) := .of_frame (onLane_frame n _ s)
  obtain ⟨hframe, hmem, hmode, hwork⟩ := (hcounts.mono (cs := [.wave, .engine, .power, .link])).trans
    (asked_works (s.counts n) (s.lane n).slot t).mono (atWork_of_busy (n := n) hs (by simp [hprep]))
  have hengine := asked_engine (s.counts n) (s.lane n).slot t
  have hlane (k : Nat) := lane_of_engine hengine k
  refine ⟨by rw [exec_preparingEnd hprep hheld, hask], hframe, hmem, hwork, hmode, by rw [hengine]; rfl, ?_, fun k hk => ?_⟩
  · rw [hlane, counts_lane_same s hn]
  · rw [hlane, counts_lane_other s hk]

/-- The room before the answer, a report of the slot's selection aside. -/
theorem preparingEnd_room {n j : Nat} {s : State} {t : Int} (h : HasRoom (j + 1) s) :
    ∃ more, ((s.counts n).asked (s.lane n).slot t).link.queue = s.link.queue ++ more ∧
      HasRoom j ((s.counts n).asked (s.lane n).slot t) ∧ ((s.slot (s.lane n).slot).band.isSome = true → more = []) :=
  HasRoom.asked (s := s.counts n) (h.congr rfl rfl) _ t

/-- The answer to a lane whose slot is VALID (R45). -/
def Lane.answered (l : Lane) (x : Slot) (b : Nat) : Lane :=
  { l with state := .armed, band := some b, frames := x.frames.getD b 0, bandHeld := false }

theorem latched_lane_of_band {n b : Nat} {u : State} {x : Slot} (hn : n < 8) (hb : (u.slot (u.lane n).slot).band = some b)
    (hf : (u.slot (u.lane n).slot).frames = x.frames) : (u.latched n).lane n = (u.lane n).answered x b := by
  rw [latched_lane_same u hn, Lane.latched, hb, hf]; rfl

theorem Asked.latched {n : Nat} {s : State} {t : Int} (hn : n < 8)
    (hu : Asked n s ((s.counts n).asked (s.lane n).slot t)) (hv : (s.slot (s.lane n).slot).state = .valid) :
    (((s.counts n).asked (s.lane n).slot t).latched n).lane n =
      { (s.lane n).answered (s.slot (s.lane n).slot) ((s.slot (s.lane n).slot).answer t) with
        hist := histogram (s.lanePixels (s.lane n)) } := by
  obtain ⟨hband, hframes⟩ := asked_slot (s := s.counts n) t hv
  rw [latched_lane_of_band (x := s.slot (s.lane n).slot) hn (by rw [hu.lane]; exact hband) (by rw [hu.lane]; exact hframes), hu.lane]
  rfl

/-- With the rails in FAULT the lane is freed (R45). -/
theorem preparingEnd_faults {n : Nat} {s : State} {tf : Int} (hn : n < 8) (hs : s.coherent) (hprep : (s.lane n).state = .preparing)
    (hheld : (s.lane n).bandHeld = false) (hf : s.wave.filtered = some tf) (hfault : s.rail.mode = .fault)
    (hpending : s.engine.pending = []) : ∃ t, exec (.preparingEnd n) s = .next t ∧
      LaneRefused n ((s.counts n).asked (s.lane n).slot tf) t ∧ Asked n s ((s.counts n).asked (s.lane n).slot tf) := by
  obtain ⟨hexec, hu⟩ := preparingEnd_asks hn hs hprep hheld hf
  have hrefused := answerBand_fault hu.atWork (n := n) (by rw [hu.frame.2 .rail (by decide)]; exact hfault)
    (by rw [hu.lane]; exact hprep) (by rw [hu.engine]; exact hpending)
  exact ⟨_, hexec, hrefused.told (engineNotify_sameWork _), hu⟩

/-- The lane waits ARMED where no frame is driven for it at once (R45, R64). -/
theorem preparingEnd_arms {n : Nat} {s : State} {tf : Int} (hn : n < 8) (hs : s.coherent) (hprep : (s.lane n).state = .preparing)
    (hheld : (s.lane n).bandHeld = false) (hf : s.wave.filtered = some tf)
    (hrail : s.rail.mode = .rising ∨ s.rail.mode = .falling ∨ (s.rail.mode = .off ∧ s.rail.powerGood = false) ∨
      ((s.rail.mode = .on ∨ s.rail.mode = .hold) ∧ s.engine.scan.isSome = true))
    (hv : (s.slot (s.lane n).slot).state = .valid) : ∃ t, exec (.preparingEnd n) s = .next t ∧
      t.lane n = { (s.lane n).answered (s.slot (s.lane n).slot) ((s.slot (s.lane n).slot).answer tf) with
        hist := histogram (s.lanePixels (s.lane n)) } ∧
      (∀ k, k ≠ n → t.lane k = s.lane k) ∧ t.rail = s.rail.laneArmed ∧ t.engine.pending = s.engine.pending ∧
      t.power.mode = s.power.mode ∧ SameExcept [.wave, .engine, .rail, .budget, .light, .power, .link] s t := by
  obtain ⟨hexec, hu⟩ := preparingEnd_asks hn hs hprep hheld hf
  have hsame : ((s.counts n).asked (s.lane n).slot tf).rail = s.rail := hu.frame.2 .rail (by decide)
  have hscan : ((s.counts n).asked (s.lane n).slot tf).engine.scan = s.engine.scan := by rw [hu.engine]
  obtain ⟨⟨hframe, -, hmode, hwork⟩, hengine, hrails⟩ := answerBand_waits (n := n) hu.atWork (by rw [hsame, hscan]; exact hrail)
  have hlane (k : Nat) := lane_of_engine hengine k
  have harmed := hu.latched hn hv
  have hidle := idle_of_busy (s := answerBand n ((s.counts n).asked (s.lane n).slot tf)) (n := n)
    (by rw [hlane, harmed, Lane.answered]; simp)
  rw [engineNotify_told (hwork.trans hidle.symm)] at hexec
  refine ⟨_, hexec, (hlane n).trans harmed, fun k hk => ?_, by rw [hrails, hsame], ?_, hmode.trans hu.mode,
    (hu.frame.mono (by decide)).trans (hframe.mono (by decide))⟩
  · rw [hlane, latched_lane_other _ hk, hu.others k hk]
  · have hpending : ((s.counts n).asked (s.lane n).slot tf).engine.pending = s.engine.pending := by rw [hu.engine]
    rw [hengine]; exact hpending

/-- The lane drives its first frame where the rails are ON at once and the scan stopped (R46, R65). -/
theorem preparingEnd_drives {n : Nat} {s : State} {tf : Int} (hn : n < 8) (hs : s.coherent) (hprep : (s.lane n).state = .preparing)
    (hheld : (s.lane n).bandHeld = false) (hf : s.wave.filtered = some tf)
    (hrail : (s.rail.mode = .off ∧ s.rail.powerGood = true) ∨ s.rail.mode = .on ∨ s.rail.mode = .hold)
    (hscan : s.engine.scan = none) (hpending : s.engine.pending = [])
    (hothers : ∀ k, k < 8 → k ≠ n → (s.lane k).state ≠ .armed ∧ (s.lane k).state ≠ .driving)
    (hv : (s.slot (s.lane n).slot).state = .valid)
    (hframes : 1 < (s.slot (s.lane n).slot).frames.getD ((s.slot (s.lane n).slot).answer tf) 0) :
    ∃ t, exec (.preparingEnd n) s = .next t ∧
      t.lane n = { (s.lane n).answered (s.slot (s.lane n).slot) ((s.slot (s.lane n).slot).answer tf) with
        state := .driving, index := 1, hist := histogram (s.lanePixels (s.lane n)) } ∧
      (∀ k, k ≠ n → t.lane k = s.lane k) ∧
      t.rail = { s.rail with
        mode := .on, armed := s.rail.armed + 1
        rise := if s.rail.mode = .off then none else s.rail.rise
        hold := if s.rail.mode = .hold then none else s.rail.hold } ∧
      t.engine.scan = some s.engine.framePeriod ∧ t.engine.pending = [] ∧ t.budget.load = t.engine.load ∧
      t.power.mode = s.power.mode ∧ t.mem = s.mem := by
  obtain ⟨hexec, hu⟩ := preparingEnd_asks hn hs hprep hheld hf
  have hsame : ((s.counts n).asked (s.lane n).slot tf).rail = s.rail := hu.frame.2 .rail (by decide)
  have harmed := hu.latched hn hv
  obtain ⟨w, hw, hworks, hengine, hrails⟩ := answerBand_drives (n := n) hn (by rw [hsame]; exact hrail)
    (by rw [hu.engine]; exact hscan) (by rw [hu.engine]; exact hpending) (fun k hk hkn => by rw [hu.others k hkn]; exact hothers k hk hkn)
    (by rw [harmed]; exact hframes)
  obtain ⟨-, hmem, hmode, hwork⟩ := hworks hu.atWork
  obtain ⟨hframe', hmem', hmode', hwork'⟩ := driven_works w hwork
  have hlane (k : Nat) : w.lane k = (((s.counts n).asked (s.lane n).slot tf).latched n).lane k := lane_of_engine hengine k
  have hstate : (w.lane n).state = .armed := by rw [hlane, harmed]; rfl
  have hidle := idle_of_busy (s := w.driven) (n := n) (by rw [driven_drives (.inl hstate)]; simp)
  have hrest : w.engine = { s.engine with lanes := w.engine.lanes } := by
    rw [hengine, State.latched, onLane, onEngine_engine, hu.engine]
  rw [hw, engineNotify_told (hwork'.trans hidle.symm)] at hexec
  refine ⟨_, hexec, ?_, fun k hk => ?_, ?_, ?_, ?_, driven_budget_load hwork, hmode'.trans (hmode.trans hu.mode),
    hmem'.trans (hmem.trans hu.mem)⟩
  · rw [driven_lane, Lane.joined_armed hstate, Lane.advance_driving rfl, hlane, harmed]
  · rw [driven_lane, hlane, latched_lane_other _ hk, hu.others k hk]
    rcases Nat.lt_or_ge k 8 with hlt | hge
    · obtain ⟨ha, hd⟩ := hothers k hlt hk
      rw [Lane.joined_other ha, Lane.advance_other hd]
    · rw [lane_beyond s hge]; rfl
  · rw [hframe'.2 .rail (by decide), hrails, hsame]
  · rw [driven_engine, hrest]
  · rw [driven_engine, hrest]; exact hpending

/-! ### The first reading -/

/-- Of the lanes one alone waits for a band (R33). -/
theorem answerHeld_one {n : Nat} {u : State} (hn : n < 8) (hheld : (u.lane n).bandHeld = true)
    (hothers : ∀ k, k < 8 → k ≠ n → (u.lane k).bandHeld = false)
    (hafter : ∀ k, k ≠ n → (answerBand n u).lane k = u.lane k) : answerHeld u = answerBand n u := by
  have hfree (k : Nat) (hk : k ≠ n) : (u.lane k).bandHeld = false := by
    rcases Nat.lt_or_ge k 8 with hlt | hge
    · exact hothers k hlt hk
    · rw [lane_beyond u hge]
  have hself : (if (u.lane n).bandHeld then answerBand n u else u) = answerBand n u := if_pos hheld
  have hloop := eachLane_single (fun n s => if (s.lane n).bandHeld then answerBand n s else s) (n := n) (s := u) hn
    (fun k hk => if_neg (by rw [hfree k hk]; decide))
    (fun k hk => if_neg (by simp only [hself]; rw [hafter k hk, hfree k hk]; decide))
  exact hloop.trans hself

/-- A reading leaves lanes, rails and memory alone, and gives a VALID slot its band (R31). -/
structure Read (reading : Int) (s u : State) : Prop where
  engine : u.engine = s.engine
  rail : u.rail = s.rail
  mem : u.mem = s.mem
  atWork : u.power.engineIdle = false
  mode : u.power.mode = s.power.mode
  slot : ∀ k, k < 6 → (s.slot k).state = .valid → u.slot k =
    (s.slot k).select s.wave.hyst (s.wave.filteredBy (clampReading reading))

theorem takeReading_read (reading : Int) {s : State} (h : s.power.engineIdle = false) : Read reading s (takeReading reading s) := by
  have hworks : Works [.wave, .power, .link] s (takeReading reading s) := by
    rw [takeReading_eq]
    exact (Works.of_frame (onWave_frame _ s)).mono.trans (foldl_works _ (fun x n => selectBand_works _ n x) _ _)
  obtain ⟨hframe, hmem, hmode, hwork⟩ := hworks h
  exact ⟨hframe.2 .engine (by decide), hframe.2 .rail (by decide), hmem, hwork, hmode,
    fun k hk hv => (takeReading_slot reading s hk).trans (if_pos hv)⟩

/-- At the first reading the lane that waits is answered with the band its slot takes at it (R33). -/
theorem tempSample_arms {n : Nat} {reading : Int} {s : State} (hn : n < 8) (hs : s.coherent) (htimer : s.wave.timer ≠ .stopped)
    (hprep : (s.lane n).state = .preparing) (hheld : (s.lane n).bandHeld = true) (hslot : (s.lane n).slot < 6)
    (hothers : ∀ k, k < 8 → k ≠ n → (s.lane k).bandHeld = false) (hv : (s.slot (s.lane n).slot).state = .valid)
    (hrail : s.rail.mode = .rising ∨ s.rail.mode = .falling ∨ (s.rail.mode = .off ∧ s.rail.powerGood = false) ∨
      ((s.rail.mode = .on ∨ s.rail.mode = .hold) ∧ s.engine.scan.isSome = true)) :
    ∃ t, exec (.tempSample reading) s = .next t ∧ t.lane n = (s.lane n).answered (s.slot (s.lane n).slot)
        (nextBand (s.slot (s.lane n).slot).uppers s.wave.hyst (s.slot (s.lane n).slot).band
          (s.wave.filteredBy (clampReading reading))) ∧
      (∀ k, k ≠ n → t.lane k = s.lane k) ∧ t.rail = s.rail.laneArmed ∧ t.mem = s.mem := by
  have hu := takeReading_read reading (atWork_of_busy (n := n) hs (by simp [hprep]))
  have hlane (k : Nat) : (takeReading reading s).lane k = s.lane k := lane_of_engine hu.engine k
  have hband := hu.slot _ hslot hv
  obtain ⟨⟨hframe, hmem, hmode, hwork⟩, hengine, hrails⟩ := answerBand_waits (n := n) hu.atWork
    (by rw [hu.rail, hu.engine]; exact hrail)
  have hkept : ∀ k, k ≠ n → (answerBand n (takeReading reading s)).lane k = (takeReading reading s).lane k :=
    fun k hk => (lane_of_engine hengine k).trans (latched_lane_other _ hk)
  have harmed : (answerBand n (takeReading reading s)).lane n = (s.lane n).answered (s.slot (s.lane n).slot)
      (nextBand (s.slot (s.lane n).slot).uppers s.wave.hyst (s.slot (s.lane n).slot).band
        (s.wave.filteredBy (clampReading reading))) := by
    rw [lane_of_engine hengine n, latched_lane_of_band (x := s.slot (s.lane n).slot) hn (by rw [hlane, hband]; rfl)
      (by rw [hlane, hband]; rfl), hlane]
  have hidle := idle_of_busy (s := answerBand n (takeReading reading s)) (n := n) (by rw [harmed, Lane.answered]; simp)
  have hexec := execTempSample_runs (reading := reading) htimer
  rw [answerHeld_one hn (by rw [hlane]; exact hheld) (fun k hk hkn => by rw [hlane]; exact hothers k hk hkn) hkept,
    engineNotify_told (hwork.trans hidle.symm)] at hexec
  exact ⟨_, hexec, harmed, fun k hk => (hkept k hk).trans (hlane k), by rw [hrails, hu.rail], hmem.trans hu.mem⟩

/-- With the rails in FAULT the lane that waits is freed at the first reading (R33, R45). -/
theorem tempSample_faults {n : Nat} {reading : Int} {s : State} (hn : n < 8) (hs : s.coherent) (htimer : s.wave.timer ≠ .stopped)
    (hprep : (s.lane n).state = .preparing) (hheld : (s.lane n).bandHeld = true)
    (hothers : ∀ k, k < 8 → k ≠ n → (s.lane k).bandHeld = false) (hfault : s.rail.mode = .fault) (hpending : s.engine.pending = []) :
    ∃ t, exec (.tempSample reading) s = .next t ∧ LaneRefused n (takeReading reading s) t ∧ Read reading s (takeReading reading s) := by
  have hu := takeReading_read reading (atWork_of_busy (n := n) hs (by simp [hprep]))
  have hlane (k : Nat) : (takeReading reading s).lane k = s.lane k := lane_of_engine hu.engine k
  have hrefused := answerBand_fault hu.atWork (n := n) (by rw [hu.rail]; exact hfault) (by rw [hlane]; exact hprep)
    (by rw [hu.engine]; exact hpending)
  have hexec := execTempSample_runs (reading := reading) htimer
  rw [answerHeld_one hn (by rw [hlane]; exact hheld) (fun k hk hkn => by rw [hlane]; exact hothers k hk hkn) hrefused.others] at hexec
  exact ⟨_, hexec, hrefused.told (engineNotify_sameWork _), hu⟩

theorem tempSample_filters {reading : Int} {s t : State} (htimer : s.wave.timer ≠ .stopped)
    (h : exec (.tempSample reading) s = .next t) : t.wave.filtered = some (s.wave.filteredBy (clampReading reading)) := by
  rw [execTempSample_runs htimer] at h
  obtain ⟨-, -, hfiltered, -⟩ := sampled_sensor (s := s)
    ((engineNotify_sensing _).trans ((answerHeld_sensing _).trans (takeReading_sensing reading s)))
  rw [← Host.Outcome.next.inj h]
  exact hfiltered

/-- Settles O36: the end of PREPARING, and the first reading for a lane that waits for one. -/
theorem preparingEndArmsTheLane : Obligations.PreparingEndArmsTheLane := by
  refine ⟨fun n s hn hs => ⟨preparingEnd_noEvent, fun hprep hheld => ⟨preparingEnd_holds hn hs hprep hheld,
    fun tf hf hfault hpending => ?_, fun tf hf hrail hv => ?_, fun tf b hf hrail hscan hpending hothers hv hb hframes => ?_⟩⟩,
    fun n reading s hn hs htimer hprep hheld hslot hothers hv => ⟨fun hrail => ?_, fun hfault hpending => ?_⟩⟩
  · obtain ⟨t, hexec, hr, hu⟩ := preparingEnd_faults hn hs hprep hheld hf hfault hpending
    have hlane := hu.lane
    have hcache : ((s.counts n).asked (s.lane n).slot tf).cache = s.cache := hu.frame.2 .cache (by decide)
    refine ⟨t, hexec, by rw [hr.free], fun k hk => (hr.others k hk).trans (hu.others k hk),
      hr.rail.trans (hu.frame.2 .rail (by decide)), hr.pending.trans (by rw [hu.engine]; exact hpending), ?_,
      fun ho hm hreports hplaces => ?_, fun ho f hflight => ?_, fun x _ => by rw [hr.mem, hu.mem]⟩
    · rw [hr.leaves, hcache, hlane]; rfl
    · obtain ⟨more, hqueue, hroom, hnone⟩ := preparingEnd_room (n := n) (t := tf) (HasRoom.of_lengths (k := 2) hm hreports hplaces)
      refine ⟨more, ?_, hnone⟩
      rw [hr.host (by rw [hlane]; exact ho) hroom, hqueue, hlane]
    · obtain ⟨hgone, hdeferred, hcounter, hcurrent, hturn⟩ := hr.turn (by rw [hlane]; exact ho) f (by rw [hcache]; exact hflight)
      refine ⟨hgone, hdeferred, hcounter.trans (by rw [hcache]), hcurrent.trans (by rw [hcache]), fun hm hreports hplaces => ?_⟩
      obtain ⟨more, hqueue, hroom, hnone⟩ := preparingEnd_room (n := n) (t := tf) (HasRoom.of_lengths (k := 2) hm hreports hplaces)
      exact ⟨more, by rw [hturn hroom, hqueue], hnone⟩
  · obtain ⟨t, hexec, hlane, hothers, hrails, hpending, hmode, hframe⟩ := preparingEnd_arms hn hs hprep hheld hf hrail hv
    refine ⟨t, hexec, by rw [hlane]; rfl, by rw [hlane], by rw [hlane]; rfl, by rw [hlane]; rfl, by rw [hlane]; rfl,
      by rw [hlane]; rfl, hothers, by rw [hrails]; rfl, by rw [hrails]; rfl, fun hoff => ?_, hpending, hmode, hframe⟩
    rw [hrails]; exact if_pos hoff
  · subst hb
    obtain ⟨t, hexec, hlane, hkept, hrails, hscans, hpendings, hload, hmode, hmem⟩ :=
      preparingEnd_drives hn hs hprep hheld hf hrail hscan hpending hothers hv hframes
    exact ⟨t, hexec, hlane, hkept, hrails, hscans, hpendings, hload, hmode, fun x _ => by rw [hmem]⟩
  · obtain ⟨t, hexec, hlane, hkept, hrails, hmem⟩ := tempSample_arms (reading := reading) hn hs htimer hprep hheld hslot hothers hv hrail
    exact ⟨t, _, _, hexec, tempSample_filters htimer hexec, rfl, hlane, hkept, by rw [hrails]; rfl, fun x _ => by rw [hmem]⟩
  · obtain ⟨t, hexec, hr, hu⟩ := tempSample_faults (reading := reading) hn hs htimer hprep hheld hothers hfault hpending
    have hlane (k : Nat) : (takeReading reading s).lane k = s.lane k := lane_of_engine hu.engine k
    refine ⟨t, hexec, by rw [hr.free], fun k hk => (hr.others k hk).trans (hlane k), fun ho hm hreports hplaces => ?_,
      fun x _ => by rw [hr.mem, hu.mem]⟩
    obtain ⟨more, hqueue, hroom⟩ := HasRoom.takeReading (k := 1) (HasRoom.of_lengths (k := 7) hm hreports hplaces) reading
    refine ⟨more, ?_⟩
    rw [hr.host (by rw [hlane]; exact ho) hroom, hqueue, hlane]

/-! ## UPDATE_CANCEL (R53) -/

/-! ### What a collapse of the uncertain region list does beside (R57) -/

theorem endLane_works (n : Nat) (o : UpdateOutcome) (c : MissCause) (s : State) :
    Works [.wave, .engine, .rail, .budget, .cache, .light, .power, .link] s (endLane n o c s) :=
  (freeLane_works false n s).mono.trans (tellLane_works _ o c _).mono

theorem endChanged_works (n : Nat) (s : State) :
    Works [.wave, .engine, .rail, .budget, .cache, .light, .power, .link] s (endChanged n s) :=
  .ite _ (fun _ => endLane_works n _ _ s) fun _ => .refl _ s

theorem freeChanged_works (s : State) : Works [.wave, .engine, .rail, .budget, .cache, .light, .power, .link] s (freeChanged s) := by
  rw [freeChanged_eq]
  exact eachLane_works endChanged endChanged_works s

theorem onEngine_works (f : EngineState → EngineState) (s : State) : Works [.engine] s (s.onEngine f) :=
  .of_frame (onEngine_frame f s)

theorem addUncertain_works (r : Rect) (s : State) :
    Works [.wave, .engine, .rail, .budget, .cache, .light, .power, .link] s (addUncertain r s) := by
  rcases addUncertain_cases r s with h | h | h <;> rw [h]
  · exact .refl _ s
  · exact (onEngine_works _ s).mono
  · exact (onEngine_works _ s).mono.trans (freeChanged_works _)

/-- The message queue only grows. -/
def Grows (s t : State) : Prop := ∃ more, t.link.queue = s.link.queue ++ more

theorem Grows.refl (s : State) : Grows s s := ⟨[], (List.append_nil _).symm⟩

theorem Grows.trans {s t u : State} (h : Grows s t) (h' : Grows t u) : Grows s u := by
  obtain ⟨more, hmore⟩ := h
  obtain ⟨rest, hrest⟩ := h'
  exact ⟨more ++ rest, by rw [hrest, hmore, List.append_assoc]⟩

theorem Grows.of_link {s t : State} (h : t.link = s.link) : Grows s t := ⟨[], by rw [h, List.append_nil]⟩

theorem raise_grows (r : Report) (s : State) : Grows s (raise r s) := by
  by_cases hm : s.power.mode = .standby
  · rw [raise_standby r s hm]; exact .refl s
  · cases hr : s.link.roomForReport with
    | true => rw [raise_joins r s hm hr]; exact ⟨[.report r], rfl⟩
    | false => rw [raise_drops r s hm hr]; exact .refl s

theorem tellLane_grows (l : Lane) (o : UpdateOutcome) (c : MissCause) (s : State) : Grows s (tellLane l o c s) := by
  rw [tellLane]
  split
  · exact raise_grows _ s
  · rw [turnAbandoned]
    split
    · exact .refl s
    · exact raise_grows _ s

theorem endChanged_grows (n : Nat) {s : State} (h : s.power.engineIdle = false) : Grows s (endChanged n s) := by
  rw [endChanged]
  split
  · exact (Grows.of_link ((freeLane_works false n s h).frame.2 .link (by decide))).trans (tellLane_grows _ _ _ _)
  · exact .refl s

theorem freeChanged_grows {s : State} (h : s.power.engineIdle = false) : Grows s (freeChanged s) := by
  have hloop : ∀ (l : List Nat) (v : State), v.power.engineIdle = false → Grows v (l.foldl (fun s n => endChanged n s) v) := by
    intro l
    induction l with
    | nil => exact fun v _ => .refl v
    | cons n l ih => exact fun v hv => (endChanged_grows n hv).trans (ih _ (endChanged_works n v hv).atWork)
  rw [freeChanged_eq]
  exact hloop _ s h

theorem addUncertain_grows (r : Rect) {s : State} (h : s.power.engineIdle = false) : Grows s (addUncertain r s) := by
  rcases addUncertain_cases r s with he | he | he <;> rw [he]
  · exact .refl s
  · exact .refl s
  · exact freeChanged_grows (s := s.onEngine (fun e => { e with uncertain := [s.panelRect], whole := true })) h

/-- The scan is stopped, with a load of 0. -/
def EngineState.stopped (e : EngineState) : Prop := e.scan = none ∧ e.load = 0

theorem endChanged_stopped (n : Nat) {s : State} (h : s.engine.stopped) : (endChanged n s).engine.stopped := by
  rw [endChanged]
  split
  · rw [endLane_engine, freeLane_engine, if_neg (by rw [h.1]; simp)]; exact h
  · exact h

theorem freeChanged_stopped {s : State} (h : s.engine.stopped) : (freeChanged s).engine.stopped := by
  have hloop : ∀ (l : List Nat) (v : State), v.engine.stopped → (l.foldl (fun s n => endChanged n s) v).engine.stopped := by
    intro l
    induction l with
    | nil => exact fun _ hv => hv
    | cons n l ih => exact fun v hv => ih _ (endChanged_stopped n hv)
  rw [freeChanged_eq]
  exact hloop _ s h

theorem addUncertain_stopped (r : Rect) {s : State} (h : s.engine.stopped) : (addUncertain r s).engine.stopped := by
  rcases addUncertain_cases r s with he | he | he <;> rw [he]
  · exact h
  · exact h
  · exact freeChanged_stopped (s := s.onEngine (fun e => { e with uncertain := [s.panelRect], whole := true })) h

theorem addUncertain_pending (r : Rect) (s : State) : (addUncertain r s).engine.pending = s.engine.pending := by
  rcases addUncertain_cases r s with he | he | he <;> rw [he]
  · rfl
  · exact (freeChanged_rest (s.onEngine (fun e => { e with uncertain := [s.panelRect], whole := true }))).2.2

/-- What is added is covered afterwards (R56, R57). -/
theorem addUncertain_covers (r : Rect) (s : State) :
    (addUncertain r s).engine.whole = true ∨ ∃ u ∈ (addUncertain r s).engine.uncertain, rectContains u r = true := by
  by_cases hcovered : s.engine.whole = true ∨ ∃ u ∈ s.engine.uncertain, rectContains u r = true
  · rw [addUncertain_covered hcovered]; exact hcovered
  · push Not at hcovered
    obtain ⟨hw, hu⟩ := hcovered
    have hw : s.engine.whole = false := Bool.eq_false_iff.2 hw
    have hu : ∀ u ∈ s.engine.uncertain, rectContains u r = false := fun u hm => Bool.eq_false_iff.2 (hu u hm)
    rcases Nat.lt_or_ge (s.engine.beside r).length 8 with hlen | hlen
    · rw [addUncertain_appends hw hu hlen]
      exact .inr ⟨r, List.mem_append_right _ (List.mem_singleton_self r), rectContains_refl r⟩
    · rw [addUncertain_collapses hw hu hlen]
      exact .inl (freeChanged_rest (s.onEngine (fun e => { e with uncertain := [s.panelRect], whole := true }))).2.1

/-- With fewer than eight entries, or WHOLE, nothing collapses (R56). -/
theorem addUncertain_small {r : Rect} {s : State} (h : s.engine.whole = true ∨ s.engine.uncertain.length < 8) :
    ∃ us, addUncertain r s = s.onEngine (fun e => { e with uncertain := us }) := by
  by_cases hcovered : s.engine.whole = true ∨ ∃ u ∈ s.engine.uncertain, rectContains u r = true
  · exact ⟨s.engine.uncertain, addUncertain_covered hcovered⟩
  · push Not at hcovered
    obtain ⟨hw, hu⟩ := hcovered
    have hlen : (s.engine.beside r).length < 8 := lt_of_le_of_lt (List.length_filter_le _ _) (h.resolve_left hw)
    exact ⟨_, addUncertain_appends (Bool.eq_false_iff.2 hw) (fun u hm => Bool.eq_false_iff.2 (hu u hm)) hlen⟩

/-! ### The match -/

theorem cancelLane_none {tag : Nat} {s : State}
    (h : ∀ n, n < 8 → (s.lane n).state ≠ .free → (s.lane n).origin = .host → (s.lane n).tag ≠ tag) : cancelLane tag s = none := by
  refine Option.eq_none_iff_forall_ne_some.2 fun n hn => ?_
  obtain ⟨hlt, ⟨hbusy, horigin, htag⟩, -⟩ := (cancelLane_iff tag n s).1 hn
  exact h n hlt hbusy horigin htag

theorem takeEntry_none {tag : Nat} (es : List PendingEntry) (h : ∀ e ∈ es, e.origin = .host → e.tag ≠ tag) :
    takeEntry tag es = none := by
  induction es with
  | nil => rfl
  | cons e es ih =>
    have he : ¬((e.origin = .host && e.tag = tag) = true) := by
      simpa using h e List.mem_cons_self
    rw [takeEntry, if_neg he, ih fun x hx => h x (List.mem_cons_of_mem _ hx)]

/-- The oldest matching entry leaves the queue (R53). -/
theorem takeEntry_oldest {tag : Nat} {e : PendingEntry} {back : List PendingEntry} (ho : e.origin = .host) (ht : e.tag = tag)
    (front : List PendingEntry) (h : ∀ x ∈ front, x.origin = .host → x.tag ≠ tag) :
    takeEntry tag (front ++ e :: back) = some (e, front ++ back) := by
  induction front with
  | nil => rw [List.nil_append, takeEntry, if_pos (by simp [ho, ht])]; rfl
  | cons x front ih =>
    have hx : ¬((x.origin = .host && x.tag = tag) = true) := by
      simpa using h x List.mem_cons_self
    rw [List.cons_append, takeEntry, if_neg hx, ih fun y hy => h y (List.mem_cons_of_mem _ hy)]
    rfl

/-! ### A lane is cancelled -/

/-- A cancelled lane is freed, the command answered and the end reported; its rectangle is still to be looked at (R53). -/
def State.cancelled (tag n : Nat) (s : State) : State :=
  raise (.updateDone tag .cancelled (s.lane n).promoted) (reply 0x31 tag .ok (freeLane false n s))

/-- The rectangle of a cancelled lane that drove is uncertain (R53). -/
def State.cancelledOver (tag n : Nat) (s : State) : State :=
  if (s.lane n).state = .driving then addUncertain (s.lane n).rect (s.cancelled tag n) else s.cancelled tag n

theorem cancelOnLane_eq (tag n : Nat) (s : State) : cancelOnLane tag n s = engineNotify (walk (s.cancelledOver tag n)) := rfl

theorem cancelled_told (tag n : Nat) (s : State) : SameExcept [.power, .link] (freeLane false n s) (s.cancelled tag n) :=
  (reply_frame 0x31 tag .ok _).trans ((raise_frame _ _).mono (by decide))

theorem cancelled_engine (tag n : Nat) (s : State) : (s.cancelled tag n).engine = (freeLane false n s).engine :=
  (cancelled_told tag n s).2 .engine (by decide)

theorem cancelled_works (tag n : Nat) (s : State) :
    Works [.wave, .engine, .rail, .budget, .cache, .light, .power, .link] s (s.cancelled tag n) :=
  (freeLane_works false n s).mono.trans ((reply_works 0x31 tag .ok _).mono.trans (raise_works _ _).mono)

theorem cancelledOver_works (tag n : Nat) (s : State) :
    Works [.wave, .engine, .rail, .budget, .cache, .light, .power, .link] s (s.cancelledOver tag n) :=
  (cancelled_works tag n s).trans (.ite _ (fun _ => addUncertain_works _ _) fun _ => .refl _ _)

theorem cancelledOver_pending (tag n : Nat) (s : State) : (s.cancelledOver tag n).engine.pending = s.engine.pending := by
  have hfreed : (s.cancelled tag n).engine.pending = s.engine.pending := by
    rw [cancelled_engine]; exact (freeLane_rest false n s).2.2
  rw [State.cancelledOver]
  split
  · exact (addUncertain_pending _ _).trans hfreed
  · exact hfreed

/-- With room for the report, the reply and the report are queued in this order (R53; log 15). -/
theorem reply_raise_queue {code tag : Nat} {st : Status} {r : Report} {s : State} (hm : s.power.mode ≠ .standby)
    (hreports : reportCount s.link.queue < 28) (hplaces : s.link.queue.length + 1 < 32) :
    (raise r (reply code tag st s)).link.queue = s.link.queue ++ [.reply (plainReply code tag st), .report r] := by
  have hqueue : (reply code tag st s).link.queue = s.link.queue ++ [.reply (plainReply code tag st)] := rfl
  have hreserved : (reply code tag st s).link.reserved = false := rfl
  have hroom : HasRoom (0 + 1) (reply code tag st s) := by
    refine ⟨by rw [reply_mode]; exact hm, ?_, ?_⟩
    · rw [hqueue, reportCount_append, reportCount_reply]; omega
    · rw [hqueue, hreserved, List.length_append, List.length_singleton, if_neg (by decide)]; omega
  rw [(hroom.raise r).1, hqueue, List.append_assoc]; rfl

theorem cancelled_queue {tag n : Nat} {s : State} (hwork : s.power.engineIdle = false) (hm : s.power.mode ≠ .standby)
    (hreports : reportCount s.link.queue < 28) (hplaces : s.link.queue.length + 1 < 32) :
    (s.cancelled tag n).link.queue = s.link.queue ++
      [.reply (plainReply 0x31 tag .ok), .report (.updateDone tag .cancelled (s.lane n).promoted)] := by
  have hfreed := freeLane_works false n s hwork
  have hlink : (freeLane false n s).link = s.link := hfreed.frame.2 .link (by decide)
  have hqueue := reply_raise_queue (code := 0x31) (tag := tag) (st := .ok) (r := .updateDone tag .cancelled (s.lane n).promoted)
    (s := freeLane false n s) (by rw [hfreed.mode]; exact hm) (by rw [hlink]; exact hreports) (by rw [hlink]; exact hplaces)
  rw [hlink] at hqueue
  exact hqueue

/-- A cancelled lane frees its place; lanes go only, and none comes (R53, R57). -/
theorem cancelledOver_free (tag : Nat) {n : Nat} {s : State} (hn : n < 8) : ((s.cancelledOver tag n).lane n).state = .free := by
  have hfreed : ((s.cancelled tag n).lane n).state = .free := by
    rw [lane_of_engine (cancelled_engine tag n s), freeLane_lane_same]
  have hfades : LanesFade (s.cancelled tag n) (s.cancelledOver tag n) := by
    rw [State.cancelledOver]
    split
    · exact addUncertain_fades _ _
    · exact .of_same rfl
  by_contra hb
  exact (hfades.busy n hn hb).1 hfreed

/-- The scan ends with the last lane on the rails (log 45). -/
theorem cancelledOver_stopped (tag : Nat) {n : Nat} {s : State} (harmed : (s.lane n).armed = true) (hscan : s.engine.scan.isSome = true)
    (hothers : ∀ k, k < 8 → k ≠ n → (s.lane k).state ≠ .armed ∧ (s.lane k).state ≠ .driving) :
    (s.cancelledOver tag n).engine.stopped := by
  have hnone (m : LaneState) (hm : m ≠ .free) (hne : ∀ k, k < 8 → k ≠ n → (s.lane k).state ≠ m) :
      (s.engine.without n).someLane m = false := by
    refine Bool.eq_false_iff.2 fun hsome => ?_
    obtain ⟨k, hk, hstate⟩ := (someLane_iff (onLane n (fun _ => {}) s) m).1 hsome
    by_cases hkn : k = n
    · subst hkn
      rw [onLane_lane_same _ s hk] at hstate
      exact hm hstate.symm
    · rw [onLane_lane_other _ s hkn] at hstate
      exact hne k hk hkn hstate
  have hfreed : (s.cancelled tag n).engine.stopped := by
    rw [cancelled_engine, freeLane_engine, if_pos]
    · exact ⟨rfl, rfl⟩
    · rw [harmed, hscan, hnone .driving (by decide) fun k hk hkn => (hothers k hk hkn).2,
        hnone .armed (by decide) fun k hk hkn => (hothers k hk hkn).1]
      rfl
  rw [State.cancelledOver]
  split
  · exact addUncertain_stopped _ hfreed
  · exact hfreed

/-- Nothing collapses: beside the list of uncertain entries nothing changes any more. -/
theorem cancelledOver_apart (tag : Nat) {n : Nat} {s : State}
    (h : (s.lane n).state ≠ .driving ∨ s.engine.whole = true ∨ s.engine.uncertain.length < 8) :
    ∃ us, s.cancelledOver tag n = (s.cancelled tag n).onEngine (fun e => { e with uncertain := us }) ∧
      ((s.lane n).state ≠ .driving → us = s.engine.uncertain) := by
  obtain ⟨huncertain, hwhole, -⟩ := freeLane_rest false n s
  rw [State.cancelledOver]
  split
  next hd =>
    obtain ⟨us, hus⟩ := addUncertain_small (r := (s.lane n).rect) (s := s.cancelled tag n)
      (by rw [cancelled_engine, huncertain, hwhole]; exact h.resolve_left (not_not.2 hd))
    exact ⟨us, hus, fun hnd => absurd hd hnd⟩
  next hd =>
    refine ⟨s.engine.uncertain, ?_, fun _ => rfl⟩
    rw [← huncertain, ← cancelled_engine tag]; rfl

theorem cancelled_rail (tag : Nat) {n : Nat} {s : State} :
    (s.cancelled tag n).rail = if (s.lane n).armed = true then (laneLeft s).rail else s.rail :=
  ((cancelled_told tag n s).2 .rail (by decide)).trans (freeLane_rail false n s)

theorem cancelled_slot (tag n : Nat) {s : State} (hwork : s.power.engineIdle = false) {k : Nat} (hk : k < 6) :
    (s.cancelled tag n).slot k =
      if k = (s.lane n).slot then { s.slot k with useCount := (s.slot k).useCount - 1 } else s.slot k := by
  rw [← freeLane_slot false n hwork hk, State.slot, (cancelled_told tag n s).2 .wave (by decide)]; rfl

theorem cancelled_leaves (tag n : Nat) {s : State} (hwork : s.power.engineIdle = false) :
    (s.cancelled tag n).cache.leaves = s.cache.leaves.map (Leaf.unused (s.lane n).source) := by
  rw [(cancelled_told tag n s).2 .cache (by decide), freeLane_cache false n hwork]

/-- With no host lane of the tag and no host entry the command is answered NO_SUCH (R53). -/
theorem exec_cancel_none {tag : Nat} {s : State} (hs : s.serves) (hlanes : cancelLane tag s = none)
    (hqueue : takeEntry tag s.engine.pending = none) : exec (.updateCancel tag (.fields ())) s =
      .next (s.answered (.updateCancel tag (.fields ())) (plainReply 0x31 tag .noSuch)) := by
  refine takeCommand_reply (u := s) (owner := fun _ => ownUpdateCancel tag) hs ?_
  have hlanes : cancelLane tag (s.placed (.updateCancel tag (.fields ()))) = none := hlanes
  have hqueue : takeEntry tag (s.placed (.updateCancel tag (.fields ()))).engine.pending = none := hqueue
  simp only [ownUpdateCancel, hlanes, hqueue]

theorem exec_cancel_lane {tag n : Nat} {s : State} (hs : s.serves) (hlane : cancelLane tag s = some n) :
    exec (.updateCancel tag (.fields ())) s = .next (cancelOnLane tag n (s.placed (.updateCancel tag (.fields ())))) := by
  refine congrArg Host.Outcome.next ((takeCommand_fields _ _ _ _ (fun _ => ownUpdateCancel tag) s hs).trans ?_)
  have hlane : cancelLane tag (s.placed (.updateCancel tag (.fields ()))) = some n := hlane
  simp only [ownUpdateCancel, hlane]

theorem exec_cancel_entry {tag : Nat} {e : PendingEntry} {rest : List PendingEntry} {s : State} (hs : s.serves)
    (hlanes : cancelLane tag s = none) (hqueue : takeEntry tag s.engine.pending = some (e, rest)) :
    exec (.updateCancel tag (.fields ())) s =
      .next (cancelEntry tag e rest (s.placed (.updateCancel tag (.fields ())))) := by
  refine congrArg Host.Outcome.next ((takeCommand_fields _ _ _ _ (fun _ => ownUpdateCancel tag) s hs).trans ?_)
  have hlanes : cancelLane tag (s.placed (.updateCancel tag (.fields ()))) = none := hlanes
  have hqueue : takeEntry tag (s.placed (.updateCancel tag (.fields ()))).engine.pending = some (e, rest) := hqueue
  simp only [ownUpdateCancel, hlanes, hqueue]

/-- With nothing pending the cancel of a lane ends as its parts leave it. -/
theorem cancelOnLane_after (tag n : Nat) {s : State} (hp : s.engine.pending = []) :
    SameWork (s.cancelledOver tag n) (cancelOnLane tag n s) := by
  rw [cancelOnLane_eq, walk_empty ((cancelledOver_pending tag n s).trans hp)]
  exact engineNotify_sameWork _

theorem mode_ne_standby_of_serving {m : PowerMode} (h : servingMode m = true) : m ≠ .standby := by
  rintro rfl; cases h

theorem armed_iff (l : Lane) : l.armed = true ↔ l.state = .armed ∨ l.state = .driving := by simp [Lane.armed]

/-- A lane that is neither FREE nor in PREPARING is on the rails. -/
theorem armed_of_busy {l : Lane} (hf : l.state ≠ .free) (hp : l.state ≠ .preparing) : l.armed = true := by
  rw [armed_iff]
  cases h : l.state with
  | free => exact absurd h hf
  | preparing => exact absurd h hp
  | armed => exact .inl rfl
  | driving => exact .inr rfl

/-- Where nothing collapses, the lane alone goes: the other lanes, the slots, the leaves and the messages (R53, R51). -/
theorem cancelOnLane_apart {tag n : Nat} {s : State} (hwork : s.power.engineIdle = false) (hm : s.power.mode ≠ .standby)
    (hbusy : (s.lane n).state ≠ .free) (hp : s.engine.pending = [])
    (h : (s.lane n).state ≠ .driving ∨ s.engine.whole = true ∨ s.engine.uncertain.length < 8) :
    (∀ k, k ≠ n → (cancelOnLane tag n s).lane k = s.lane k) ∧
      ((s.lane n).state ≠ .driving → (cancelOnLane tag n s).engine.uncertain = s.engine.uncertain) ∧
      ((s.lane n).state ≠ .preparing → (cancelOnLane tag n s).rail.armed = s.rail.armed - 1) ∧
      (∀ k, k < 6 → (cancelOnLane tag n s).slot k =
        (if k = (s.lane n).slot then { s.slot k with useCount := (s.slot k).useCount - 1 } else s.slot k)) ∧
      (cancelOnLane tag n s).cache.leaves = s.cache.leaves.map (Leaf.unused (s.lane n).source) ∧
      (reportCount s.link.queue < 28 → s.link.queue.length + 1 < 32 →
        (cancelOnLane tag n s).link.queue = s.link.queue ++
          [.reply (plainReply 0x31 tag .ok), .report (.updateDone tag .cancelled (s.lane n).promoted)]) := by
  have hsame := cancelOnLane_after tag n hp
  obtain ⟨us, hover, hkept⟩ := cancelledOver_apart tag h
  refine ⟨fun k hk => (hsame.lane k).trans ?_, fun hd => ?_, fun hprep => ?_, fun k hk => (hsame.slot k).trans ?_,
    hsame.leaves.trans ?_, fun hreports hplaces => hsame.queue.trans ?_⟩
  · rw [hover]
    exact (lane_of_engine (cancelled_engine tag n s) k).trans (freeLane_lane_other false s hk)
  · rw [hsame.engine, hover]; exact hkept hd
  · have hrail := cancelled_rail tag (n := n) (s := s)
    rw [if_pos (armed_of_busy hbusy hprep)] at hrail
    rw [hsame.rail, hover, onEngine_rail, hrail, laneLeft_armed]
  · rw [hover]; exact cancelled_slot tag n hwork hk
  · rw [hover]; exact cancelled_leaves tag n hwork
  · rw [hover]; exact cancelled_queue hwork hm hreports hplaces

/-- A lane that drove leaves the other lanes on the rails (R67). -/
theorem cancelOnLane_rail {tag n : Nat} {s : State} (hp : s.engine.pending = []) (hd : (s.lane n).state = .driving)
    (harmed : 2 ≤ s.rail.armed) (hu : s.engine.uncertain.length < 8) :
    (cancelOnLane tag n s).rail = { s.rail with armed := s.rail.armed - 1 } := by
  obtain ⟨us, hover, -⟩ := cancelledOver_apart tag (n := n) (s := s) (.inr (.inr hu))
  rw [(cancelOnLane_after tag n hp).rail, hover, onEngine_rail, cancelled_rail, if_pos ((armed_iff _).2 (.inr hd)),
    laneLeft_rail_counted fun hlast => by omega]

/-- Messages of a collapse come after the reply and the report (R53, R57). -/
theorem cancelOnLane_queue {tag n : Nat} {s : State} (hwork : s.power.engineIdle = false) (hm : s.power.mode ≠ .standby)
    (hp : s.engine.pending = []) (hreports : reportCount s.link.queue < 28) (hplaces : s.link.queue.length + 1 < 32) :
    ∃ more, (cancelOnLane tag n s).link.queue = s.link.queue ++ .reply (plainReply 0x31 tag .ok) ::
      .report (.updateDone tag .cancelled (s.lane n).promoted) :: more := by
  have hgrows : Grows (s.cancelled tag n) (s.cancelledOver tag n) := by
    rw [State.cancelledOver]
    split
    · exact addUncertain_grows _ (cancelled_works tag n s hwork).atWork
    · exact .refl _
  obtain ⟨more, hmore⟩ := hgrows
  exact ⟨more, by rw [(cancelOnLane_after tag n hp).queue, hmore, cancelled_queue hwork hm hreports hplaces, List.append_assoc]; rfl⟩

theorem cancelOnLane_covers {tag n : Nat} {s : State} (hp : s.engine.pending = []) (hd : (s.lane n).state = .driving) :
    (cancelOnLane tag n s).engine.whole = true ∨ ∃ u ∈ (cancelOnLane tag n s).engine.uncertain, rectContains u (s.lane n).rect = true := by
  rw [(cancelOnLane_after tag n hp).engine, State.cancelledOver, if_pos hd]
  exact addUncertain_covers _ _

theorem cancelOnLane_preparing {tag n : Nat} {s : State} (hp : s.engine.pending = []) (hprep : (s.lane n).state = .preparing) :
    (cancelOnLane tag n s).rail = s.rail := by
  have hoff : ¬(s.lane n).armed = true := by simp [Lane.armed, hprep]
  rw [(cancelOnLane_after tag n hp).rail, State.cancelledOver, if_neg (by simp [hprep]), cancelled_rail, if_neg hoff]

/-! ### An entry is cancelled -/

/-- A cancelled entry has left the queue and given up its slot and its leaf (R40, R53). -/
def State.dropped (e : PendingEntry) (rest : List PendingEntry) (s : State) : State :=
  unuseSource e.source (unuseSlot e.slot (s.onEngine (fun g => { g with pending := rest })))

/-- The command is answered and the end of the entry reported. -/
def State.cancelledEntry (tag : Nat) (e : PendingEntry) (rest : List PendingEntry) (s : State) : State :=
  raise (.updateDone tag .cancelled false) (reply 0x31 tag .ok (s.dropped e rest))

theorem cancelEntry_eq (tag : Nat) (e : PendingEntry) (rest : List PendingEntry) (s : State) :
    cancelEntry tag e rest s = engineNotify (walk (s.cancelledEntry tag e rest)) := rfl

theorem dropped_frame (e : PendingEntry) (rest : List PendingEntry) (s : State) :
    SameExcept [.wave, .engine, .cache] s (s.dropped e rest) :=
  ((onEngine_frame _ s).mono (by decide)).trans (((onSlot_frame e.slot _ _).mono (by decide)).trans
    ((unuseSource_frame e.source _).mono (by decide)))

theorem cancelledEntry_told (tag : Nat) (e : PendingEntry) (rest : List PendingEntry) (s : State) :
    SameExcept [.power, .link] (s.dropped e rest) (s.cancelledEntry tag e rest) :=
  (reply_frame 0x31 tag .ok _).trans ((raise_frame _ _).mono (by decide))

theorem cancelledEntry_engine (tag : Nat) (e : PendingEntry) (rest : List PendingEntry) (s : State) :
    (s.cancelledEntry tag e rest).engine = { s.engine with pending := rest } :=
  ((cancelledEntry_told tag e rest s).2 .engine (by decide)).trans (unuseSource_engine e.source _)

/-- What a cancelled entry leaves before the walk. -/
structure EntryCancelled (tag : Nat) (e : PendingEntry) (s t : State) : Prop where
  lane : ∀ k, k < 8 → (s.lane k).state ≠ .free → t.lane k = s.lane k
  rail : t.rail = s.rail
  bytes : SameBytesExcept (fun _ => False) s t
  leaves : t.cache.leaves = s.cache.leaves.map (Leaf.unused e.source)
  queue : s.power.mode ≠ .standby → reportCount s.link.queue < 28 → s.link.queue.length + 1 < 32 → t.link.queue = s.link.queue ++
    [.reply (plainReply 0x31 tag .ok), .report (.updateDone tag .cancelled false)]

theorem cancelledEntry_after (tag : Nat) (e : PendingEntry) (rest : List PendingEntry) (s : State) :
    EntryCancelled tag e s (s.cancelledEntry tag e rest) := by
  have htold := cancelledEntry_told tag e rest s
  have hdropped := dropped_frame e rest s
  have hlink : (s.dropped e rest).link = s.link := hdropped.2 .link (by decide)
  refine ⟨fun k _ _ => lane_of_lanes (by rw [cancelledEntry_engine]) k, (htold.2 .rail (by decide)).trans (hdropped.2 .rail (by decide)),
    fun x _ => (htold.mem_read (by decide) x).trans (hdropped.mem_read (by decide) x), ?_, fun hm hreports hplaces => ?_⟩
  · rw [htold.2 .cache (by decide), State.dropped, unuseSource_cache]; rfl
  · have hmode : (s.dropped e rest).power.mode = s.power.mode := congrArg PowerState.mode (hdropped.2 .power (by decide))
    have hqueue := reply_raise_queue (code := 0x31) (tag := tag) (st := .ok) (r := .updateDone tag .cancelled false)
      (s := s.dropped e rest) (by rw [hmode]; exact hm) (by rw [hlink]; exact hreports) (by rw [hlink]; exact hplaces)
    rw [hlink] at hqueue; exact hqueue

/-- The walk after it only fills lanes (R41). -/
theorem cancelEntry_after (tag : Nat) (e : PendingEntry) (rest : List PendingEntry) (s : State) :
    EntryCancelled tag e s (cancelEntry tag e rest s) ∧ List.Sublist (cancelEntry tag e rest s).engine.pending rest := by
  obtain ⟨hlane, hrail, hbytes, hleaves, hqueue⟩ := cancelledEntry_after tag e rest s
  obtain ⟨hsub, -, hfill⟩ := walk_leaves (s.cancelledEntry tag e rest)
  have hwalk := walk_frame (s.cancelledEntry tag e rest)
  have hsame := engineNotify_sameWork (walk (s.cancelledEntry tag e rest))
  rw [cancelledEntry_engine] at hsub
  rw [cancelEntry_eq]
  refine ⟨⟨fun k hk hb => ?_, hsame.rail.trans (hfill.rail.trans hrail), fun x hx => ?_, ?_, fun hm hreports hplaces => ?_⟩, ?_⟩
  · have hkept := hlane k hk hb
    exact (hsame.lane k).trans ((hfill.busy k hk (by rw [hkept]; exact hb)).trans hkept)
  · rw [hsame.mem]; exact (hwalk.mem_read (by decide) x).trans (hbytes x hx)
  · rw [hsame.leaves, hwalk.2 .cache (by decide)]; exact hleaves
  · rw [hsame.queue, hwalk.2 .link (by decide)]; exact hqueue hm hreports hplaces
  · rw [hsame.engine]; exact hsub

/-- The only entry of the queue: nothing starts, and its slot is used once less (R51). -/
theorem cancelEntry_alone (tag : Nat) (e : PendingEntry) (s : State) : (cancelEntry tag e [] s).engine.pending = [] ∧
    ∀ k, k < 6 → (cancelEntry tag e [] s).slot k =
      (if k = e.slot then { s.slot k with useCount := (s.slot k).useCount - 1 } else s.slot k) := by
  have hpending : (s.cancelledEntry tag e []).engine.pending = [] := by rw [cancelledEntry_engine]
  have hsame := engineNotify_sameWork (s.cancelledEntry tag e [])
  rw [cancelEntry_eq, walk_empty hpending]
  refine ⟨by rw [hsame.engine]; exact hpending, fun k hk => (hsame.slot k).trans ?_⟩
  have hwave : (s.cancelledEntry tag e []).wave = (unuseSlot e.slot s).wave :=
    ((cancelledEntry_told tag e [] s).2 .wave (by decide)).trans ((unuseSource_frame e.source _).2 .wave (by decide))
  rw [State.slot, hwave]
  exact unuseSlot_slot s hk

/-- Settles O35: no match, the lowest lane of the tag, or else the oldest entry of the tag. -/
theorem updateCancelEndsOneMatch : Obligations.UpdateCancelEndsOneMatch := by
  intro tag s hs hc
  have hm := mode_ne_standby_of_serving hs.1
  refine ⟨fun hlanes hentries => exec_cancel_none hs (cancelLane_none hlanes) (takeEntry_none _ hentries),
    fun n hn hbusy horigin htag hlow hp => ?_, fun front back e hlanes hpending horigin htag hfirst => ?_⟩
  · have hlane : cancelLane tag s = some n := (cancelLane_iff tag n s).2
      ⟨hn, ⟨hbusy, horigin, htag⟩, fun k hk ⟨hb, ho, ht⟩ => hlow k hk hb ho ht⟩
    have hwork : (s.placed (.updateCancel tag (.fields ()))).power.engineIdle = false := atWork_of_busy hc hbusy
    have hp : (s.placed (.updateCancel tag (.fields ()))).engine.pending = [] := hp
    have hsame := cancelOnLane_after tag n hp
    refine ⟨cancelOnLane tag n (s.placed (.updateCancel tag (.fields ()))), exec_cancel_lane hs hlane, ?_, fun x _ => ?_,
      fun hprep => ?_, fun harmed hothers hscan => ?_, fun hd => ?_, fun hd _ harmed hu => ?_, fun h => ?_,
      fun hreports hplaces => ?_⟩
    · rw [hsame.lane]; exact cancelledOver_free tag hn
    · rw [hsame.mem, (cancelledOver_works tag n _ hwork).mem]; rfl
    · exact cancelOnLane_preparing (s := s.placed (.updateCancel tag (.fields ()))) hp hprep
    · rw [hsame.engine]; exact cancelledOver_stopped tag ((armed_iff _).2 harmed) hscan hothers
    · exact cancelOnLane_covers (s := s.placed (.updateCancel tag (.fields ()))) hp hd
    · exact cancelOnLane_rail (s := s.placed (.updateCancel tag (.fields ()))) hp hd harmed hu
    · exact cancelOnLane_apart (s := s.placed (.updateCancel tag (.fields ()))) hwork hm hbusy hp h
    · exact cancelOnLane_queue (s := s.placed (.updateCancel tag (.fields ()))) hwork hm hp hreports hplaces
  · have htaken : takeEntry tag s.engine.pending = some (e, front ++ back) := by
      rw [hpending]; exact takeEntry_oldest horigin htag front hfirst
    obtain ⟨⟨hlane, hrail, hbytes, hleaves, hqueue⟩, hsub⟩ :=
      cancelEntry_after tag e (front ++ back) (s.placed (.updateCancel tag (.fields ())))
    refine ⟨_, exec_cancel_entry hs (cancelLane_none hlanes) htaken, hsub, hqueue hm, hlane, hrail, hleaves, fun hnil => ?_, hbytes⟩
    rw [hnil]
    exact cancelEntry_alone tag e _

/-! ## A lane completes (R52) -/

/-- At this frame event the one lane that drives has its last frame. -/
structure Finishing (n : Nat) (s : State) : Prop where
  lt : n < 8
  drives : (s.lane n).state = .driving
  last : (s.lane n).frames = (s.lane n).index + 1
  alone : ∀ k, k < 8 → k ≠ n → (s.lane k).state ≠ .armed ∧ (s.lane k).state ≠ .driving

theorem Finishing.not_armed {n : Nat} {s : State} (h : Finishing n s) (k : Nat) : (s.lane k).state ≠ .armed := by
  intro hk
  by_cases hkn : k = n
  · rw [hkn, h.drives] at hk; cases hk
  · exact (h.alone k (lt_of_busy (by rw [hk]; decide)) hkn).1 hk

theorem Finishing.not_driving {n k : Nat} {s : State} (h : Finishing n s) (hk : k ≠ n) : (s.lane k).state ≠ .driving :=
  fun hd => (h.alone k (lt_of_busy (by rw [hd]; decide)) hk).2 hd

/-- No lane is ARMED, so none joins. -/
theorem Finishing.joined {n : Nat} {s : State} (h : Finishing n s) : s.joined = s :=
  List.foldl_fixed' (fun k => if_neg (h.not_armed k)) _

theorem Finishing.driven_lane_same {n : Nat} {s : State} (h : Finishing n s) :
    s.driven.lane n = { s.lane n with index := (s.lane n).index + 1 } := by
  rw [driven_lane, Lane.joined_other (h.not_armed n), Lane.advance_driving h.drives]

theorem Finishing.driven_lane_other {n k : Nat} {s : State} (h : Finishing n s) (hk : k ≠ n) : s.driven.lane k = s.lane k := by
  rw [driven_lane, Lane.joined_other (h.not_armed k), Lane.advance_other (h.not_driving hk)]

/-! ### The shown plane takes the lane's levels -/

/-- The shown plane has taken the to-levels of a lane, and an ALL lane's ground is certain again (R52, R58). -/
def State.painted (n : Nat) (s : State) : State :=
  let u := s.onMem (fun m => m.setPixels (shownBlocks s.pool.geometry) ((s.lanePixels (s.lane n)).map (fun p => (p.1, p.2.2))))
  if (s.lane n).selection = .all then u.onEngine (fun e => e.clearUncertain (s.lane n).rect) else u

theorem completeLane_completes {n : Nat} {s : State} (hd : (s.lane n).state = .driving) (hl : (s.lane n).frames ≤ (s.lane n).index) :
    completeLane n s = freeLane true n (completedLane (s.lane n) (s.painted n)) := if_pos (by simp [hd, hl])

theorem onMem_frame (f : Memory → Memory) (s : State) : SameExcept [.mem] s (s.onMem f) :=
  ⟨rfl, fun b hb => by cases b with
    | mem => exact absurd List.mem_cons_self hb
    | _ => rfl⟩

theorem painted_frame (n : Nat) (s : State) : SameExcept [.mem, .engine] s (s.painted n) := by
  have hmem := (onMem_frame (fun m => m.setPixels (shownBlocks s.pool.geometry)
    ((s.lanePixels (s.lane n)).map (fun p => (p.1, p.2.2)))) s).mono (cs := [.mem, .engine]) (by decide)
  rw [State.painted]
  split
  · exact hmem.trans ((onEngine_frame _ _).mono (by decide))
  · exact hmem

theorem painted_mem (n : Nat) (s : State) : (s.painted n).mem =
    Memory.setPixels s.mem (shownBlocks s.pool.geometry) ((s.lanePixels (s.lane n)).map (fun p => (p.1, p.2.2))) := by
  rw [State.painted]
  split <;> rfl

theorem painted_lane (n : Nat) (s : State) (k : Nat) : (s.painted n).lane k = s.lane k := by
  rw [State.painted]
  split <;> rfl

theorem painted_pending (n : Nat) (s : State) : (s.painted n).engine.pending = s.engine.pending := by
  rw [State.painted]
  split <;> rfl

theorem painted_all {n : Nat} {s : State} (h : (s.lane n).selection = .all) : (s.painted n).engine.uncertain =
    s.engine.uncertain.filter (fun u => !rectContains (s.lane n).rect u) := by
  rw [State.painted, if_pos h]; rfl

theorem painted_changed {n : Nat} {s : State} (h : (s.lane n).selection = .changed) :
    (s.painted n).engine.uncertain = s.engine.uncertain ∧ (s.painted n).engine.whole = s.engine.whole := by
  rw [State.painted, if_neg (by rw [h]; decide)]
  exact ⟨rfl, rfl⟩

/-- The selected pixels of a lane depend on page memory, the pool and what the lane started with. -/
theorem lanePixels_congr {s t : State} (hm : t.mem = s.mem) (hp : t.pool = s.pool) (l : Lane) (i : Nat) :
    t.lanePixels { l with index := i } = s.lanePixels l := by
  simp only [State.lanePixels, State.toLevel, State.panelWidth, hm, hp]

/-- A frame has been driven, and the lane that finishes with it has painted the shown plane. -/
structure Painted (n : Nat) (s p : State) : Prop where
  mem : p.mem = Memory.setPixels s.mem (shownBlocks s.pool.geometry) ((s.lanePixels (s.lane n)).map (fun q => (q.1, q.2.2)))
  frame : SameExcept [.mem, .engine, .budget, .light, .power] s p
  lane : p.lane n = { s.lane n with index := (s.lane n).index + 1 }
  others : ∀ k, k ≠ n → p.lane k = s.lane k
  pending : p.engine.pending = s.engine.pending
  changed : (s.lane n).selection = .changed → p.engine.uncertain = s.engine.uncertain ∧ p.engine.whole = s.engine.whole
  all : (s.lane n).selection = .all → p.engine.uncertain = s.engine.uncertain.filter (fun u => !rectContains (s.lane n).rect u)
  mode : p.power.mode = s.power.mode
  atWork : p.power.engineIdle = false

theorem Finishing.paints {n : Nat} {s : State} (h : Finishing n s) (hwork : s.power.engineIdle = false) :
    Painted n s (s.driven.painted n) := by
  obtain ⟨hframe, hmem, hmode, hwork'⟩ := driven_works s hwork
  have hpaint := painted_frame n s.driven
  have hlane := h.driven_lane_same
  have hsel : (s.driven.lane n).selection = (s.lane n).selection := by rw [hlane]
  have hcache : s.driven.cache = s.cache := by rw [driven_cache hwork, h.joined]
  have hdriven : SameExcept [.mem, .engine, .budget, .light, .power] s s.driven := by
    refine ⟨hframe.1, fun b hb => ?_⟩
    by_cases hbc : b = .cache
    · rw [hbc]; exact hcache
    · exact hframe.2 b (by simp_all)
  refine ⟨?_, hdriven.trans (hpaint.mono (by decide)), (painted_lane n _ n).trans hlane,
    fun k hk => (painted_lane n _ k).trans (h.driven_lane_other hk), (painted_pending n _).trans (by rw [driven_engine]),
    fun hs => ?_, fun hs => ?_, ?_, ?_⟩
  · have hpool : s.driven.pool = s.pool := hframe.2 .pool (by decide)
    rw [painted_mem, hlane, lanePixels_congr hmem hpool, hmem, hpool]
  · obtain ⟨hu, hw⟩ := painted_changed (hsel.trans hs)
    rw [hu, hw, driven_engine]
    exact ⟨rfl, rfl⟩
  · rw [painted_all (hsel.trans hs), driven_engine, hlane]
  · rw [hpaint.2 .power (by decide), hmode]
  · rw [hpaint.2 .power (by decide), hwork']

/-! ### The lane goes, and no other drives -/

/-- Where a lane drives it drove before. -/
def NoNewDrive (s t : State) : Prop := ∀ k, (t.lane k).state = .driving → (s.lane k).state = .driving

theorem NoNewDrive.trans {s t u : State} (h : NoNewDrive s t) (h' : NoNewDrive t u) : NoNewDrive s u := fun k hk => h k (h' k hk)

theorem NoNewDrive.of_engine {s t : State} (h : t.engine = s.engine) : NoNewDrive s t := fun k hk => by
  rw [lane_of_engine h] at hk; exact hk

theorem startLane_noNewDrive {n : Nat} (e : PendingEntry) (s : State) : NoNewDrive s (startLane n e s) := by
  intro k hk
  by_cases hkn : k = n
  · subst hkn
    have hlt := lt_of_busy (s := startLane k e s) (by rw [hk]; decide)
    rw [startLane_lane_same e s hlt] at hk; cases hk
  · rw [startLane_lane_other e s hkn] at hk; exact hk

theorem walkFrom_noNewDrive (es : List PendingEntry) : ∀ ahead s, NoNewDrive s (walkFrom ahead es s) := by
  induction es with
  | nil => exact fun _ _ _ h => h
  | cons e es ih =>
    intro ahead s
    rw [walkFrom]
    split
    · exact (startLane_noNewDrive e s).trans (ih _ _)
    · exact ih _ s

theorem walk_noNewDrive (s : State) : NoNewDrive s (walk s) := walkFrom_noNewDrive _ [] s

theorem appendEntry_engine (e : PendingEntry) (s : State) :
    (appendEntry e s).engine = { s.engine with pending := s.engine.pending ++ [e] } := useSource_engine _ _

/-- The entry of a turn to a leaf (R93). -/
def State.turnEntry (s : State) (t slot : Nat) (sel : Selection) : PendingEntry :=
  { tag := 0, origin := .turn, rect := s.panelRect, slot := slot, selection := sel, source := .leaf t, keepLeaf := false, shows := none }

/-- A turn to a leaf has been submitted (R93). -/
def State.submitted (s : State) (f : TurnFlight) (slot : Nat) (sel : Selection) : State :=
  lightActivity ((walk (appendEntry (s.turnEntry f.leaf slot sel) s)).onCache (fun k => { k with flight := some f }))

theorem submitTurn_slotless {d : TurnDir} {t : Nat} {s : State} {kind : TurnKind} {sel : Selection}
    (h : s.cache.turnChoice (s.cache.leafSlot t) = (kind, none, sel)) :
    submitTurn d t s = raise (.turnMiss d (some t) .slot) s := by
  rw [submitTurn, h]

theorem submitTurn_checked {d : TurnDir} {t slot : Nat} {s : State} {kind : TurnKind} {sel : Selection}
    (h : s.cache.turnChoice (s.cache.leafSlot t) = (kind, some slot, sel)) : submitTurn d t s =
    match lateCheck slot (.leaf t) none s with
    | some st => raise (.turnMiss d (some t) (missCause st)) s
    | none => s.submitted ⟨t, d, kind⟩ slot sel := by
  rw [submitTurn, h]; rfl

theorem submitted_noNewDrive (f : TurnFlight) (slot : Nat) (sel : Selection) (s : State) : NoNewDrive s (s.submitted f slot sel) := by
  intro k hk
  rw [State.submitted, lane_of_engine (lightActivity_engine _)] at hk
  have hentry := walk_noNewDrive (appendEntry (s.turnEntry f.leaf slot sel) s) k hk
  rw [lane_of_lanes (s := s) (by rw [appendEntry_engine])] at hentry
  exact hentry

theorem submitTurn_noNewDrive (d : TurnDir) (t : Nat) (s : State) : NoNewDrive s (submitTurn d t s) := by
  rcases hchoice : s.cache.turnChoice (s.cache.leafSlot t) with ⟨kind, slot, sel⟩
  cases slot with
  | none => rw [submitTurn_slotless hchoice]; exact .of_engine (raise_engine _ s)
  | some slot =>
    rw [submitTurn_checked hchoice]
    split
    · exact .of_engine (raise_engine _ s)
    · exact submitted_noNewDrive _ slot sel s

theorem resolveTurn_noNewDrive (d : TurnDir) (wanted : Nat → Nat) (s : State) : NoNewDrive s (resolveTurn d wanted s) := by
  rw [resolveTurn]
  split
  · exact .of_engine (raise_engine _ s)
  · split
    · exact .of_engine (raise_engine _ s)
    · split
      · exact .of_engine (raise_engine _ s)
      · rw [takeTurnTo]
        split
        · exact .of_engine (raise_engine _ s)
        · split
          · exact .of_engine (raise_engine _ s)
          · exact submitTurn_noNewDrive _ _ s

theorem turnDone_noNewDrive (l : Lane) (s : State) : NoNewDrive s (turnDone l s) := by
  simp only [turnDone]
  split
  · exact fun _ h => h
  · have htold : ∀ u : State, NoNewDrive u (resolveDeferred u) := by
      intro u
      rw [resolveDeferred]
      split
      · exact fun _ h => h
      · exact resolveTurn_noNewDrive _ _ (u.onCache fun c => { c with deferred := none })
    refine NoNewDrive.trans (.of_engine ?_) (htold _)
    exact (raiseAll_engine _ _).trans (raise_engine _ (s.onCache _))

theorem completedLane_engine_host {l : Lane} (h : l.origin = .host) (s : State) : (completedLane l s).engine = s.engine := by
  rw [completedLane, h]
  refine Eq.trans ?_ (raise_engine (.updateDone l.tag .done l.promoted) s)
  exact engine_ite _ (fun _ => rfl) fun _ => rfl

theorem completedLane_noNewDrive (l : Lane) (s : State) : NoNewDrive s (completedLane l s) := by
  cases h : l.origin with
  | host => exact .of_engine (completedLane_engine_host h s)
  | turn => rw [completedLane, h]; exact turnDone_noNewDrive l s

/-- The lane that finished has gone: its outcome told, its place free (R52). -/
def State.finished (n : Nat) (s : State) : State := freeLane true n (completedLane (s.driven.lane n) (s.driven.painted n))

theorem Finishing.completes {n : Nat} {s : State} (h : Finishing n s) : eachLane completeLane s.driven = s.finished n := by
  have hlane := h.driven_lane_same
  have hone : completeLane n s.driven = s.finished n :=
    completeLane_completes (by rw [hlane]; exact h.drives) (by rw [hlane]; exact h.last.le)
  rw [← hone]
  refine eachLane_single completeLane h.lt (fun k hk => completeLane_unfinished fun hd => ?_)
    fun k hk => completeLane_unfinished fun hd => ?_
  · rw [h.driven_lane_other hk] at hd
    exact absurd hd (h.not_driving hk)
  · rw [hone, State.finished, freeLane_lane_other true _ hk] at hd
    have hbefore := completedLane_noNewDrive _ _ k hd
    rw [painted_lane, h.driven_lane_other hk] at hbefore
    exact absurd hbefore (h.not_driving hk)

/-- No lane drives any more: the scan stops (R47). -/
theorem Finishing.runs {n : Nat} {s : State} (h : Finishing n s) : runFrame s = stopScan (walk (s.finished n)) := by
  rw [runFrame_eq, h.completes]
  refine if_neg fun hsome => ?_
  obtain ⟨k, hk, hd⟩ := (someLane_iff _ _).1 hsome
  have hfinished := walk_noNewDrive _ k hd
  by_cases hkn : k = n
  · rw [hkn, State.finished, freeLane_lane_same] at hfinished; cases hfinished
  · rw [State.finished, freeLane_lane_other true _ hkn] at hfinished
    have hbefore := completedLane_noNewDrive _ _ k hfinished
    rw [painted_lane, h.driven_lane_other hkn] at hbefore
    exact h.not_driving hkn hbefore

/-! ### What the event leaves once the lane has told its outcome -/

/-- The lane goes, what waits may start, and the scan stops (R51, R52, R47). -/
def State.left (n : Nat) (s : State) : State := stopScan (walk (freeLane true n s))

/-- The end of a frame event in which the last lane that drove completed. -/
structure Left (n : Nat) (c u : State) : Prop where
  frame : SameExcept [.wave, .engine, .rail, .budget, .cache, .light, .power] c u
  mem : u.mem = c.mem
  mode : u.power.mode = c.power.mode
  cache : u.cache = { c.cache with leaves := c.cache.leaves.map (Leaf.unused (c.lane n).source) }
  rail : u.rail = if (c.lane n).armed = true then (laneLeft c).rail else c.rail
  stopped : u.engine.stopped

theorem left_facts (n : Nat) {c : State} (h : c.power.engineIdle = false) : Left n c (c.left n) := by
  have hfree := freeLane_works true n c
  have hwalk := walk_works (freeLane true n c)
  have hstop := stopScan_works (walk (freeLane true n c))
  obtain ⟨hframe, hmem, hmode, -⟩ :=
    (hfree.trans (hwalk.mono.trans hstop.mono)) h
  have hwalked := (hfree.trans hwalk.mono) h
  refine ⟨hframe, hmem, hmode, ?_, ?_, ?_⟩
  · rw [← freeLane_cache true n h]
    exact ((hstop hwalked.atWork).frame.2 .cache (by decide)).trans ((walk_frame _).2 .cache (by decide))
  · rw [← freeLane_rail true n c]
    exact (stopScan_rail _).trans ((walk_frame _).2 .rail (by decide))
  · rw [State.left, stopScan_engine]; exact ⟨rfl, rfl⟩

theorem left_lane (n k : Nat) (c : State) : (c.left n).lane k = (walk (freeLane true n c)).lane k :=
  lane_of_lanes (by rw [State.left, stopScan_engine]) k

theorem left_pending (n : Nat) (c : State) : (c.left n).engine.pending = (walk (freeLane true n c)).engine.pending := by
  rw [State.left, stopScan_engine]

/-- Nothing waits: lanes, ground and slots end as the freed lane leaves them (R51). -/
structure LeftAlone (n : Nat) (c u : State) : Prop where
  free : (u.lane n).state = .free
  others : ∀ k, k ≠ n → u.lane k = c.lane k
  pending : u.engine.pending = []
  uncertain : u.engine.uncertain = c.engine.uncertain
  whole : u.engine.whole = c.engine.whole
  slot : ∀ k, k < 6 → u.slot k =
    if k = (c.lane n).slot then { c.slot k with useCount := (c.slot k).useCount - 1 } else c.slot k

theorem left_alone (n : Nat) {c : State} (h : c.power.engineIdle = false) (hp : c.engine.pending = []) : LeftAlone n c (c.left n) := by
  obtain ⟨huncertain, hwhole, hpending⟩ := freeLane_rest true n c
  have hwalk : walk (freeLane true n c) = freeLane true n c := walk_empty (hpending.trans hp)
  have hlane (k : Nat) := left_lane n k c
  have hstop := stopScan_works (freeLane true n c) (freeLane_works true n c h).atWork
  rw [hwalk] at hlane
  refine ⟨by rw [hlane, freeLane_lane_same], fun k hk => by rw [hlane, freeLane_lane_other true c hk], ?_, ?_, ?_, fun k hk => ?_⟩
  · rw [left_pending, hwalk, hpending, hp]
  · rw [State.left, hwalk, stopScan_engine]; exact huncertain
  · rw [State.left, hwalk, stopScan_engine]; exact hwhole
  · rw [← freeLane_slot true n h hk, State.left, hwalk, State.slot, hstop.frame.2 .wave (by decide)]; rfl

/-- A last lane that was alone on the rails leaves them to their hold time (R67). -/
theorem Left.rail_last {n : Nat} {c u : State} (h : Left n c u) (harmed : (c.lane n).armed = true) (hm : c.rail.mode = .on)
    (ha : c.rail.armed = 1) : u.rail.armed = 0 ∧
      (0 < c.rail.holdTime → u.rail.mode = .hold ∧ u.rail.hold = some c.rail.holdTime) ∧
      (c.rail.holdTime = 0 → u.rail.mode = .falling ∧ u.rail.fall = some c.rail.fallTime) := by
  rw [h.rail, if_pos harmed, laneLeft_rail_last hm (by rw [ha])]
  split
  next h0 => exact ⟨by simp [ha], fun hpos => absurd h0 (by omega), fun _ => ⟨rfl, rfl⟩⟩
  next h0 => exact ⟨by simp [ha], fun _ => ⟨rfl, rfl⟩, fun hz => absurd hz h0⟩

/-- The rails are not OFF as a lane leaves them ON (R67). -/
theorem Left.rail_powered {n : Nat} {c u : State} (h : Left n c u) (hm : c.rail.mode = .on) : u.rail.mode ≠ .off := by
  rw [h.rail]
  split
  · by_cases hlast : c.rail.armed - 1 = 0
    · rw [laneLeft_rail_last hm hlast]
      split <;> simp
    · rw [laneLeft_rail_counted fun hc => hlast hc.2]; simp [hm]
  · simp [hm]

/-- With the rails powered the notice that ends the event is no entry to STANDBY (R173). -/
theorem engineNotify_powered {s : State} (h : s.power.railsOff = false) : SameExcept [.power] s (engineNotify s) := by
  have htold := onPower_frame (fun p => { p with engineIdle := s.engine.idle }) s
  rw [engineNotify, tellEngineIdle]
  split
  · exact .refl _ s
  · rcases powerReact_stays (s := s.onPower (fun p => { p with engineIdle := s.engine.idle }))
      (by simp [PowerState.fourIdle, h]) with hr | hr <;> rw [hr]
    · exact htold
    · exact htold.trans (onPower_frame _ _)

/-- The last lane that drives completes: the frame event, and the copies it leaves in step. -/
theorem Finishing.event {n : Nat} {s : State} (h : Finishing n s) (hs : s.coherent) (hscan : s.engine.scan.isSome = true)
    (hon : s.rail.mode = .on) : ∃ p, Painted n s p ∧
      exec .frameEvent s = .next (engineNotify ((completedLane (p.lane n) p).left n)) ∧
      ((completedLane (p.lane n) p).left n).inStep (Phase.busy {}) := by
  have hrun : runFrame s = (completedLane ((s.driven.painted n).lane n) (s.driven.painted n)).left n := by
    rw [h.runs, painted_lane]; rfl
  refine ⟨_, h.paints (atWork_of_busy hs (by rw [h.drives]; decide)), ?_, ?_⟩ <;> rw [← hrun]
  · exact congrArg Host.Outcome.next (if_pos (by simp [hscan, hon]))
  · exact runFrame_effect {} s ((coherent_iff s).1 hs)

/-! ### A host lane -/

/-- A host lane told its end (R52, R92). -/
structure HostTold (l : Lane) (p c : State) : Prop where
  frame : SameExcept [.cache, .power, .link] p c
  mem : c.mem = p.mem
  mode : c.power.mode = p.power.mode
  atWork : c.power.engineIdle = false
  cache : c.cache = { p.cache with counter := if l.rect = p.panelRect ∧ l.selection = .all then 0 else p.cache.counter }
  queue : p.power.mode ≠ .standby → p.link.roomForReport = true →
    c.link.queue = p.link.queue ++ [.report (.updateDone l.tag .done l.promoted)]

theorem completedLane_host {l : Lane} {p : State} (ho : l.origin = .host) (hwork : p.power.engineIdle = false) :
    HostTold l p (completedLane l p) := by
  have hraise := (raise_works (.updateDone l.tag .done l.promoted) p).mono (cs := [.cache, .power, .link])
  have hcache := raise_cache (.updateDone l.tag .done l.promoted) p
  have hqueue (hm : p.power.mode ≠ .standby) (hr : p.link.roomForReport = true) :
      (raise (.updateDone l.tag .done l.promoted) p).link.queue = p.link.queue ++ [.report (.updateDone l.tag .done l.promoted)] := by
    rw [raise_joins _ p hm hr]; rfl
  have hrect : (raise (.updateDone l.tag .done l.promoted) p).panelRect = p.panelRect := by
    rw [State.panelRect, (raise_frame _ p).2 .pool (by decide)]; rfl
  have hcounter := Works.of_frame (onCache_frame (fun c => { c with counter := 0 }) (raise (.updateDone l.tag .done l.promoted) p))
  rw [completedLane, ho]
  simp only [hrect, Bool.and_eq_true_iff, decide_eq_true_eq]
  split
  next hwhole =>
    obtain ⟨hframe, hmem, hmode, hwork'⟩ := (hraise.trans hcounter.mono) hwork
    exact ⟨hframe, hmem, hmode, hwork', by rw [onCache_cache, hcache, if_pos hwhole], hqueue⟩
  next hpart =>
    obtain ⟨hframe, hmem, hmode, hwork'⟩ := hraise hwork
    exact ⟨hframe, hmem, hmode, hwork', by rw [hcache, if_neg hpart], hqueue⟩

/-- The lane that a host lane's outcome leaves to be freed. -/
theorem Painted.told {n : Nat} {s p : State} (h : Painted n s p) (ho : (s.lane n).origin = .host) :
    HostTold (p.lane n) p (completedLane (p.lane n) p) := completedLane_host (by rw [h.lane]; exact ho) h.atWork

theorem Painted.panelRect {n : Nat} {s p : State} (h : Painted n s p) : p.panelRect = s.panelRect := by
  rw [State.panelRect, h.frame.2 .pool (by decide)]; rfl

/-- A frame event in which the one lane that drives, of the host, completes (R52, R51, R67, R92). -/
structure HostFinished (n : Nat) (s t : State) : Prop where
  mem : t.mem = Memory.setPixels s.mem (shownBlocks s.pool.geometry) ((s.lanePixels (s.lane n)).map (fun q => (q.1, q.2.2)))
  free : (t.lane n).state = .free
  others : ∀ k, k ≠ n → t.lane k = s.lane k
  stopped : t.engine.stopped
  pending : t.engine.pending = []
  slot : ∀ k, k < 6 → t.slot k =
    if k = (s.lane n).slot then { s.slot k with useCount := (s.slot k).useCount - 1 } else s.slot k
  cache : t.cache = { s.cache with
    leaves := s.cache.leaves.map (Leaf.unused (s.lane n).source)
    counter := if (s.lane n).rect = s.panelRect ∧ (s.lane n).selection = .all then 0 else s.cache.counter }
  changed : (s.lane n).selection = .changed → t.engine.uncertain = s.engine.uncertain ∧ t.engine.whole = s.engine.whole
  all : (s.lane n).selection = .all → t.engine.uncertain = s.engine.uncertain.filter (fun u => !rectContains (s.lane n).rect u)
  queue : s.power.mode ≠ .standby → s.link.roomForReport = true →
    t.link.queue = s.link.queue ++ [.report (.updateDone (s.lane n).tag .done (s.lane n).promoted)]
  rail : s.rail.armed = 1 → t.rail.armed = 0 ∧
    (0 < s.rail.holdTime → t.rail.mode = .hold ∧ t.rail.hold = some s.rail.holdTime) ∧
    (s.rail.holdTime = 0 → t.rail.mode = .falling ∧ t.rail.fall = some s.rail.fallTime)

theorem Finishing.host {n : Nat} {s : State} (h : Finishing n s) (hs : s.coherent) (hscan : s.engine.scan.isSome = true)
    (hon : s.rail.mode = .on) (hpending : s.engine.pending = []) (ho : (s.lane n).origin = .host) :
    ∃ t, exec .frameEvent s = .next t ∧ HostFinished n s t := by
  obtain ⟨p, hp, hexec, hstep⟩ := h.event hs hscan hon
  have hc := hp.told ho
  have hengine := completedLane_engine_host (l := p.lane n) (by rw [hp.lane]; exact ho) p
  generalize completedLane (p.lane n) p = c at hc hexec hengine hstep
  have hrest := left_facts n hc.atWork
  have halone := left_alone n hc.atWork (by rw [hengine, hp.pending, hpending])
  have hlane (k : Nat) : c.lane k = p.lane k := lane_of_engine hengine k
  have hrail : c.rail = s.rail := (hc.frame.2 .rail (by decide)).trans (hp.frame.2 .rail (by decide))
  have hlink : p.link = s.link := hp.frame.2 .link (by decide)
  have hwave : c.wave = s.wave := (hc.frame.2 .wave (by decide)).trans (hp.frame.2 .wave (by decide))
  have hcache : p.cache = s.cache := hp.frame.2 .cache (by decide)
  have hslot (k : Nat) : c.slot k = s.slot k := by rw [State.slot, hwave]; rfl
  have hpowered : (c.left n).power.railsOff = false := by
    rw [hstep.railsOff rfl]
    exact decide_eq_false (hrest.rail_powered (by rw [hrail]; exact hon))
  have hnotify := engineNotify_powered hpowered
  have hsame := engineNotify_sameWork (c.left n)
  refine ⟨_, hexec, ⟨?_, ?_, fun k hk => ?_, ?_, ?_, fun k hk => ?_, ?_, fun hsel => ?_, fun hsel => ?_, fun hm hr => ?_, fun ha => ?_⟩⟩
  · exact hsame.mem.trans (hrest.mem.trans (hc.mem.trans hp.mem))
  · exact (congrArg Lane.state (hsame.lane n)).trans halone.free
  · exact (hsame.lane k).trans ((halone.others k hk).trans ((hlane k).trans (hp.others k hk)))
  · exact (congrArg EngineState.stopped hsame.engine).mpr hrest.stopped
  · exact (congrArg EngineState.pending hsame.engine).trans halone.pending
  · refine (hsame.slot k).trans ((halone.slot k hk).trans ?_)
    rw [hlane, hp.lane, hslot]
  · refine (hnotify.2 .cache (by decide)).trans (hrest.cache.trans ?_)
    rw [hc.cache, hlane, hp.lane, hp.panelRect, hcache]
  · obtain ⟨hu, hw⟩ := hp.changed hsel
    exact ⟨(congrArg EngineState.uncertain hsame.engine).trans (halone.uncertain.trans (by rw [hengine, hu])),
      (congrArg EngineState.whole hsame.engine).trans (halone.whole.trans (by rw [hengine, hw]))⟩
  · exact (congrArg EngineState.uncertain hsame.engine).trans (halone.uncertain.trans (by rw [hengine, hp.all hsel]))
  · rw [hsame.queue, hrest.frame.2 .link (by decide), hc.queue (by rw [hp.mode]; exact hm) (by rw [hlink]; exact hr), hlink, hp.lane]
  · have harmed : (c.lane n).armed = true := (armed_iff _).2 (.inr (by rw [hlane, hp.lane]; exact h.drives))
    rw [hsame.rail]
    have hlast := hrest.rail_last harmed (by rw [hrail]; exact hon) (by rw [hrail]; exact ha)
    rw [hrail] at hlast; exact hlast

/-! ## A deferred turn is resolved (R96, R91, R93) -/

/-! ### The leaf it wants -/

theorem beyond_iff (n far m : Nat) (d : TurnDir) : beyond n far m d = true ↔
    (d = .next ∧ n < m ∧ m ≤ far) ∨ (d = .prev ∧ far ≤ m ∧ m < n) := by
  cases d <;> simp [beyond]

theorem nearest_none {d : TurnDir} {ns : List Nat} (h : nearest d ns = none) : ns = [] := by
  cases d with
  | next => exact List.head?_eq_none_iff.1 h
  | prev => exact List.getLast?_eq_none_iff.1 h

/-- In ascending order the nearest number is the first or the last of them. -/
theorem nearest_some {d : TurnDir} {ns : List Nat} {m : Nat} (hsorted : ns.Pairwise (· < ·)) (h : nearest d ns = some m) :
    m ∈ ns ∧ ∀ x ∈ ns, (d = .next ∧ m ≤ x) ∨ (d = .prev ∧ x ≤ m) := by
  cases d with
  | next =>
    obtain ⟨rest, rfl⟩ := List.head?_eq_some_iff.1 h
    rw [List.pairwise_cons] at hsorted
    refine ⟨List.mem_cons_self, fun x hx => .inl ⟨rfl, ?_⟩⟩
    rcases List.mem_cons.1 hx with rfl | hx
    · exact Nat.le_refl _
    · exact (hsorted.1 x hx).le
  | prev =>
    obtain ⟨init, rfl⟩ := List.getLast?_eq_some_iff.1 h
    rw [List.pairwise_append] at hsorted
    refine ⟨List.mem_append_right _ (List.mem_singleton_self m), fun x hx => .inr ⟨rfl, ?_⟩⟩
    rcases List.mem_append.1 hx with hx | hx
    · exact (hsorted.2.2 x hx m (List.mem_singleton_self m)).le
    · exact (List.mem_singleton.1 hx).le

/-- The leaf a deferred turn wants, by its distance and the leaves that end the book on the way (R96). -/
theorem deferredWanted_wants {c : CacheState} (hsorted : c.leaves.Pairwise (fun a b => a.number < b.number)) (d : TurnDir)
    (count n : Nat) : DeferredWants c d count n (c.deferredWanted d count n) := by
  have hmem (l : Leaf) : l ∈ c.leaves.filter (fun l => l.edge = some (edgeOf d) && beyond n (jumpLeaf n count d) l.number d) ↔
      l ∈ c.leaves ∧ l.edge = some (edgeOf d) ∧ ((d = .next ∧ n < l.number ∧ l.number ≤ jumpLeaf n count d) ∨
        (d = .prev ∧ jumpLeaf n count d ≤ l.number ∧ l.number < n)) := by
    rw [List.mem_filter, Bool.and_eq_true_iff, decide_eq_true_eq, beyond_iff]
  have hnumbers : ((c.leaves.filter (fun l => l.edge = some (edgeOf d) && beyond n (jumpLeaf n count d) l.number d)).map
      Leaf.number).Pairwise (· < ·) := List.pairwise_map.2 (hsorted.filter _)
  rw [CacheState.deferredWanted]
  cases hnear : nearest d ((c.leaves.filter (fun l => l.edge = some (edgeOf d) &&
    beyond n (jumpLeaf n count d) l.number d)).map Leaf.number) with
  | none =>
    refine .inl ⟨rfl, fun l hl hway => ?_⟩
    have hin := (hmem l).2 ⟨hl, hway⟩
    rw [List.map_eq_nil_iff.1 (nearest_none hnear)] at hin
    exact absurd hin List.not_mem_nil
  | some m =>
    obtain ⟨hm, hbest⟩ := nearest_some hnumbers hnear
    obtain ⟨l, hl, rfl⟩ := List.mem_map.1 hm
    obtain ⟨hleaf, hway⟩ := (hmem l).1 hl
    exact .inr ⟨l, hleaf, hway, rfl, fun x hx hxway => hbest _ (List.mem_map_of_mem ((hmem x).2 ⟨hx, hxway⟩))⟩

/-! ### What it comes to -/

/-- What a turn to a leaf comes to, in reports and in the turn in flight it leaves. -/
def TurnOutcome (extra : List Report) (next : Option TurnFlight) (s t : State) : Prop :=
  match next with
  | none => extra.length ≤ 1 ∧ t = raiseAll extra s
  | some f => extra = [] ∧ ∃ slot sel, t = s.submitted f slot sel

theorem TurnOutcome.report (r : Report) (s : State) : TurnOutcome [r] none s (raise r s) := ⟨Nat.le_refl 1, rfl⟩

/-- What a turn to the wanted leaf comes to; the innermost cases of `DeferredResolves`. -/
def WantedResolves (c : CacheState) (s : State) (d : TurnDir) (w : Nat) (extra : List Report) (next : Option TurnFlight) : Prop :=
  (c.leaf w = none → extra = [.turnMiss d (some w) .absent] ∧ next = none) ∧
  ∀ l, c.leaf w = some l →
    (l.mode = .filling → extra = [.turnMiss d (some w) .filling] ∧ next = none) ∧
    (l.mode ≠ .filling →
      (∀ kind slot sel, c.turnChoice l.turnSlot = (kind, some slot, sel) → (s.slot slot).state = .valid →
        extra = [] ∧ next = some ⟨w, d, kind⟩) ∧
      (∀ kind slot sel, c.turnChoice l.turnSlot = (kind, some slot, sel) → (s.slot slot).state ≠ .valid →
        extra = [.turnMiss d (some w) .slot] ∧ next = none) ∧
      (∀ kind sel, c.turnChoice l.turnSlot = (kind, none, sel) → extra = [.turnMiss d (some w) .slot] ∧ next = none))

theorem leafSlot_some {c : CacheState} {t : Nat} {l : Leaf} (h : c.leaf t = some l) : c.leafSlot t = l.turnSlot := by
  rw [CacheState.leafSlot, h]

/-- With the rails powered and nothing pending only the slot can refuse a turn to a leaf that is there (R39, R93). -/
theorem submitTurn_outcome {d : TurnDir} {w : Nat} {l : Leaf} {s : State} (hleaf : s.cache.leaf w = some l) (hmode : l.mode ≠ .filling)
    (hrail : s.rail.mode ≠ .fault) (hp : s.engine.pending = []) :
    ∃ extra next, WantedResolves s.cache s d w extra next ∧ TurnOutcome extra next s (submitTurn d w s) := by
  have habsent : s.cache.leaf w ≠ none := by rw [hleaf]; simp
  have hsame {x : Leaf} (hx : s.cache.leaf w = some x) : x = l := Option.some.inj (hx.symm.trans hleaf)
  rcases hchoice : s.cache.turnChoice l.turnSlot with ⟨kind, slot, sel⟩
  have hchosen := hchoice
  rw [← leafSlot_some hleaf] at hchosen
  cases slot with
  | none =>
    refine ⟨_, _, ⟨fun h => absurd h habsent, fun x hx => ?_⟩, (submitTurn_slotless hchosen).symm ▸ TurnOutcome.report _ s⟩
    rw [hsame hx, hchoice]
    exact ⟨fun h => absurd h hmode, fun _ => ⟨by simp, by simp, fun _ _ _ => ⟨rfl, rfl⟩⟩⟩
  | some slot =>
    by_cases hv : (s.slot slot).state = .valid
    · have hthere : s.cache.leavesThere (.leaf w) none := by
        refine ⟨fun m hm => ?_, by simp⟩
        cases hm
        refine showable_of_leaf hleaf ?_
        cases hlm : l.mode with
        | filling => exact absurd hlm hmode
        | ready => exact .inl rfl
        | shown => exact .inr rfl
      have hlate : lateCheck slot (.leaf w) none s = none := by
        rw [lateCheck_there hv hthere, if_neg hrail, hp]; rfl
      have hsubmit : submitTurn d w s = s.submitted ⟨w, d, kind⟩ slot sel := by rw [submitTurn_checked hchosen, hlate]
      refine ⟨[], some ⟨w, d, kind⟩, ⟨fun h => absurd h habsent, fun x hx => ?_⟩, rfl, slot, sel, hsubmit⟩
      rw [hsame hx, hchoice]
      exact ⟨fun h => absurd h hmode, fun _ => ⟨by simp, by simp_all, by simp⟩⟩
    · have hsubmit : submitTurn d w s = raise (.turnMiss d (some w) .slot) s := by
        rw [submitTurn_checked hchosen, lateCheck_slot hv]; rfl
      refine ⟨_, _, ⟨fun h => absurd h habsent, fun x hx => ?_⟩, hsubmit.symm ▸ TurnOutcome.report _ s⟩
      rw [hsame hx, hchoice]
      exact ⟨fun h => absurd h hmode, fun _ => ⟨by simp_all, by simp, by simp⟩⟩

theorem takeTurnTo_outcome (d : TurnDir) (w : Nat) {s : State} (hrail : s.rail.mode ≠ .fault) (hp : s.engine.pending = []) :
    ∃ extra next, WantedResolves s.cache s d w extra next ∧ TurnOutcome extra next s (takeTurnTo d w s) := by
  rw [takeTurnTo]
  cases hleaf : s.cache.leaf w with
  | none => exact ⟨_, _, ⟨fun _ => ⟨rfl, rfl⟩, fun l hl => by rw [hleaf] at hl; cases hl⟩, .report _ s⟩
  | some l =>
    have habsent : s.cache.leaf w ≠ none := by rw [hleaf]; simp
    by_cases hmode : l.mode = .filling
    · refine ⟨[.turnMiss d (some w) .filling], none, ⟨fun h => absurd h habsent, fun x hx => ?_⟩, ?_⟩
      · rw [Option.some.inj (hx.symm.trans hleaf)]
        exact ⟨fun _ => ⟨rfl, rfl⟩, fun h => absurd hmode h⟩
      · simp only [hmode, if_true]; exact .report _ s
    · simp only [hmode, if_false]
      exact submitTurn_outcome hleaf hmode hrail hp

theorem atEdge_iff (c : CacheState) (n : Nat) (d : TurnDir) :
    c.atEdge n d = true ↔ ∃ l, c.leaf n = some l ∧ l.edge = some (edgeOf d) := by
  rw [CacheState.atEdge]
  cases c.leaf n <;> simp

/-- A turn to the wanted leaf depends on the leaves, the settings, the counter and the slots alone. -/
theorem WantedResolves.congr {c b : CacheState} {s t : State} {d : TurnDir} {w : Nat} {extra : List Report} {next : Option TurnFlight}
    (h : WantedResolves b t d w extra next) (hleaf : ∀ n, b.leaf n = c.leaf n) (hchoice : ∀ x, b.turnChoice x = c.turnChoice x)
    (hslot : ∀ k, t.slot k = s.slot k) : WantedResolves c s d w extra next := by
  simpa only [WantedResolves, hleaf, hchoice, hslot] using h

/-- The first case that applies decides what the deferred turn comes to. -/
theorem deferredResolves_of {c : CacheState} {s : State} {q : DeferredTurn} {extra : List Report} {next : Option TurnFlight}
    (hq : c.deferred = some q) (hsleep : c.sleepMark = true → extra = [.turnMiss q.dir none .sleep] ∧ next = none)
    (hnone : c.sleepMark = false → c.current = none → extra = [.turnMiss q.dir none .noCurrent] ∧ next = none)
    (hedge : ∀ n, c.sleepMark = false → c.current = some n →
      (c.atEdge n q.dir || (stepLeaf n q.dir).isNone) = true → extra = [.turnEdge n q.dir] ∧ next = none)
    (hwanted : ∀ n, c.sleepMark = false → c.current = some n → (c.atEdge n q.dir || (stepLeaf n q.dir).isNone) = false →
      ∃ w, DeferredWants c q.dir q.count n w ∧ WantedResolves c s q.dir w extra next) : DeferredResolves c s extra next := by
  refine ⟨fun h => absurd (hq.symm.trans h) (by simp), fun x hx => ?_⟩
  rw [hq] at hx
  cases hx
  refine ⟨hsleep, hnone, fun n hm hc => ⟨fun he => hedge n hm hc ?_, fun hfree hstep => hwanted n hm hc ?_⟩⟩
  · rw [Bool.or_eq_true, atEdge_iff, Option.isNone_iff_eq_none]; exact he
  · have hedgeless : c.atEdge n q.dir = false := by
      refine Bool.eq_false_iff.2 fun he => ?_
      obtain ⟨l, hl, hmark⟩ := (atEdge_iff c n q.dir).1 he
      exact hfree l hl hmark
    simpa [hedgeless] using Option.ne_none_iff_isSome.1 hstep

/-- The deferred turn is resolved once no turn is in flight (R96). -/
theorem resolveTurn_outcome {q : DeferredTurn} {c : CacheState} {s u : State} (hq : c.deferred = some q)
    (hu : u.cache = { c with flight := none, deferred := none }) (hslot : ∀ k, u.slot k = s.slot k)
    (hsorted : c.leaves.Pairwise (fun a b => a.number < b.number)) (hrail : u.rail.mode ≠ .fault) (hp : u.engine.pending = []) :
    ∃ extra next, DeferredResolves c s extra next ∧
      TurnOutcome extra next u (resolveTurn q.dir (fun n => u.cache.deferredWanted q.dir q.count n) u) := by
  have hsleep : u.cache.sleepMark = c.sleepMark := by rw [hu]
  have hcurrent : u.cache.current = c.current := by rw [hu]
  have hleaf (n : Nat) : u.cache.leaf n = c.leaf n := by rw [hu]; rfl
  have hedge (n : Nat) : u.cache.atEdge n q.dir = c.atEdge n q.dir := by rw [hu]; rfl
  have hchoice (x : Option Nat) : u.cache.turnChoice x = c.turnChoice x := by rw [hu]; rfl
  have hwanted (n : Nat) : u.cache.deferredWanted q.dir q.count n = c.deferredWanted q.dir q.count n := by rw [hu]; rfl
  simp only [resolveTurn, hsleep, hcurrent, hedge, hwanted]
  cases hm : c.sleepMark with
  | true => exact ⟨_, _, deferredResolves_of hq (fun _ => ⟨rfl, rfl⟩) (by simp [hm]) (by simp [hm]) (by simp [hm]), .report _ u⟩
  | false =>
    cases hc : c.current with
    | none => exact ⟨_, _, deferredResolves_of hq (by simp [hm]) (fun _ _ => ⟨rfl, rfl⟩) (by simp [hc]) (by simp [hc]), .report _ u⟩
    | some n =>
      simp only [Bool.false_eq_true, if_false]
      cases he : c.atEdge n q.dir || (stepLeaf n q.dir).isNone with
      | true =>
        simp only [if_true]
        refine ⟨_, _, deferredResolves_of hq (by simp [hm]) (by simp [hc]) (fun m _ hmc _ => ?_) (fun m _ hmc hfree => ?_), .report _ u⟩
        · rw [Option.some.inj (hc.symm.trans hmc)]; exact ⟨rfl, rfl⟩
        · rw [← Option.some.inj (hc.symm.trans hmc), he] at hfree; cases hfree
      | false =>
        simp only [Bool.false_eq_true, if_false]
        obtain ⟨extra, next, hresolves, houtcome⟩ := takeTurnTo_outcome q.dir (c.deferredWanted q.dir q.count n) hrail hp
        refine ⟨extra, next, deferredResolves_of hq (by simp [hm]) (by simp [hc]) (fun m _ hmc hstop => ?_) (fun m _ hmc _ => ?_), houtcome⟩
        · rw [← Option.some.inj (hc.symm.trans hmc), he] at hstop; cases hstop
        · rw [← Option.some.inj (hc.symm.trans hmc)]
          exact ⟨_, deferredWanted_wants hsorted q.dir q.count n, hresolves.congr hleaf hchoice hslot⟩

/-- No turn in flight and none deferred. -/
def State.undeferred (s : State) : State := s.onCache (fun c => { c with deferred := none })

theorem resolveDeferred_outcome {c : CacheState} {s v : State} (hv : v.cache = { c with flight := none })
    (hslot : ∀ k, v.slot k = s.slot k) (hsorted : c.leaves.Pairwise (fun a b => a.number < b.number)) (hrail : v.rail.mode ≠ .fault)
    (hp : v.engine.pending = []) :
    ∃ extra next, DeferredResolves c s extra next ∧ TurnOutcome extra next v.undeferred (resolveDeferred v) := by
  have hdeferred : v.cache.deferred = c.deferred := by rw [hv]
  rw [resolveDeferred, hdeferred]
  cases hq : c.deferred with
  | none =>
    have hsame : v.undeferred = v := by
      have hcache : ({ v.cache with deferred := none } : CacheState) = v.cache := by rw [← hq, ← hdeferred]
      rw [State.undeferred, State.onCache, hcache]
    refine ⟨[], none, ⟨fun _ => ⟨rfl, rfl⟩, fun q hqs => by rw [hq] at hqs; cases hqs⟩, Nat.zero_le 1, ?_⟩
    rw [hsame]; rfl
  | some q =>
    exact resolveTurn_outcome (u := v.undeferred) hq (by rw [State.undeferred, onCache_cache, hv]) hslot hsorted hrail hp

/-! ### Outcome and state -/

theorem lightActivity_works (s : State) : Works [.light, .power] s (lightActivity s) :=
  .ite _ (fun _ => lightEvent_works _ s) fun _ => .refl _ s

theorem useSource_mem (src : Source) (s : State) : (useSource src s).mem = s.mem := by
  cases src <;> rfl

theorem appendEntry_works (e : PendingEntry) (s : State) : Works [.wave, .engine, .cache] s (appendEntry e s) :=
  .of_frame (appendEntry_frame e s) (useSource_mem _ _)

theorem submitted_works (f : TurnFlight) (slot : Nat) (sel : Selection) (s : State) :
    Works [.wave, .engine, .cache, .light, .power] s (s.submitted f slot sel) := by
  have hwalk := (appendEntry_works (s.turnEntry f.leaf slot sel) s).trans (walk_works _).mono
  have hflight := hwalk.trans (Works.of_frame (onCache_frame (fun k => { k with flight := some f }) _)).mono
  exact hflight.mono.trans (lightActivity_works _).mono

theorem submitted_cache (f : TurnFlight) (slot : Nat) (sel : Selection) {s : State} (h : s.power.engineIdle = false) :
    (s.submitted f slot sel).cache = { (useLeaf f.leaf s).cache with flight := some f } := by
  have hwalk := (appendEntry_works (s.turnEntry f.leaf slot sel) s).trans (walk_works _).mono
  have hflight := hwalk.trans (Works.of_frame (onCache_frame (fun k => { k with flight := some f }) _)).mono
  have hentry : (walk (appendEntry (s.turnEntry f.leaf slot sel) s)).cache = (useLeaf f.leaf s).cache :=
    ((walk_frame _).2 .cache (by decide)).trans (appendEntry_cache _ s)
  rw [State.submitted, (lightActivity_works _ (hflight h).atWork).frame.2 .cache (by decide), onCache_cache, hentry]

/-- What the outcome of a turn leaves, whether it is a turn in flight or a miss. -/
structure TurnTaken (extra : List Report) (next : Option TurnFlight) (s t : State) : Prop where
  stays : Stays [.wave, .engine, .cache, .light, .power, .link] s t
  flight : s.cache.flight = none → t.cache.flight = next
  deferred : t.cache.deferred = s.cache.deferred
  counter : t.cache.counter = s.cache.counter
  current : t.cache.current = s.cache.current
  anchor : t.cache.anchor = s.cache.anchor
  queue : HasRoom 1 s → t.link.queue = s.link.queue ++ extra.map .report

theorem TurnOutcome.turned {extra : List Report} {next : Option TurnFlight} {s t : State} (h : TurnOutcome extra next s t)
    (hwork : s.power.engineIdle = false) : TurnTaken extra next s t := by
  cases next with
  | none =>
    obtain ⟨hlen, rfl⟩ := h
    have hworks := (raiseAll_works extra s).mono (cs := [.wave, .engine, .cache, .light, .power, .link])
    have hcache : (raiseAll extra s).cache = s.cache := (raiseAll_frame extra s).2 .cache (by decide)
    refine ⟨hworks hwork, fun hf => by rw [hcache, hf], by rw [hcache], by rw [hcache], by rw [hcache], by rw [hcache], fun hr => ?_⟩
    exact (HasRoom.raiseAll (k := 0) extra (hr.mono (by omega))).1
  | some f =>
    obtain ⟨rfl, slot, sel, rfl⟩ := h
    have hcache := submitted_cache f slot sel hwork
    have hworks := (submitted_works f slot sel s).mono (cs := [.wave, .engine, .cache, .light, .power, .link])
    have hlink : (s.submitted f slot sel).link = s.link := (submitted_works f slot sel s hwork).frame.2 .link (by decide)
    refine ⟨hworks hwork, fun _ => by rw [hcache], ?_, ?_, ?_, ?_, fun _ => by rw [hlink, List.map_nil, List.append_nil]⟩ <;>
      rw [hcache] <;> rfl

/-! ### The entry of the next turn -/

/-- An entry has its lane, or waits alone in the queue. -/
def EntryAtWork (e : PendingEntry) (s : State) : Prop :=
  (s.engine.pending = [] ∧ ∃ k, k < 8 ∧ (s.lane k).state = .preparing ∧ (s.lane k).origin = e.origin ∧
    (s.lane k).source = e.source ∧ (s.lane k).rect = e.rect) ∨ s.engine.pending = [e]

theorem walk_entryAtWork {e : PendingEntry} {s : State} (h : s.engine.pending = [e]) : EntryAtWork e (walk s) := by
  cases hstart : startsOn e [] s with
  | none => rw [walk_single_waits h hstart]; exact .inr rfl
  | some k =>
    obtain ⟨-, -, -, hk, -, -⟩ := (startsOn_iff e [] k s).1 hstart
    have hlane := startLane_lane_same e s hk
    rw [walk_single_starts h hstart]
    refine .inl ⟨rfl, k, hk, ?_⟩
    rw [setPending_lane, hlane]
    exact ⟨rfl, rfl, rfl, rfl⟩

/-- It keeps its lane or its place as a lane that drives goes, and as the queue is walked once more. -/
theorem EntryAtWork.left {e : PendingEntry} {s : State} {n : Nat} (h : EntryAtWork e s) (hd : (s.lane n).state = .driving) :
    EntryAtWork e (s.left n) := by
  obtain ⟨-, -, hpending⟩ := freeLane_rest true n s
  have hlane (k : Nat) := left_lane n k s
  have hwalked : EntryAtWork e (walk (freeLane true n s)) := by
    rcases h with ⟨hnone, k, hk, hprep, hrest⟩ | hwait
    · have hkn : k ≠ n := by rintro rfl; rw [hd] at hprep; cases hprep
      rw [walk_empty (hpending.trans hnone)]
      refine .inl ⟨hpending.trans hnone, k, hk, ?_⟩
      rw [freeLane_lane_other true s hkn]
      exact ⟨hprep, hrest⟩
    · exact walk_entryAtWork (hpending.trans hwait)
  rcases hwalked with ⟨hnone, k, hk, hstarted⟩ | hwait
  · exact .inl ⟨(left_pending n s).trans hnone, k, hk, by rw [hlane]; exact hstarted⟩
  · exact .inr ((left_pending n s).trans hwait)

/-- A submitted turn has its lane or waits, and lanes at work keep at it (R93, R41). -/
theorem submitted_entryAtWork (f : TurnFlight) (slot : Nat) (sel : Selection) {s : State} (hp : s.engine.pending = []) :
    EntryAtWork (s.turnEntry f.leaf slot sel) (s.submitted f slot sel) ∧
      ∀ k, (s.lane k).state ≠ .free → (s.submitted f slot sel).lane k = s.lane k := by
  have hentry := appendEntry_engine (s.turnEntry f.leaf slot sel) s
  have hengine : (s.submitted f slot sel).engine = (walk (appendEntry (s.turnEntry f.leaf slot sel) s)).engine :=
    lightActivity_engine _
  have hlane (k : Nat) := lane_of_engine hengine k
  obtain ⟨-, -, hfill⟩ := walk_leaves (appendEntry (s.turnEntry f.leaf slot sel) s)
  have hkept (k : Nat) : (appendEntry (s.turnEntry f.leaf slot sel) s).lane k = s.lane k := lane_of_lanes (by rw [hentry]) k
  refine ⟨?_, fun k hk => ?_⟩
  · have hwalk := walk_entryAtWork (e := s.turnEntry f.leaf slot sel) (s := appendEntry (s.turnEntry f.leaf slot sel) s)
      (by rw [hentry, hp]; rfl)
    simp only [EntryAtWork, hlane, hengine] at hwalk ⊢
    exact hwalk
  · rw [hlane, hfill.busy k (lt_of_busy hk) (by rw [hkept]; exact hk), hkept]

/-! ## The low-water test (R97) -/

/-- From leaf `n` there are `k` numbers ahead in a direction (R91). -/
def OnBook (n k : Nat) (d : TurnDir) : Prop :=
  match d with
  | .next => n + k ≤ 16777215
  | .prev => k ≤ n

theorem OnBook.step {n k : Nat} {d : TurnDir} (h : OnBook n (k + 1) d) : stepLeaf n d = some (jumpLeaf n 1 d) := by
  cases d with
  | next =>
    have h : n + (k + 1) ≤ 16777215 := h
    have hmax : n + 1 ≤ Config.maxLeaf := by rw [Config.maxLeaf]; omega
    simp only [stepLeaf, jumpLeaf, if_pos hmax, Nat.min_eq_left hmax]
  | prev =>
    have h : k + 1 ≤ n := h
    exact if_pos (by omega)

theorem OnBook.jump {n k : Nat} {d : TurnDir} (h : OnBook n (k + 1) d) : OnBook (jumpLeaf n 1 d) k d := by
  cases d with
  | next =>
    have h : n + (k + 1) ≤ 16777215 := h
    simp only [OnBook, jumpLeaf, Config.maxLeaf]; omega
  | prev =>
    have h : k + 1 ≤ n := h
    simp only [OnBook, jumpLeaf]; omega

theorem OnBook.jumpLeaf_zero {n k : Nat} {d : TurnDir} (h : OnBook n k d) : jumpLeaf n 0 d = n := by
  cases d with
  | next =>
    have h : n + k ≤ 16777215 := h
    simp only [jumpLeaf, Config.maxLeaf]; omega
  | prev => rfl

theorem jumpLeaf_succ (n i : Nat) (d : TurnDir) : jumpLeaf (jumpLeaf n 1 d) i d = jumpLeaf n (i + 1) d := by
  cases d <;> simp only [jumpLeaf, Config.maxLeaf] <;> omega

theorem OnBook.jumpLeaf_inj {n k i j : Nat} {d : TurnDir} (h : OnBook n k d) (hi : i ≤ k) (hj : j ≤ k)
    (he : jumpLeaf n i d = jumpLeaf n j d) : i = j := by
  cases d with
  | next =>
    have h : n + k ≤ 16777215 := h
    simp only [jumpLeaf, Config.maxLeaf] at he; omega
  | prev =>
    have h : k ≤ n := h
    simp only [jumpLeaf] at he; omega

/-- The `k` numbers after leaf `n` stand for READY leaves none of which ends the book. -/
def CacheState.readyRun (c : CacheState) (d : TurnDir) (n k : Nat) : Prop :=
  ∀ i, 1 ≤ i → i ≤ k → ∃ l, c.leaf (jumpLeaf n i d) = some l ∧ l.mode = .ready ∧ l.edge ≠ some (edgeOf d)

theorem CacheState.readyRun.tail {c : CacheState} {d : TurnDir} {n k : Nat} (h : c.readyRun d n (k + 1)) :
    c.readyRun d (jumpLeaf n 1 d) k := fun i _ hk => by
  rw [jumpLeaf_succ]
  exact h (i + 1) (by omega) (by omega)

theorem readyAhead_step {c : CacheState} {d : TurnDir} {n m steps count : Nat} {l : Leaf} (hm : stepLeaf n d = some m)
    (hl : c.leaf m = some l) (hr : l.mode = .ready) (he : l.edge ≠ some (edgeOf d)) :
    c.readyAhead d (steps + 1) n count = c.readyAhead d steps m (count + 1) := by
  rw [CacheState.readyAhead, hm]
  simp only [hl, hr, if_true, if_neg he]
  rfl

/-- Along a run of READY leaves each counts (R97). -/
theorem readyAhead_run {c : CacheState} {d : TurnDir} (steps k : Nat) : ∀ n count, OnBook n k d → c.readyRun d n k →
    c.readyAhead d (steps + k) n count = c.readyAhead d steps (jumpLeaf n k d) (count + k) := by
  induction k with
  | zero => intro n count hn _; rw [hn.jumpLeaf_zero]; rfl
  | succ k ih =>
    intro n count hn hrun
    obtain ⟨l, hl, hr, he⟩ := hrun 1 (Nat.le_refl 1) (by omega)
    rw [← Nat.add_assoc, readyAhead_step hn.step hl hr he, ih _ _ hn.jump hrun.tail, jumpLeaf_succ]
    congr 1; omega

theorem readyAhead_stops {c : CacheState} {d : TurnDir} {n count : Nat} (steps : Nat)
    (h : ∀ m, stepLeaf n d = some m → ∀ l, c.leaf m = some l → l.mode = .filling) : c.readyAhead d steps n count = (count, false) := by
  cases steps with
  | zero => rfl
  | succ steps =>
    rw [CacheState.readyAhead]
    cases hm : stepLeaf n d with
    | none => rfl
    | some m =>
      simp only
      cases hl : c.leaf m with
      | none => rfl
      | some l => simp only [h m hm l hl, if_true]

theorem readyAhead_edge {c : CacheState} {d : TurnDir} {n m steps count : Nat} {l : Leaf} (hm : stepLeaf n d = some m)
    (hl : c.leaf m = some l) (hr : l.mode = .ready) (he : l.edge = some (edgeOf d)) : (c.readyAhead d (steps + 1) n count).2 = true := by
  rw [CacheState.readyAhead, hm]
  simp [hl, hr, he]

/-- A run meets as many records as it has leaves. -/
theorem readyRun_length {c : CacheState} {d : TurnDir} {n k : Nat} (hn : OnBook n k d) (h : c.readyRun d n k) : k ≤ c.leaves.length := by
  have hnodup : ((List.range k).map (fun i => jumpLeaf n (i + 1) d)).Nodup := by
    refine List.Nodup.map_on (fun i hi j hj he => ?_) List.nodup_range
    rw [List.mem_range] at hi hj
    have := hn.jumpLeaf_inj (by omega) (by omega) he
    omega
  have hsub : (List.range k).map (fun i => jumpLeaf n (i + 1) d) ⊆ c.leaves.map Leaf.number := by
    intro m hm
    obtain ⟨i, hi, rfl⟩ := List.mem_map.1 hm
    obtain ⟨l, hl, -⟩ := h (i + 1) (by omega) (by rw [List.mem_range] at hi; omega)
    have hnumber := List.find?_some hl
    rw [← eq_of_beq hnumber]
    exact List.mem_map_of_mem (List.mem_of_find?_eq_some hl)
  simpa using (hnodup.subperm hsub).length_le

theorem lowReport_none {c : CacheState} {d : TurnDir} (h : c.current = none) : c.lowReport d = [] := by
  rw [CacheState.lowReport, h]

theorem lowReport_edge {c : CacheState} {d : TurnDir} {n : Nat} (h : c.current = some n) (he : c.atEdge n d = true) :
    c.lowReport d = [] := by
  rw [CacheState.lowReport, h]
  exact if_pos he

theorem lowReport_counts {c : CacheState} {d : TurnDir} {n : Nat} (h : c.current = some n) (he : c.atEdge n d = false) :
    c.lowReport d = if (c.readyAhead d (c.leaves.length + 1) n 0).2 = true then []
      else if (c.readyAhead d (c.leaves.length + 1) n 0).1 < c.settings.lowWater
        then [.cacheLow n d (c.readyAhead d (c.leaves.length + 1) n 0).1] else [] := by
  rw [CacheState.lowReport, h]
  exact if_neg (by rw [he]; decide)

/-- After a run that the count passes whole, what stands behind it decides. -/
theorem readyAhead_after {c : CacheState} {d : TurnDir} {n k : Nat} (hn : OnBook n k d) (h : c.readyRun d n k) :
    ∃ steps, c.readyAhead d (c.leaves.length + 1) n 0 = c.readyAhead d (steps + 1) (jumpLeaf n k d) k := by
  have hlen := readyRun_length hn h
  refine ⟨c.leaves.length - k, ?_⟩
  have hrun := readyAhead_run (c := c) (c.leaves.length - k + 1) k n 0 hn h
  rwa [Nat.zero_add, show c.leaves.length - k + 1 + k = c.leaves.length + 1 by omega] at hrun

theorem lowReport_run {c : CacheState} {d : TurnDir} {n k : Nat} (hc : c.current = some n) (he : c.atEdge n d = false)
    (hn : OnBook n k d) (h : c.readyRun d n k)
    (hstop : ∀ m, stepLeaf (jumpLeaf n k d) d = some m → ∀ l, c.leaf m = some l → l.mode = .filling) :
    c.lowReport d = if k < c.settings.lowWater then [.cacheLow n d k] else [] := by
  obtain ⟨steps, hafter⟩ := readyAhead_after hn h
  rw [lowReport_counts hc he, hafter, readyAhead_stops _ hstop]
  rfl

theorem lowReport_meets_edge {c : CacheState} {d : TurnDir} {n k m : Nat} {l : Leaf} (hc : c.current = some n)
    (he : c.atEdge n d = false) (hn : OnBook n k d) (h : c.readyRun d n k) (hm : stepLeaf (jumpLeaf n k d) d = some m)
    (hl : c.leaf m = some l) (hr : l.mode = .ready) (hmark : l.edge = some (edgeOf d)) : c.lowReport d = [] := by
  obtain ⟨steps, hafter⟩ := readyAhead_after hn h
  rw [lowReport_counts hc he, hafter]
  exact if_pos (readyAhead_edge hm hl hr hmark)

theorem lowReport_length (c : CacheState) (d : TurnDir) : (c.lowReport d).length ≤ 1 := by
  cases hc : c.current with
  | none => rw [lowReport_none hc]; exact Nat.zero_le 1
  | some n =>
    cases he : c.atEdge n d with
    | true => rw [lowReport_edge hc he]; exact Nat.zero_le 1
    | false =>
      rw [lowReport_counts hc he]
      split
      · exact Nat.zero_le 1
      · split
        · exact Nat.le_refl 1
        · exact Nat.zero_le 1

/-- The test does not look at the partial-turn counter. -/
theorem lowReport_counter (c : CacheState) (x : Nat) (d : TurnDir) : ({ c with counter := x } : CacheState).lowReport d = c.lowReport d := by
  have hahead : ∀ steps n count, ({ c with counter := x } : CacheState).readyAhead d steps n count = c.readyAhead d steps n count := by
    intro steps
    induction steps with
    | zero => exact fun _ _ => rfl
    | succ steps ih =>
      intro n count
      have hleaf (m : Nat) : ({ c with counter := x } : CacheState).leaf m = c.leaf m := rfl
      simp only [CacheState.readyAhead, hleaf, ih]
  have hedge (n : Nat) : ({ c with counter := x } : CacheState).atEdge n d = c.atEdge n d := rfl
  simp only [CacheState.lowReport, hahead, hedge]

/-! ## A turn lane completes (R95) -/

/-- The partial-turn counter has heard of the lane (R92). -/
def State.turnCounted (l : Lane) (s : State) : State := s.onCache (fun c => { c with counter := nextCounter l.selection c.counter })

/-- The turn is told done and the low-water test made; the turn in flight is over (R95, R97). -/
def State.turnTold (l : Lane) (f : TurnFlight) (s : State) : State :=
  (raiseAll (s.cache.lowReport f.dir) (raise (.turnDone f.leaf f.dir f.kind l.promoted) (s.turnCounted l))).onCache
    (fun c => { c with flight := none })

theorem completedLane_turn {l : Lane} {f : TurnFlight} {s : State} (ho : l.origin = .turn) (hf : s.cache.flight = some f) :
    completedLane l s = resolveDeferred (s.turnTold l f) := by
  have hlow : (raise (.turnDone f.leaf f.dir f.kind l.promoted) (s.turnCounted l)).cache.lowReport f.dir = s.cache.lowReport f.dir := by
    rw [raise_cache, State.turnCounted, onCache_cache, lowReport_counter]
  rw [completedLane, ho, State.turnTold, ← hlow]
  simp only [turnDone, hf]
  rfl

theorem nextCounter_eq (sel : Selection) (n : Nat) : nextCounter sel n = if sel = .all then 0 else min (n + 1) 63 := by
  cases sel <;> rfl

/-- What a completed turn has told. -/
structure TurnTold (l : Lane) (f : TurnFlight) (s t : State) : Prop where
  stays : Stays [.cache, .power, .link] s t
  cache : t.cache = { s.cache with counter := nextCounter l.selection s.cache.counter, flight := none }
  queue : HasRoom 3 s → HasRoom 1 t ∧
    t.link.queue = s.link.queue ++ .report (.turnDone f.leaf f.dir f.kind l.promoted) :: (s.cache.lowReport f.dir).map .report

theorem turnTold_facts (l : Lane) (f : TurnFlight) {s : State} (hwork : s.power.engineIdle = false) :
    TurnTold l f s (s.turnTold l f) := by
  have hcounted : Works [.cache, .power, .link] s (s.turnCounted l) := (Works.of_frame (onCache_frame _ s)).mono
  have hdone := hcounted.trans (raise_works (.turnDone f.leaf f.dir f.kind l.promoted) _).mono
  have hlow := hdone.trans (raiseAll_works (s.cache.lowReport f.dir) _).mono
  have hover := hlow.trans (Works.of_frame (onCache_frame (fun c => { c with flight := none }) _)).mono
  have hcache := (raiseAll_frame (s.cache.lowReport f.dir) (raise (.turnDone f.leaf f.dir f.kind l.promoted) (s.turnCounted l))).2
    .cache (by decide)
  refine ⟨hover hwork, ?_, fun hroom => ?_⟩
  · refine (congrArg (fun c : CacheState => { c with flight := none }) (hcache.trans (raise_cache _ _))).trans ?_
    rfl
  · have hcount : HasRoom (2 + 1) (s.turnCounted l) := hroom.congr rfl rfl
    obtain ⟨hqueue, hroom'⟩ := hcount.raise (.turnDone f.leaf f.dir f.kind l.promoted)
    have hlen := lowReport_length s.cache f.dir
    obtain ⟨hqueues, hleft⟩ := HasRoom.raiseAll (k := 1) (s.cache.lowReport f.dir) (hroom'.mono (by omega))
    refine ⟨hleft.congr rfl rfl, hqueues.trans ?_⟩
    rw [hqueue, List.append_assoc]
    rfl

/-- A turn lane told its end: the deferred turn is resolved (R95, R96). -/
theorem Painted.turned {n : Nat} {f : TurnFlight} {s p : State} (h : Painted n s p) (ho : (s.lane n).origin = .turn)
    (hf : s.cache.flight = some f) (hsound : s.leavesSound) (hon : s.rail.mode = .on) (hp : s.engine.pending = []) :
    ∃ (v : State) (extra : List Report) (next : Option TurnFlight), TurnTold (p.lane n) f p v ∧
      DeferredResolves { s.cache with counter := nextCounter (s.lane n).selection s.cache.counter } s extra next ∧
      TurnOutcome extra next v.undeferred (completedLane (p.lane n) p) := by
  have hcache : p.cache = s.cache := h.frame.2 .cache (by decide)
  have htold := turnTold_facts (p.lane n) f h.atWork
  have hdone := completedLane_turn (l := p.lane n) (f := f) (s := p) (by rw [h.lane]; exact ho) (by rw [hcache]; exact hf)
  rw [hdone]
  generalize p.turnTold (p.lane n) f = v at htold
  have hframe := htold.stays.frame
  have hslot (k : Nat) : v.slot k = s.slot k := by
    rw [State.slot, hframe.2 .wave (by decide), h.frame.2 .wave (by decide)]; rfl
  have hrail : v.rail.mode ≠ .fault := by
    rw [hframe.2 .rail (by decide), h.frame.2 .rail (by decide), hon]; decide
  have hpending : v.engine.pending = [] := by
    rw [hframe.2 .engine (by decide), h.pending, hp]
  obtain ⟨extra, next, hresolves, houtcome⟩ := resolveDeferred_outcome (s := s) (v := v)
    (c := { s.cache with counter := nextCounter (s.lane n).selection s.cache.counter })
    (by rw [htold.cache, hcache, h.lane]) hslot hsound.1 hrail hpending
  exact ⟨v, extra, next, htold, hresolves, houtcome⟩

/-- A frame event in which the one lane that drives, of a turn, completes, with what the deferred turn comes to (R52, R95). -/
structure TurnFinished (n : Nat) (f : TurnFlight) (extra : List Report) (next : Option TurnFlight) (s t : State) : Prop where
  mem : t.mem = Memory.setPixels s.mem (shownBlocks s.pool.geometry) ((s.lanePixels (s.lane n)).map (fun q => (q.1, q.2.2)))
  counter : t.cache.counter = nextCounter (s.lane n).selection s.cache.counter
  flight : t.cache.flight = next
  deferred : t.cache.deferred = none
  current : t.cache.current = s.cache.current
  anchor : t.cache.anchor = s.cache.anchor
  queue : HasRoom 3 s → t.link.queue = s.link.queue ++ .report (.turnDone f.leaf f.dir f.kind (s.lane n).promoted) ::
    (s.cache.lowReport f.dir ++ extra).map .report
  missed : next = none → (t.lane n).state = .free ∧ (∀ k, k < 8 → k ≠ n → t.lane k = s.lane k) ∧ t.engine.pending = [] ∧
    (∀ k, k < 6 → t.slot k =
      if k = (s.lane n).slot then { s.slot k with useCount := (s.slot k).useCount - 1 } else s.slot k) ∧
    t.cache.leaves = s.cache.leaves.map (Leaf.unused (s.lane n).source)
  next : ∀ x, next = some x → ∃ slot sel, EntryAtWork (s.turnEntry x.leaf slot sel) t

/-- A deferred turn that comes to nothing leaves lanes, slots and leaves as the freed lane does (R51). -/
theorem Painted.turn_over {n : Nat} {extra : List Report} {l : Lane} {f : TurnFlight} {s p v c : State} (h : Painted n s p)
    (hv : TurnTold l f p v) (hc : TurnOutcome extra none v.undeferred c) (hp : s.engine.pending = []) :
    LeftAlone n c (c.left n) ∧ (∀ k, c.lane k = p.lane k) ∧ (∀ k, c.slot k = s.slot k) ∧ c.cache.leaves = s.cache.leaves := by
  obtain ⟨-, rfl⟩ := hc
  have hengine : (raiseAll extra v.undeferred).engine = p.engine :=
    (raiseAll_engine extra v.undeferred).trans (hv.stays.frame.2 .engine (by decide))
  have hwork := (raiseAll_works extra v.undeferred hv.stays.atWork).atWork
  have hframe := raiseAll_frame extra v.undeferred
  have hwave : (raiseAll extra v.undeferred).wave = s.wave :=
    (hframe.2 .wave (by decide)).trans ((hv.stays.frame.2 .wave (by decide)).trans (h.frame.2 .wave (by decide)))
  have hcache : (raiseAll extra v.undeferred).cache = v.undeferred.cache := hframe.2 .cache (by decide)
  have hfirst : p.cache = s.cache := h.frame.2 .cache (by decide)
  refine ⟨left_alone n hwork (by rw [hengine, h.pending, hp]), lane_of_engine hengine, fun k => ?_, ?_⟩
  · rw [State.slot, hwave]; rfl
  · rw [hcache, State.undeferred, onCache_cache, hv.cache, hfirst]

/-- The turn in flight that a deferred turn becomes is at work as the event ends (R93, R41). -/
theorem Painted.turn_next {n : Nat} {extra : List Report} {l : Lane} {f x : TurnFlight} {s p v c : State} (h : Painted n s p)
    (hd : (s.lane n).state = .driving) (hv : TurnTold l f p v) (hc : TurnOutcome extra (some x) v.undeferred c)
    (hp : s.engine.pending = []) : ∃ slot sel, EntryAtWork (s.turnEntry x.leaf slot sel) (c.left n) := by
  obtain ⟨-, slot, sel, rfl⟩ := hc
  have hengine : v.undeferred.engine = p.engine := hv.stays.frame.2 .engine (by decide)
  have hlane : (v.undeferred.lane n).state = .driving := by rw [lane_of_engine hengine, h.lane]; exact hd
  obtain ⟨hentry, hkept⟩ := submitted_entryAtWork x slot sel (s := v.undeferred) (by rw [hengine, h.pending, hp])
  have hpool : v.undeferred.pool = s.pool := (hv.stays.frame.2 .pool (by decide)).trans (h.frame.2 .pool (by decide))
  have hrect : v.undeferred.turnEntry x.leaf slot sel = s.turnEntry x.leaf slot sel := by
    rw [State.turnEntry, State.panelRect, hpool]; rfl
  rw [hrect] at hentry
  exact ⟨slot, sel, hentry.left (by rw [hkept n (by rw [hlane]; decide)]; exact hlane)⟩

theorem Finishing.turn {n : Nat} {f : TurnFlight} {s : State} (h : Finishing n s) (hs : s.coherent) (hsound : s.leavesSound)
    (hscan : s.engine.scan.isSome = true) (hon : s.rail.mode = .on) (hp : s.engine.pending = []) (ho : (s.lane n).origin = .turn)
    (hf : s.cache.flight = some f) : ∃ t extra next, exec .frameEvent s = .next t ∧
      DeferredResolves { s.cache with counter := nextCounter (s.lane n).selection s.cache.counter } s extra next ∧
      TurnFinished n f extra next s t := by
  obtain ⟨p, hpaint, hexec, -⟩ := h.event hs hscan hon
  obtain ⟨v, extra, next, htold, hresolves, houtcome⟩ := hpaint.turned ho hf hsound hon hp
  generalize completedLane (p.lane n) p = c at hexec houtcome
  have hcache : p.cache = s.cache := hpaint.frame.2 .cache (by decide)
  have hlink : p.link = s.link := hpaint.frame.2 .link (by decide)
  have htaken := houtcome.turned (s := v.undeferred) htold.stays.atWork
  have hrest := left_facts n htaken.stays.atWork
  have hsame := engineNotify_sameWork (c.left n)
  have hvcache : v.undeferred.cache = { s.cache with
      counter := nextCounter (s.lane n).selection s.cache.counter, flight := none, deferred := none } := by
    rw [State.undeferred, onCache_cache, htold.cache, hcache, hpaint.lane]
  refine ⟨_, extra, next, hexec, hresolves, ⟨?_, ?_, ?_, ?_, ?_, ?_, fun hroom => ?_, fun hnone => ?_, fun x hx => ?_⟩⟩
  · exact hsame.mem.trans (hrest.mem.trans (htaken.stays.mem.trans (htold.stays.mem.trans hpaint.mem)))
  · rw [hsame.counter, hrest.cache, htaken.counter, hvcache]
  · rw [hsame.flight, hrest.cache]
    exact htaken.flight (by rw [hvcache])
  · rw [hsame.deferred, hrest.cache, htaken.deferred, hvcache]
  · rw [hsame.current, hrest.cache, htaken.current, hvcache]
  · rw [hsame.anchor, hrest.cache, htaken.anchor, hvcache]
  · obtain ⟨hroom', hqueue⟩ := htold.queue (hroom.congr hlink hpaint.mode)
    have hextra : c.link.queue = v.link.queue ++ extra.map .report := htaken.queue (hroom'.congr rfl rfl)
    rw [hsame.queue, hrest.frame.2 .link (by decide), hextra, hqueue, hlink, hcache, hpaint.lane, List.map_append, List.append_assoc]
    rfl
  · subst hnone
    obtain ⟨halone, hlanes, hslots, hleaves⟩ := hpaint.turn_over htold houtcome hp
    refine ⟨(congrArg Lane.state (hsame.lane n)).trans halone.free, fun k _ hk => ?_,
      (congrArg EngineState.pending hsame.engine).trans halone.pending, fun k hk => ?_, ?_⟩
    · exact (hsame.lane k).trans ((halone.others k hk).trans ((hlanes k).trans (hpaint.others k hk)))
    · rw [hsame.slot, halone.slot k hk, hlanes, hpaint.lane, hslots]
    · rw [hsame.leaves, hrest.cache, hlanes, hpaint.lane, hleaves]
  · subst hx
    obtain ⟨slot, sel, hentry⟩ := hpaint.turn_next h.drives htold houtcome hp
    refine ⟨slot, sel, ?_⟩
    simpa only [EntryAtWork, hsame.engine, hsame.lane] using hentry

/-- Settles O39: the host lane, the turn lane, and what the turn reports are made of. -/
theorem completedLaneReachesTheShownPlane : Obligations.CompletedLaneReachesTheShownPlane := by
  refine ⟨fun n s hs hn hscan hon hp hd hlast halone ho => ?_, fun n f s hs hsound hn hscan hon hp hd hlast halone ho hf => ?_,
    fun c d n k => ⟨lowReport_none, fun hc he => lowReport_edge hc ((atEdge_iff c n d).2 he), fun hc he hn hrun => ?_⟩,
    fun cause s f => ⟨turnAbandoned_none, fun hf => ⟨_, rfl, ?_⟩⟩⟩
  · obtain ⟨t, hexec, ht⟩ := Finishing.host ⟨hn, hd, hlast, halone⟩ hs hscan hon hp ho
    refine ⟨t, hexec, ht.mem, fun x hx => ?_, ht.free, fun k _ hk => ht.others k hk, ht.stopped.1, ht.stopped.2, ht.pending, ht.slot,
      ht.cache, ht.changed, ht.all, ht.queue, ht.rail⟩
    rw [ht.mem]
    refine Memory.read_setPixels_other _ _ s.mem x fun q hq => ?_
    obtain ⟨q', hq', rfl⟩ := List.mem_map.1 hq
    exact hx q' hq'
  · obtain ⟨t, extra, next, hexec, hresolves, ht⟩ := Finishing.turn ⟨hn, hd, hlast, halone⟩ hs hsound hscan hon hp ho hf
    refine ⟨t, _, extra, next, hexec, nextCounter_eq _ _, hresolves, ht.mem, ht.counter, ht.flight, ht.deferred, ht.current, ht.anchor,
      fun hm hreports hplaces => ht.queue (.of_lengths hm hreports hplaces), ht.missed, fun x hx => ?_⟩
    obtain ⟨slot, sel, ⟨-, k, hk, hprep, horigin, hsource, hrect⟩ | hwait⟩ := ht.next x hx
    · exact .inl ⟨k, hk, hprep, horigin, hsource, hrect⟩
    · exact .inr ⟨_, by rw [hwait]; exact List.mem_singleton_self _, rfl, rfl, rfl⟩
  · have hedge : c.atEdge n d = false := by
      refine Bool.eq_false_iff.2 fun hc => ?_
      obtain ⟨l, hl, hmark⟩ := (atEdge_iff c n d).1 hc
      exact he l hl hmark
    have hn : OnBook n k d := by cases d <;> exact hn
    exact ⟨lowReport_run hc hedge hn hrun, fun m l hm hl hr hmark => lowReport_meets_edge hc hedge hn hrun hm hl hr hmark⟩
  · rw [turnAbandoned_some hf, State.onCache, raise_cache]

end Sys2Proof.Machine
end

section
/-! SUPPORT. The proofs of the obligations of the panel rails and the supply budget, with the lemmas they are built from. -/

namespace Sys2Proof.Machine

/-! ## The panel estimate (R77) -/

theorem estimate_up {b : BudgetState} (h : b.rail = .rising ∨ b.rail = .on ∨ b.rail = .hold) :
    b.estimate = b.base + (b.load * b.coeff + 999999) / 1000000 := by
  rw [BudgetState.estimate, if_pos]
  rcases h with h | h | h <;> rw [h] <;> rfl

theorem estimate_down {b : BudgetState} (h : b.rail = .off ∨ b.rail = .falling ∨ b.rail = .fault) : b.estimate = 0 := by
  rw [BudgetState.estimate, if_neg]
  rcases h with h | h | h <;> rw [h] <;> decide

/-- Settles O44: the quotient of the load rounded up lies within one of the load itself. -/
theorem panelEstimateFollowsLoadAndRails : Obligations.PanelEstimateFollowsLoadAndRails := by
  refine fun b => ⟨fun hup => ?_, estimate_down⟩
  rw [estimate_up hup]
  generalize b.load * b.coeff = drive
  omega

/-! ## A recomputation (R78) -/

/-- In step with its level the light is dark exactly at level 0 with no other target: at level 0 the duties are 0 (R120, R127). -/
theorem isDark_of_formed {l : LightState} (h : l.formDuties = l) : l.isDark = (decide (l.target = 0) && decide (l.level = 0)) := by
  by_cases hl : l.level = 0
  · have hout : l.warmOut = 0 ∧ l.coolOut = 0 := by
      rw [← h]; simp [LightState.formDuties, curveDemand, warmDuty, hl]
    simp [LightState.isDark, hout.1, hout.2, hl]
  · simp [LightState.isDark, hl]

/-- A new allowance neither darkens the light nor ends its darkness. -/
theorem allow_isDark {l : LightState} (h : l.sound) (a : Nat) : (l.allow a).isDark = l.isDark := by
  rw [isDark_of_formed h.1, isDark_of_formed (allow_sound a l h).1, LightState.allow, formDuties_eq]
  rfl

/-- The budget unit's state is `b`, and the light has formed its duties under the allowance of `b`. -/
def State.budgeted (s : State) (b : BudgetState) : State := { s with budget := b, light := s.light.allow b.allowance }

theorem budgeted_frame (s : State) (b : BudgetState) : SameExcept [.budget, .light] s (s.budgeted b) :=
  ((onBudget_frame (fun _ => b) s).mono (by decide)).trans ((onLight_frame (fun l => l.allow b.allowance) _).mono (by decide))

/-- A recomputation reaches the light and no further: the power controller hears nothing new. -/
theorem rebudget_eq {s : State} (hd : s.power.lightDark = s.light.isDark) (hl : s.light.sound) (f : BudgetState → BudgetState) :
    rebudget f s = s.budgeted (f s.budget).recompute := if_pos (hd.trans (allow_isDark hl _).symm)

/-! ## BUDGET_SETUP and LOWBAT (R79, R76) -/

/-- Steps 1 to 4 of R78. -/
theorem recompute_steps (b : BudgetState) :
    b.recompute.effective = (if b.lowbat then b.low else b.normal) ∧ b.recompute.panel = b.estimate ∧
      b.recompute.allowance = max (b.recompute.effective - b.estimate) b.floor ∧
      (b.recompute.effective < b.estimate → b.recompute.budgetOver.isSet = true) ∧
      (b.estimate ≤ b.recompute.effective → b.recompute.budgetOver = b.budgetOver) := by
  have hflag : b.recompute.budgetOver = if b.recompute.effective < b.estimate then b.budgetOver.raise else b.budgetOver := by
    simp only [BudgetState.recompute, StickyFlag.raiseIf, decide_eq_true_eq]
  refine ⟨rfl, rfl, rfl, fun hover => ?_, fun hwithin => ?_⟩
  · rw [hflag, if_pos hover]; rfl
  · rw [hflag, if_neg (Nat.not_lt.2 hwithin)]

theorem budgetGood_iff (a : BudgetArgs) : budgetGood a = true ↔ 50 ≤ a.normal ∧ a.normal ≤ 2000 ∧ 50 ≤ a.low ∧ a.low ≤ 2000 ∧
    a.base ≤ 255 ∧ 1 ≤ a.coeff ∧ a.coeff ≤ 1000 ∧ a.low ≤ a.normal := by
  simp only [budgetGood, Bool.and_eq_true, decide_eq_true_eq, and_assoc]

section
variable {tag : Nat} {a : BudgetArgs} {s : State} (hlocked : s.link.locked = false)
include hlocked

theorem ownBudgetSetup_unlocked (i : Instr) : ownBudgetSetup tag a (s.placed i) =
    if !budgetGood a then reply 0x42 tag .badParam (s.placed i) else reply 0x42 tag .ok
      (rebudget (fun b => { b with normal := a.normal, low := a.low, base := a.base, coeff := a.coeff }) (s.placed i)) :=
  if_neg (by simp [State.placed, hlocked])

theorem execBudgetSetup_refused (hs : s.serves) (h : ¬budgetGood a = true) : exec (.budgetSetup tag (.fields a)) s =
    .next (s.answered (.budgetSetup tag (.fields a)) (plainReply 0x42 tag .badParam)) :=
  takeCommand_reply hs ((ownBudgetSetup_unlocked hlocked _).trans (if_pos (by simpa using h)))

theorem execBudgetSetup_ok (hs : s.serves) (h : budgetGood a = true) (hstep : s.coherent) : exec (.budgetSetup tag (.fields a)) s =
    .next ((s.budgeted
      { s.budget with normal := a.normal, low := a.low, base := a.base, coeff := a.coeff }.recompute).answered
        (.budgetSetup tag (.fields a)) (plainReply 0x42 tag .ok)) := by
  have hplaced : (s.placed (.budgetSetup tag (.fields a))).inStep {} := (coherent_iff _).1 hstep
  refine takeCommand_reply hs ((ownBudgetSetup_unlocked hlocked _).trans ((if_neg (by simp [h])).trans ?_))
  rw [rebudget_eq hplaced.lightDark hplaced.light]
  rfl

end

theorem execLowbatChange_same {asserted : Bool} {s : State} (h : s.budget.lowbat = asserted) :
    exec (.lowbatChange asserted) s = .next s := congrArg Host.Outcome.next (if_pos h)

/-- A change of LOWBAT recomputes; what it does to the report mark turns on the budget unit's copy of the power state (R76). -/
theorem execLowbatChange_other {asserted : Bool} {s : State} (h : s.budget.lowbat ≠ asserted) (hs : s.coherent) :
    exec (.lowbatChange asserted) s =
      let u := s.budgeted { s.budget with lowbat := asserted }.recompute
      .next (if !asserted then u.onBudget (fun b => { b with reported := true })
        else if servingMode s.power.mode then reportLowBattery u
        else u.onBudget (fun b => { b with reported := false })) := by
  have hstep := (coherent_iff s).1 hs
  refine congrArg Host.Outcome.next ((if_neg h).trans ?_)
  rw [rebudget_eq hstep.lightDark hstep.light, ← hstep.budgetMode]
  rfl

/-- Settles O45: the steps of a recomputation, a BUDGET_SETUP, and the four courses of a change of LOWBAT. -/
theorem budgetChangesReachTheLight : Obligations.BudgetChangesReachTheLight := by
  refine ⟨recompute_steps, fun tag a s hs hlocked => ⟨fun hbad => ?_, fun hstep hn hn' hl hl' hb hc hc' => ?_⟩,
    fun asserted s hs => ⟨execLowbatChange_same, fun hother => ⟨_, rfl, fun hon hmode => ?_, fun hon hmode => ?_, fun hoff => ?_⟩⟩⟩
  · refine execBudgetSetup_refused hlocked hs fun hgood => ?_
    obtain ⟨hnormal, hnormal', hlow, hlow', hbase, hcoeff, hcoeff', hbelow⟩ := (budgetGood_iff a).1 hgood
    omega
  · exact ⟨_, rfl, execBudgetSetup_ok hlocked hs ((budgetGood_iff a).2 ⟨hn, hn', hl, hl'.trans hn', hb, hc, hc', hl'⟩) hstep⟩
  · have hserving : servingMode s.power.mode = true := by rcases hmode with h | h | h <;> rw [h] <;> rfl
    rw [execLowbatChange_other hother hs, hserving, hon]
    rfl
  · have hasleep : servingMode s.power.mode = false := by rcases hmode with h | h <;> rw [h] <;> rfl
    rw [execLowbatChange_other hother hs, hasleep, hon]
    rfl
  · rw [execLowbatChange_other hother hs, hoff]
    rfl

/-! ## Frames of events that may end a SETTLING (R173, R176) -/

theorem FrameOf.of_same {bs : List Block} {s t : State} (h : SameExcept bs s t) (hm : t.power.mode = s.power.mode) :
    FrameOf bs s t := by
  rw [FrameOf]
  split
  next hset => exact ⟨h.mono fun _ hb => List.mem_append_left _ hb, .inl (hm.trans hset)⟩
  · exact ⟨h, hm⟩

theorem FrameOf.trans {bs : List Block} {s t u : State} (h : FrameOf bs s t) (h' : FrameOf bs t u) : FrameOf bs s u := by
  rw [FrameOf] at h ⊢
  split at h
  next hset =>
    rw [if_pos hset]
    obtain ⟨hframe, ht | ht⟩ := h
    · rw [FrameOf, if_pos ht] at h'
      exact ⟨hframe.trans h'.1, h'.2⟩
    · rw [FrameOf, if_neg (by rw [ht]; decide)] at h'
      exact ⟨hframe.trans (h'.1.mono fun _ hb => List.mem_append_left _ hb), .inr (h'.2.trans ht)⟩
  next hset =>
    rw [if_neg hset]
    obtain ⟨hframe, hmode⟩ := h
    rw [FrameOf, if_neg (by rwa [hmode])] at h'
    exact ⟨hframe.trans h'.1, h'.2.trans hmode⟩

theorem FrameOf.mono {bs cs : List Block} {s t : State} (h : FrameOf bs s t) (hbc : ∀ b ∈ bs, b ∈ cs := by decide) :
    FrameOf cs s t := by
  rw [FrameOf] at h ⊢
  split at h
  next hset =>
    rw [if_pos hset]
    exact ⟨h.1.mono fun b hb => List.mem_append.2 ((List.mem_append.1 hb).imp (hbc b) id), h.2⟩
  next hset =>
    rw [if_neg hset]
    exact ⟨h.1.mono hbc, h.2⟩

theorem powerReact_frameOf (s : State) : FrameOf [.power] s (powerReact s) := by
  cases hm : s.power.mode <;> simp only [powerReact, hm]
  case settling =>
    split
    · rw [FrameOf, if_pos hm]
      exact ⟨(enterStandby_frame s).mono (by decide), .inr (by rw [(enterStandby_fields s).1])⟩
    · exact .of_same (.refl _ s) rfl
  case doze => exact .of_same (onPower_frame _ s) (PowerState.recheckDoze_mode _)
  all_goals exact .of_same (.refl _ s) rfl

/-- The power controller hears of something. -/
theorem tell_frameOf (c : Prop) [Decidable c] (f : PowerState → PowerState) (s : State)
    (hm : (f s.power).mode = s.power.mode := by rfl) :
    FrameOf [.power] s (if c then s else powerReact (s.onPower f)) := by
  split
  · exact .of_same (.refl _ s) rfl
  · exact (FrameOf.of_same (onPower_frame f s) hm).trans (powerReact_frameOf _)

theorem lightEvent_frameOf (f : LightState → LightState) (s : State) : FrameOf [.light, .power] s (lightEvent f s) :=
  (FrameOf.of_same (onLight_frame f s) rfl).mono.trans (tell_frameOf _ (fun p => { p with lightDark := (f s.light).isDark }) _).mono

theorem rebudget_frameOf (f : BudgetState → BudgetState) (s : State) : FrameOf [.budget, .light, .power] s (rebudget f s) :=
  (FrameOf.of_same (onBudget_frame (fun b => (f b).recompute) s) rfl).mono.trans (lightEvent_frameOf _ _).mono

theorem setRail_frameOf (m : RailMode) (s : State) : FrameOf [.rail, .budget, .light, .power] s (setRail m s) := by
  have hmode := (FrameOf.of_same (onRail_frame (fun r => { r with mode := m }) s) rfl).mono (cs := [.rail, .budget, .light, .power])
  exact (hmode.trans (rebudget_frameOf (fun b => { b with rail := m }) _).mono).trans
    (tell_frameOf _ (fun p => { p with railsOff := m = .off }) _).mono

/-- The rails change on their own before they enter a state. -/
theorem onRail_setRail_frameOf (m : RailMode) (f : RailState → RailState) (s : State) :
    FrameOf [.rail, .budget, .light, .power] s (setRail m (s.onRail f)) :=
  (FrameOf.of_same (onRail_frame f s) rfl).mono.trans (setRail_frameOf m _)

/-! ## The rails change state with nothing new for the power controller (R63) -/

/-- The rails stand at `m`, and budget and light have followed. -/
def State.railsAt (s : State) (m : RailMode) : State :=
  { s with rail := { s.rail with mode := m } }.budgeted { s.budget with rail := m }.recompute

theorem railsAt_frame (s : State) (m : RailMode) : SameExcept [.rail, .budget, .light] s (s.railsAt m) :=
  ((onRail_frame (fun r => { r with mode := m }) s).mono (by decide)).trans ((budgeted_frame _ _).mono (by decide))

/-- Between two states other than OFF the power controller hears of no change. -/
theorem setRail_eq {s : State} (hs : s.inStep {}) (hup : s.rail.mode ≠ .off) {m : RailMode} (hm : m ≠ .off) :
    setRail m s = s.railsAt m := by
  have hbudget : rebudget (fun b => { b with rail := m }) (s.onRail (fun r => { r with mode := m })) = s.railsAt m :=
    rebudget_eq (s := s.onRail (fun r => { r with mode := m })) hs.lightDark hs.light _
  have htold : (s.railsAt m).power.railsOff = decide (m = .off) :=
    (hs.railsOff rfl).trans ((decide_eq_false hup).trans (decide_eq_false hm).symm)
  rw [setRail, hbudget]
  exact if_pos htold

theorem onRail_inStep {s : State} (hs : s.inStep {}) (f : RailState → RailState)
    (hf : (f s.rail).mode = s.rail.mode := by rfl) : (s.onRail f).inStep {} := onRail_effect {} f s hf hs

theorem onRail_setRail_eq {s : State} (hs : s.inStep {}) (hup : s.rail.mode ≠ .off) (m : RailMode)
    (f : RailState → RailState) (hm : m ≠ .off := by decide) (hf : (f s.rail).mode = s.rail.mode := by rfl) :
    setRail m (s.onRail f) = (s.onRail f).railsAt m :=
  setRail_eq (onRail_inStep hs f hf) (by rw [onRail_rail, hf]; exact hup) hm

theorem onRail_setRail_frame {s : State} (hs : s.inStep {}) (hup : s.rail.mode ≠ .off) (m : RailMode)
    (f : RailState → RailState) (hm : m ≠ .off := by decide) (hf : (f s.rail).mode = s.rail.mode := by rfl) :
    SameExcept [.rail, .budget, .light] s (setRail m (s.onRail f)) := by
  rw [onRail_setRail_eq hs hup m f hm hf]
  exact ((onRail_frame f s).mono (by decide)).trans (railsAt_frame _ m)

theorem startFall_frame {s : State} (hs : s.inStep {}) (hup : s.rail.mode ≠ .off) :
    SameExcept [.rail, .budget, .light] s (startFall s) :=
  onRail_setRail_frame hs hup .falling (fun r => { r with hold := none, fall := some r.fallTime })

theorem startFall_budget {s : State} (hs : s.inStep {}) (hup : s.rail.mode ≠ .off) :
    (startFall s).budget = { s.budget with rail := .falling }.recompute :=
  congrArg State.budget (onRail_setRail_eq hs hup .falling (fun r => { r with hold := none, fall := some r.fallTime }))

theorem enterHold_frame {s : State} (hs : s.inStep {}) (hup : s.rail.mode ≠ .off) :
    SameExcept [.rail, .budget, .light] s (enterHold s) := by
  have hentered := onRail_setRail_frame hs hup .hold (fun r => { r with hold := some r.holdTime })
  simp only [enterHold]
  split
  · exact hentered.trans (startFall_frame (setRail_effect {} .hold _ rfl (onRail_inStep hs _)) (by rw [setRail_rail]; exact nofun))
  · exact hentered

/-! ## The hold and fall timers (R68, R69) -/

theorem execHoldTimerExpire_hold {s : State} (hm : s.rail.mode = .hold) (ht : s.rail.hold.isSome = true) :
    exec .holdTimerExpire s = .next (startFall s) := congrArg Host.Outcome.next (if_pos (by simp [hm, ht]))

theorem execHoldTimerExpire_other {s : State} (h : ¬(s.rail.mode = .hold ∧ s.rail.hold.isSome = true)) :
    exec .holdTimerExpire s = .next s := congrArg Host.Outcome.next (if_neg (by simpa [and_comm] using h))

theorem execFallTimerExpire_falling {s : State} (hm : s.rail.mode = .falling) (ht : s.rail.fall.isSome = true) :
    exec .fallTimerExpire s = .next (engineNotify (endFall s)) := congrArg Host.Outcome.next (if_pos (by simp [hm, ht]))

theorem execFallTimerExpire_other {s : State} (h : ¬(s.rail.mode = .falling ∧ s.rail.fall.isSome = true)) :
    exec .fallTimerExpire s = .next s := congrArg Host.Outcome.next (if_neg (by simpa [and_comm] using h))

/-- The rails are OFF at the end of a fall, before they may rise again (R69). -/
def State.fallen (s : State) : State := setRail .off (s.onRail (fun r => { r with fall := none }))

theorem fallen_rail (s : State) : s.fallen.rail = { s.rail with mode := .off, fall := none } := setRail_rail _ _

theorem fallen_inStep {s : State} (hs : s.inStep {}) : s.fallen.inStep {} :=
  setRail_effect {} .off _ rfl (onRail_inStep hs _)

theorem endFall_eq (s : State) : endFall s = if s.rail.armed = 0 then s.fallen else startRise s.fallen := by
  have harmed : s.fallen.rail.armed = s.rail.armed := by rw [fallen_rail]
  rw [← harmed]; rfl

/-- No lane armed during the fall: the rails stay OFF (R69). -/
theorem fallTimer_ends {s : State} (hs : s.coherent) (hm : s.rail.mode = .falling) (ht : s.rail.fall.isSome = true)
    (ha : s.rail.armed = 0) : ∃ t, exec .fallTimerExpire s = .next t ∧ t.rail = { s.rail with mode := .off, fall := none } ∧
      t.power.railsOff = true ∧ FrameOf [.rail, .budget, .light, .power] s t := by
  have hstep := fallen_inStep ((coherent_iff s).1 hs)
  refine ⟨s.fallen, ?_, fallen_rail s, ?_, onRail_setRail_frameOf _ _ s⟩
  · rw [execFallTimerExpire_falling hm ht, endFall_eq, if_pos ha, engineNotify_told (hstep.idle rfl)]
  · rw [hstep.railsOff rfl, fallen_rail]; rfl

/-- Lanes armed during the fall: the rails rise again (R69, R64). -/
theorem fallTimer_rises {s : State} (hs : s.coherent) (hm : s.rail.mode = .falling) (ht : s.rail.fall.isSome = true)
    (ha : 0 < s.rail.armed) (hgood : s.rail.powerGood = false) : ∃ t, exec .fallTimerExpire s = .next t ∧
      t.rail = { s.rail with mode := .rising, fall := none, rise := some s.rail.riseTime } ∧
      t.power.railsOff = false ∧ FrameOf [.rail, .budget, .light, .power] s t := by
  have hfallen := fallen_inStep ((coherent_iff s).1 hs)
  have hrise : startRise s.fallen = setRail .rising (s.fallen.onRail (fun r => { r with rise := some r.riseTime })) :=
    startRise_waits (by rw [fallen_rail]; exact hgood)
  have hstep : (startRise s.fallen).inStep {} := by
    rw [hrise]; exact setRail_effect {} .rising _ rfl (onRail_inStep hfallen _)
  have hrail : (startRise s.fallen).rail = { s.rail with mode := .rising, fall := none, rise := some s.rail.riseTime } := by
    rw [hrise, setRail_rail, onRail_rail, fallen_rail]
  refine ⟨startRise s.fallen, ?_, hrail, ?_, ?_⟩
  · rw [execFallTimerExpire_falling hm ht, endFall_eq, if_neg (Nat.pos_iff_ne_zero.1 ha), engineNotify_told (hstep.idle rfl)]
  · rw [hstep.railsOff rfl, hrail]; rfl
  · rw [hrise]; exact (onRail_setRail_frameOf _ _ s).trans (onRail_setRail_frameOf _ _ _)

/-! ## Power-good arrives (R65) -/

theorem execPowerGoodArrive_seen {s : State} (h : s.rail.powerGood = true) : exec .powerGoodArrive s = .next s :=
  congrArg Host.Outcome.next (if_pos h)

/-- Power-good is seen to be there. -/
def State.goodSeen (s : State) : State := s.onRail (fun r => { r with powerGood := true })

theorem execPowerGoodArrive_new {s : State} (h : s.rail.powerGood = false) :
    exec .powerGoodArrive s = .next (if s.rail.mode = .rising then engineNotify (endRise s.goodSeen) else s.goodSeen) :=
  congrArg Host.Outcome.next (if_neg (by simp [h]))

/-- The rails have come ON at the end of a rise (R65). -/
def State.railsOn (s : State) : State := setRail .on (s.goodSeen.onRail (fun r => { r with rise := none }))

theorem railsOn_rail (s : State) : s.railsOn.rail = { s.rail with powerGood := true, rise := none, mode := .on } := setRail_rail _ _

theorem railsOn_inStep {s : State} (hs : s.inStep {}) : s.railsOn.inStep {} :=
  setRail_effect {} .on _ rfl (onRail_inStep (onRail_inStep hs (fun r => { r with powerGood := true })) _)

theorem railsOn_engine (s : State) : s.railsOn.engine = s.engine := setRail_engine _ _

theorem endRise_good (s : State) : endRise s.goodSeen = if s.rail.armed = 0 then enterHold s.railsOn else reportOn s.railsOn := by
  have harmed : s.railsOn.rail.armed = s.rail.armed := by rw [railsOn_rail]
  rw [← harmed]; rfl

/-- A rise ends with no lane on the rails (R65, R67). -/
theorem powerGood_holds {s : State} (hs : s.coherent) (hgood : s.rail.powerGood = false) (hm : s.rail.mode = .rising)
    (ha : s.rail.armed = 0) : ∃ t, exec .powerGoodArrive s = .next t ∧ t.rail = (if s.rail.holdTime = 0
      then { s.rail with powerGood := true, rise := none, hold := none, mode := .falling, fall := some s.rail.fallTime }
      else { s.rail with powerGood := true, rise := none, hold := some s.rail.holdTime, mode := .hold }) ∧
      SameExcept [.rail, .budget, .light] s t := by
  have hstep := (coherent_iff s).1 hs
  have hon := railsOn_inStep hstep
  have hup : s.railsOn.rail.mode ≠ .off := by rw [railsOn_rail]; exact nofun
  have hrising : s.goodSeen.rail.mode ≠ .off := by rw [show s.goodSeen.rail.mode = .rising from hm]; exact nofun
  have hgoodFrame : SameExcept [.rail] s s.goodSeen := onRail_frame _ s
  have hframe : SameExcept [.rail, .budget, .light] s s.railsOn := (hgoodFrame.mono (by decide)).trans
    (onRail_setRail_frame (onRail_inStep hstep _) hrising .on (fun r => { r with rise := none }))
  refine ⟨enterHold s.railsOn, ?_, ?_, hframe.trans (enterHold_frame hon hup)⟩
  · rw [execPowerGoodArrive_new hgood, if_pos hm, endRise_good, if_pos ha,
      engineNotify_told ((enterHold_effect {} _ rfl hon).idle rfl)]
  · rw [enterHold_rail, railsOn_rail]

section
variable {s : State} (hdriving : ∀ n, n < 8 → (s.lane n).state ≠ .driving)
include hdriving

/-- Every lane that waited ARMED has driven one frame (R46). -/
theorem railsOn_driven_lane {n : Nat} (hn : n < 8) : s.railsOn.driven.lane n =
    if (s.lane n).state = .armed then { s.lane n with state := .driving, index := 1 } else s.lane n := by
  rw [driven_lane, lane_of_engine (railsOn_engine s)]
  split
  next h => rw [Lane.joined_armed h, Lane.advance_driving rfl]
  next h => rw [Lane.joined_other h, Lane.advance_other (hdriving n hn)]

/-- With frames left for each of them none completes at once. -/
theorem railsOn_runFrame (hpending : s.engine.pending = []) (harmed : ∃ n, n < 8 ∧ (s.lane n).state = .armed)
    (hframes : ∀ n, n < 8 → (s.lane n).state = .armed → 1 < (s.lane n).frames) :
    runFrame s.railsOn = s.railsOn.driven := by
  obtain ⟨n, hn, hstate⟩ := harmed
  have hwaits : (s.railsOn.lane n).state = .armed := by rw [lane_of_engine (railsOn_engine s)]; exact hstate
  refine runFrame_quiet (by rw [railsOn_engine]; exact hpending) ⟨n, hn, .inl hwaits⟩ fun k hk hdrives => ?_
  rw [railsOn_driven_lane hdriving hk] at hdrives ⊢
  split at hdrives
  next h => rw [if_pos h]; exact hframes k hk h
  · exact absurd hdrives (hdriving k hk)

end

/-- A rise ends for lanes that wait ARMED: the scan starts and each drives its first frame (R65, R46). -/
theorem powerGood_drives {s : State} (hs : s.coherent) (hgood : s.rail.powerGood = false) (hm : s.rail.mode = .rising)
    (ha : 0 < s.rail.armed) (hscan : s.engine.scan = none) (hpending : s.engine.pending = [])
    (harmed : ∃ n, n < 8 ∧ (s.lane n).state = .armed)
    (hframes : ∀ n, n < 8 → (s.lane n).state = .armed → 1 < (s.lane n).frames)
    (hdriving : ∀ n, n < 8 → (s.lane n).state ≠ .driving) : ∃ t, exec .powerGoodArrive s = .next t ∧
      t.rail = { s.rail with powerGood := true, rise := none, mode := .on } ∧ t.engine.scan = some s.engine.framePeriod ∧
      (∀ n, n < 8 → t.lane n =
        (if (s.lane n).state = .armed then { s.lane n with state := .driving, index := 1 } else s.lane n)) ∧
      t.power.mode = s.power.mode ∧ SameBytesExcept (fun _ => False) s t := by
  have hexec : exec .powerGoodArrive s = .next (engineNotify s.railsOn.driven) := by
    rw [execPowerGoodArrive_new hgood, if_pos hm, endRise_good, if_neg (Nat.pos_iff_ne_zero.1 ha),
      reportOn_starts (by rw [railsOn_rail]) (by rw [railsOn_engine]; exact hscan)
        (by rw [railsOn_engine]; exact (someLane_iff s .armed).2 harmed), railsOn_runFrame hdriving hpending harmed hframes]
  obtain ⟨n, hn, hstate⟩ := harmed
  have hworks : Works [.rail, .budget, .light, .power] s s.railsOn :=
    (Works.of_frame (onRail_frame (fun r => { r with powerGood := true }) s)).mono.trans (onRail_setRail_works _ _ _)
  have hon := hworks (atWork_of_busy hs (n := n) (by rw [hstate]; decide))
  have hdriven := driven_works s.railsOn hon.atWork
  have hsame := engineNotify_sameWork s.railsOn.driven
  have hbusy : s.railsOn.driven.engine.idle = false :=
    idle_of_busy (n := n) (by rw [railsOn_driven_lane hdriving hn, if_pos hstate]; exact nofun)
  refine ⟨_, hexec, ?_, ?_, fun k hk => (hsame.lane k).trans (railsOn_driven_lane hdriving hk), ?_, fun x _ => ?_⟩
  · rw [hsame.rail, hdriven.frame.2 .rail (by decide), railsOn_rail]
  · rw [hsame.engine, driven_engine, railsOn_engine]
  · exact (engineNotify_stays hbusy).2.trans (hdriven.mode.trans hon.mode)
  · rw [hsame.mem, hdriven.mem, hon.mem]

/-- Settles O42: the hold timer, the two ends of a fall, and the two ends of a rise. -/
theorem railsFollowTimersAndPowerGood : Obligations.RailsFollowTimersAndPowerGood := by
  refine ⟨fun s hs => ⟨fun hm ht => ?_, execHoldTimerExpire_other, fallTimer_ends hs, fallTimer_rises hs, execFallTimerExpire_other⟩,
    fun s hs => ⟨execPowerGoodArrive_seen, fun hgood hm => ?_, fun hgood hm ha _ => powerGood_holds hs hgood hm ha,
      powerGood_drives hs⟩⟩
  · have hstep := (coherent_iff s).1 hs
    have hup : s.rail.mode ≠ .off := by rw [hm]; decide
    refine ⟨_, execHoldTimerExpire_hold hm ht, startFall_rail s, ?_, ?_, startFall_frame hstep hup⟩
    · rw [startFall_budget hstep hup]; rfl
    · rw [startFall_budget hstep hup]
      exact estimate_down (b := { s.budget with rail := .falling }) (.inr (.inl rfl))
  · rw [execPowerGoodArrive_new hgood, if_neg hm]; rfl

/-! ## What an entry to FAULT makes of the lanes (R59, R71) -/

/-! ### The lanes that are freed -/

/-- The lanes once the armed ones have ended, and then with the rectangles of those that drove in the uncertain region list. -/
def State.ended (s : State) : State := eachLane endArmed s

def State.endedOver (s : State) : State := (drivingRects s.engine).foldl (fun s r => addUncertain r s) s.ended

theorem faultLanes_ended (s : State) :
    faultLanes s = if s.endedOver.engine.scan.isSome then stopScan s.endedOver else s.endedOver := rfl

theorem faultLanes_engine (s : State) : (faultLanes s).engine.lanes = s.endedOver.engine.lanes ∧
    (faultLanes s).engine.uncertain = s.endedOver.engine.uncertain ∧ (faultLanes s).engine.whole = s.endedOver.engine.whole ∧
    (faultLanes s).engine.pending = s.endedOver.engine.pending ∧ (faultLanes s).engine.scan = none := by
  rw [faultLanes_ended]
  split
  · rw [stopScan_engine]; exact ⟨rfl, rfl, rfl, rfl, rfl⟩
  next hscan => exact ⟨rfl, rfl, rfl, rfl, by simpa using hscan⟩

theorem endArmed_rest (n : Nat) (s : State) : (endArmed n s).engine.uncertain = s.engine.uncertain ∧
    (endArmed n s).engine.whole = s.engine.whole ∧ (endArmed n s).engine.pending = s.engine.pending := by
  rw [endArmed]
  split
  · rw [endLane_engine]; exact freeLane_rest false n s
  · exact ⟨rfl, rfl, rfl⟩

theorem ended_rest (s : State) : s.ended.engine.uncertain = s.engine.uncertain ∧ s.ended.engine.whole = s.engine.whole ∧
    s.ended.engine.pending = s.engine.pending := by
  rw [State.ended]
  exact ⟨eachLane_keeps (fun x => x.engine.uncertain) endArmed (fun n s => (endArmed_rest n s).1) s,
    eachLane_keeps (fun x => x.engine.whole) endArmed (fun n s => (endArmed_rest n s).2.1) s,
    eachLane_keeps (fun x => x.engine.pending) endArmed (fun n s => (endArmed_rest n s).2.2) s⟩

theorem endedOver_pending (s : State) : s.endedOver.engine.pending = s.engine.pending :=
  (foldl_keeps (fun x => x.engine.pending) _ (fun s r => addUncertain_pending r s) _ _).trans (ended_rest s).2.2

/-- What the lanes' parts and the additions keep one by one they keep together. -/
theorem foldl_preserves {α : Type} {P : State → Prop} {f : State → α → State} (h : ∀ s a, P s → P (f s a)) (l : List α) :
    ∀ s, P s → P (l.foldl f s) := by
  induction l with
  | nil => exact fun _ hs => hs
  | cons a l ih => exact fun s hs => ih _ (h s a hs)

/-- No lane stands on the rails. -/
def State.railsFree (s : State) : Prop := ∀ n, n < 8 → (s.lane n).armed = false

theorem addUncertain_railsFree (r : Rect) {s : State} (h : s.railsFree) : (addUncertain r s).railsFree := by
  intro n hn
  rcases addUncertain_cases r s with he | he | he <;> rw [he]
  · exact h n hn
  · exact h n hn
  · rw [freeChanged_lane _ hn]
    split
    · rfl
    · exact h n hn

theorem endedOver_railsFree (s : State) : s.endedOver.railsFree := by
  rw [State.endedOver]
  refine foldl_preserves (P := State.railsFree) (fun _ r => addUncertain_railsFree r) _ _ fun n hn => ?_
  rw [State.ended, endArmed_lane s hn]
  split
  · rfl
  next h => simpa using h

/-! ### The rectangles that become uncertain (R56) -/

/-- A rectangle lies in the uncertain region list. -/
def EngineState.covers (e : EngineState) (q : Rect) : Prop := e.whole = true ∨ ∃ u ∈ e.uncertain, rectContains u q = true

theorem rectContains_trans {a b c : Rect} (h : rectContains a b = true) (h' : rectContains b c = true) : rectContains a c = true := by
  simp only [rectContains, Bool.and_eq_true, decide_eq_true_eq] at h h' ⊢
  omega

/-- What is covered stays covered: an entry goes only where a new one contains it. -/
theorem addUncertain_keeps_cover (r : Rect) {q : Rect} {s : State} (h : s.engine.covers q) : (addUncertain r s).engine.covers q := by
  rcases addUncertain_cases r s with he | he | he <;> rw [he]
  · exact h
  · refine h.imp id fun ⟨u, hu, hq⟩ => ?_
    by_cases hr : rectContains r u = true
    · exact ⟨r, List.mem_append_right _ (List.mem_singleton_self r), rectContains_trans hr hq⟩
    · exact ⟨u, List.mem_append_left _ (List.mem_filter.2 ⟨hu, by simpa using hr⟩), hq⟩
  · exact .inl (freeChanged_rest (s.onEngine (fun e => { e with uncertain := [s.panelRect], whole := true }))).2.1

theorem addUncertains_cover {q : Rect} (rs : List Rect) : ∀ s : State, q ∈ rs ∨ s.engine.covers q →
    (rs.foldl (fun s r => addUncertain r s) s).engine.covers q := by
  induction rs with
  | nil => exact fun s h => h.resolve_left List.not_mem_nil
  | cons r rs ih =>
    refine fun s h => ih _ ?_
    rcases h with h | h
    · rcases List.mem_cons.1 h with rfl | h
      · exact .inr (addUncertain_covers q s)
      · exact .inl h
    · exact .inr (addUncertain_keeps_cover r h)

theorem endedOver_covers {s : State} {n : Nat} (hn : n < 8) (h : (s.lane n).state = .driving) :
    s.endedOver.engine.covers (s.lane n).rect := by
  refine addUncertains_cover _ _ (.inl (List.mem_map_of_mem (List.mem_filter.2 ⟨?_, by simpa using h⟩)))
  rw [lanes_toList]
  exact List.mem_map_of_mem (List.mem_range.2 hn)

/-- With no lane that drives nothing becomes uncertain. -/
theorem endedOver_undriven {s : State} (h : ∀ n, n < 8 → (s.lane n).state ≠ .driving) : s.endedOver = s.ended := by
  have hnone : drivingRects s.engine = [] := List.eq_nil_iff_forall_not_mem.2 fun r hr => by
    obtain ⟨n, hn, hdrives, -⟩ := mem_drivingRects hr
    exact h n hn hdrives
  rw [State.endedOver, hnone, List.foldl_nil]

/-- With no lane on the rails none is freed. -/
theorem ended_railsFree {s : State} (h : s.railsFree) : s.ended = s := by
  have hkept : ∀ n, endArmed n s = s := fun n => if_neg fun harmed => ?_
  · rw [State.ended, eachLane]
    exact List.foldl_fixed' hkept _
  have hn : n < 8 := lt_of_busy (s := s) fun hfree => by simp [Lane.armed, hfree] at harmed
  rw [h n hn] at harmed; cases harmed

theorem railsFree_iff (s : State) : s.railsFree ↔ ∀ n, n < 8 → (s.lane n).state ≠ .armed ∧ (s.lane n).state ≠ .driving :=
  forall_congr' fun n => forall_congr' fun _ => by rw [← not_or, ← armed_iff, Bool.not_eq_true]

theorem endedOver_railsFree_eq {s : State} (h : s.railsFree) : s.endedOver = s :=
  (endedOver_undriven fun n hn => ((railsFree_iff s).1 h n hn).2).trans (ended_railsFree h)

/-! ### The rails meanwhile -/

/-- The rails stand in FAULT, and but for the armed count as `r` gives them. -/
def State.haltedAs (s : State) (r : RailState) : Prop := ∃ n, s.rail = { r with mode := .fault, armed := n }

theorem laneLeft_haltedAs {r : RailState} {s : State} (h : s.haltedAs r) : (laneLeft s).haltedAs r := by
  obtain ⟨n, hn⟩ := h
  refine ⟨n - 1, ?_⟩
  rw [laneLeft_rail_counted (by simp [hn]), hn]

theorem tellLane_rail (l : Lane) (o : UpdateOutcome) (c : MissCause) (s : State) : (tellLane l o c s).rail = s.rail := by
  have hraised (r : Report) : (raise r s).rail = s.rail := (raise_frame r s).2 .rail (by decide)
  rw [tellLane]
  split
  · exact hraised _
  · rw [turnAbandoned]
    split
    · rfl
    · exact hraised _

theorem endLane_haltedAs {r : RailState} {s : State} (n : Nat) (o : UpdateOutcome) (c : MissCause) (h : s.haltedAs r) :
    (endLane n o c s).haltedAs r := by
  rw [State.haltedAs, endLane, tellLane_rail, freeLane_rail]
  split
  · exact laneLeft_haltedAs h
  · exact h

theorem freeChanged_haltedAs {r : RailState} {s : State} (h : s.haltedAs r) : (freeChanged s).haltedAs r := by
  rw [freeChanged_eq, eachLane]
  refine foldl_preserves (P := fun v => v.haltedAs r) (fun v n hv => ?_) _ _ h
  rw [endChanged]
  split
  · exact endLane_haltedAs n _ _ hv
  · exact hv

theorem addUncertain_haltedAs {r : RailState} {s : State} (q : Rect) (h : s.haltedAs r) : (addUncertain q s).haltedAs r := by
  rcases addUncertain_cases q s with he | he | he <;> rw [he]
  · exact h
  · exact h
  · exact freeChanged_haltedAs h

theorem ended_haltedAs {r : RailState} {s : State} (h : s.haltedAs r) : s.ended.haltedAs r := by
  rw [State.ended, eachLane]
  refine foldl_preserves (P := fun v => v.haltedAs r) (fun v n hv => ?_) _ _ h
  rw [endArmed]
  split
  · exact endLane_haltedAs n _ _ hv
  · exact hv

theorem faultLanes_haltedAs {r : RailState} {s : State} (h : s.haltedAs r) : (faultLanes s).haltedAs r := by
  have hover : s.endedOver.haltedAs r := 
    foldl_preserves (P := fun v => v.haltedAs r) (fun _ q => addUncertain_haltedAs q) _ _ (ended_haltedAs h)
  rw [faultLanes_ended]
  split
  · rw [State.haltedAs, stopScan_rail]; exact hover
  · exact hover

/-! ### The other parts meanwhile -/

theorem stopScan_frame {s : State} (hd : s.power.lightDark = s.light.isDark) (hl : s.light.sound) :
    SameExcept [.engine, .budget, .light] s (stopScan s) := by
  have hstopped := onEngine_frame (fun e => { e with scan := none, load := 0 }) s
  rw [stopScan, rebudget_eq (s := s.onEngine (fun e => { e with scan := none, load := 0 })) hd hl]
  exact (hstopped.mono (by decide)).trans ((budgeted_frame _ _).mono (by decide))

/-- Where no lane stands on the rails, at most the scan stops. -/
theorem faultLanes_railsFree {s : State} (hd : s.power.lightDark = s.light.isDark) (hl : s.light.sound) (h : s.railsFree) :
    SameExcept [.engine, .budget, .light] s (faultLanes s) := by
  rw [faultLanes_ended, endedOver_railsFree_eq h]
  split
  · exact stopScan_frame hd hl
  · exact .refl _ s

theorem faultLanes_works (s : State) : Works [.wave, .engine, .rail, .budget, .cache, .light, .power, .link] s (faultLanes s) := by
  have hended : Works [.wave, .engine, .rail, .budget, .cache, .light, .power, .link] s s.ended :=
    eachLane_works endArmed (fun n s => .ite _ (fun _ => endLane_works n _ _ s) fun _ => .refl _ s) s
  have hover : Works [.wave, .engine, .rail, .budget, .cache, .light, .power, .link] s s.endedOver :=
    hended.trans (foldl_works _ (fun s r => addUncertain_works r s) _ _)
  exact hover.trans (.ite _ (fun _ => (stopScan_works _).mono) fun _ => .refl _ _)

/-- An engine with a lane on the rails is at work, so that the part does not fall asleep; without one no notice is sent (R173). -/
theorem faultLanes_frame {s : State} (hi : s.power.engineIdle = s.engine.idle) (hd : s.power.lightDark = s.light.isDark)
    (hl : s.light.sound) : SameExcept [.wave, .engine, .rail, .budget, .cache, .light, .power, .link] s (faultLanes s) ∧
      (faultLanes s).power.mode = s.power.mode := by
  by_cases h : s.railsFree
  · have hframe := faultLanes_railsFree hd hl h
    exact ⟨hframe.mono (by decide), congrArg PowerState.mode (hframe.2 .power (by decide))⟩
  · rw [railsFree_iff] at h
    push Not at h
    obtain ⟨n, hn, hlane⟩ := h
    have hbusy : (s.lane n).state ≠ .free := fun hfree => by rw [hlane (by simp [hfree])] at hfree; cases hfree
    have hworks := faultLanes_works s (hi.trans (idle_of_busy hbusy))
    exact ⟨hworks.frame, hworks.mode⟩

/-! ## Entry to FAULT (R71) -/

theorem walkFrom_fault (es : List PendingEntry) : ∀ ahead (s : State), s.rail.mode = .fault →
    walkFrom ahead es s = s.onEngine (fun g => { g with pending := ahead ++ es }) := by
  induction es with
  | nil => exact fun ahead s _ => by rw [walkFrom, List.append_nil]
  | cons e es ih =>
    intro ahead s h
    have hnone : startsOn e ahead s = none := if_pos (by simp [h])
    rw [walkFrom, hnone]
    exact (ih _ s h).trans (by rw [List.append_assoc]; rfl)

/-- In FAULT nothing pending starts (R41, R60). -/
theorem walk_fault {s : State} (h : s.rail.mode = .fault) : walk s = s := walkFrom_fault _ [] s h

/-- The rails have entered FAULT, with the timers stopped. -/
def State.inFault (s : State) (c : FaultCause) : State :=
  s.onRail (fun r => { r with mode := .fault, cause := some c, rise := none, hold := none, fall := none })

theorem inFault_haltedAs (s : State) (c : FaultCause) : (s.inFault c).haltedAs (s.inFault c).rail := ⟨_, rfl⟩

/-- The engine and the budget unit have heard of the FAULT; its report is still to come. -/
def State.halted (s : State) (c : FaultCause) : State :=
  rebudget (fun b => { b with rail := .fault }) (faultLanes (s.inFault c))

theorem enterFault_eq (c : FaultCause) (s : State) :
    enterFault c s = engineNotify (raise (.railFault c s.rail.mode) (s.halted c)) := by
  obtain ⟨n, hn⟩ := faultLanes_haltedAs (inFault_haltedAs s c)
  have hwalk : walk (faultLanes (s.inFault c)) = faultLanes (s.inFault c) := walk_fault (by rw [hn])
  rw [State.halted, ← hwalk]
  rfl

/-- With the rails up the part does not fall asleep at an engine's notice (R173). -/
theorem engineNotify_railsUp {s : State} (h : s.power.railsOff = false) :
    SameExcept [.power] s (engineNotify s) ∧ (engineNotify s).power.mode = s.power.mode := by
  rw [engineNotify, tellEngineIdle]
  split
  · exact ⟨.refl _ s, rfl⟩
  · have htold := onPower_frame (fun p => { p with engineIdle := s.engine.idle }) s
    have hfour : (s.onPower (fun p => { p with engineIdle := s.engine.idle })).power.fourIdle = false := by
      simp [PowerState.fourIdle, h]
    rcases powerReact_stays hfour with he | he <;> rw [he]
    · exact ⟨htold, rfl⟩
    · exact ⟨htold.trans (onPower_frame _ _), PowerState.recheckDoze_mode _⟩

section
variable {s : State} (hs : s.coherent) (hup : s.rail.mode ≠ .off) (c : FaultCause)
include hs hup

theorem inFault_inStep : (s.inFault c).inStep .faulting :=
  have hstep := (coherent_iff s).1 hs
  { hstep with
    railsOff := fun hp => (hstep.railsOff hp).trans (decide_eq_false hup)
    rail := rfl }

theorem faulted_inStep : (faultLanes (s.inFault c)).inStep Phase.faulting.busy :=
  faultLanes_effect .faulting _ (inFault_inStep hs hup c)

theorem halted_eq : s.halted c = (faultLanes (s.inFault c)).budgeted
    { (faultLanes (s.inFault c)).budget with rail := .fault }.recompute :=
  have hstep := faulted_inStep hs hup c
  rebudget_eq hstep.lightDark hstep.light _

/-- The power controller still knows the rails up as the fault is reported. -/
theorem halted_railsOff (r : Report) : (raise r (s.halted c)).power.railsOff = false := by
  have hstep := raise_effect _ r _ (budgetFault_effect _ (faulted_inStep hs hup c))
  obtain ⟨n, hn⟩ := faultLanes_haltedAs (inFault_haltedAs s c)
  have hrail : (raise r (s.halted c)).rail = (faultLanes (s.inFault c)).rail := by
    rw [(raise_frame r _).2 .rail (by decide), halted_eq hs hup]; rfl
  exact (hstep.railsOff rfl).trans (decide_eq_false (by rw [State.halted] at hrail; rw [hrail, hn]; exact nofun))

/-- The report and the engine's notice change nothing but the power controller's copies and the messages. -/
theorem enterFault_after : SameExcept [.power, .link] (s.halted c) (enterFault c s) ∧
    (enterFault c s).power.mode = (s.halted c).power.mode := by
  rw [enterFault_eq]
  obtain ⟨hframe, hmode⟩ := engineNotify_railsUp (halted_railsOff hs hup c (.railFault c s.rail.mode))
  exact ⟨(raise_frame _ _).trans (hframe.mono (by decide)), hmode.trans (raise_mode _ _)⟩

theorem enterFault_engine : (enterFault c s).engine = (faultLanes (s.inFault c)).engine := by
  rw [(enterFault_after hs hup c).1.2 .engine (by decide), halted_eq hs hup]; rfl

theorem enterFault_lane (n : Nat) : (enterFault c s).lane n = (s.inFault c).endedOver.lane n :=
  lane_of_lanes ((congrArg EngineState.lanes (enterFault_engine hs hup c)).trans (faultLanes_engine _).1) n

theorem enterFault_frees : ∀ n, n < 8 → ((enterFault c s).lane n).state ≠ .armed ∧ ((enterFault c s).lane n).state ≠ .driving := by
  intro n hn
  rw [enterFault_lane hs hup]
  exact (railsFree_iff _).1 (endedOver_railsFree _) n hn

theorem enterFault_covers : ∀ n, n < 8 → (s.lane n).state = .driving → (enterFault c s).engine.covers (s.lane n).rect := by
  intro n hn hdrives
  obtain ⟨-, huncertain, hwhole, -, -⟩ := faultLanes_engine (s.inFault c)
  rw [EngineState.covers, enterFault_engine hs hup, huncertain, hwhole]
  exact endedOver_covers (s := s.inFault c) hn hdrives

/-- With no lane that drives the uncertain ground stays, and the lanes in PREPARING go on. -/
theorem enterFault_undriven (hnone : ∀ n, n < 8 → (s.lane n).state ≠ .driving) :
    (enterFault c s).engine.uncertain = s.engine.uncertain ∧ (enterFault c s).engine.whole = s.engine.whole ∧
      ∀ n, n < 8 → (s.lane n).state = .preparing → (enterFault c s).lane n = s.lane n := by
  have hover : (s.inFault c).endedOver = (s.inFault c).ended := endedOver_undriven hnone
  obtain ⟨-, huncertain, hwhole, -, -⟩ := faultLanes_engine (s.inFault c)
  obtain ⟨hkeptUncertain, hkeptWhole, -⟩ := ended_rest (s.inFault c)
  have hlane (n : Nat) : (s.inFault c).lane n = s.lane n := rfl
  refine ⟨?_, ?_, fun n hn hprep => ?_⟩
  · rw [enterFault_engine hs hup, huncertain, hover, hkeptUncertain]; rfl
  · rw [enterFault_engine hs hup, hwhole, hover, hkeptWhole]; rfl
  · rw [enterFault_lane hs hup, hover, State.ended, endArmed_lane _ hn, hlane, if_neg (by simp [Lane.armed, hprep])]

theorem enterFault_stops : (enterFault c s).engine.scan = none ∧ (enterFault c s).engine.pending = s.engine.pending := by
  obtain ⟨-, -, -, hpending, hscan⟩ := faultLanes_engine (s.inFault c)
  rw [enterFault_engine hs hup]
  exact ⟨hscan, hpending.trans (endedOver_pending _)⟩

theorem enterFault_rail : ∃ n, (enterFault c s).rail =
    { s.rail with mode := .fault, armed := n, cause := some c, rise := none, hold := none, fall := none } := by
  rw [(enterFault_after hs hup c).1.2 .rail (by decide), halted_eq hs hup]
  exact faultLanes_haltedAs (inFault_haltedAs s c)

/-- The panel draws nothing, and the light may have the whole of the effective budget (R77, R78). -/
theorem enterFault_budget : (enterFault c s).budget.rail = .fault ∧ (enterFault c s).budget.panel = 0 ∧
    (enterFault c s).budget.allowance = max (enterFault c s).budget.budget (enterFault c s).budget.floor := by
  have hdown : { (faultLanes (s.inFault c)).budget with rail := .fault }.estimate = 0 := estimate_down (.inr (.inr (by rfl)))
  obtain ⟨-, hpanel, hallowance, -⟩ := recompute_steps { (faultLanes (s.inFault c)).budget with rail := .fault }
  have hbudget : (enterFault c s).budget = { (faultLanes (s.inFault c)).budget with rail := .fault }.recompute := by
    rw [(enterFault_after hs hup c).1.2 .budget (by decide), halted_eq hs hup]; rfl
  rw [hdown] at hpanel hallowance
  rw [hbudget]
  exact ⟨rfl, hpanel, hallowance⟩

theorem enterFault_frame : SameExcept [.wave, .engine, .rail, .budget, .cache, .light, .power, .link] s (enterFault c s) ∧
    (enterFault c s).power.mode = s.power.mode := by
  have hstep := inFault_inStep hs hup c
  obtain ⟨hframe, hmode⟩ := faultLanes_frame (hstep.idle rfl) hstep.lightDark hstep.light
  obtain ⟨hafter, hafterMode⟩ := enterFault_after hs hup c
  rw [halted_eq hs hup] at hafter hafterMode
  have hrail : SameExcept [.rail] s (s.inFault c) := onRail_frame _ s
  exact ⟨(hrail.mono (by decide)).trans (hframe.trans (((budgeted_frame _ _).mono (by decide)).trans (hafter.mono (by decide)))),
    hafterMode.trans hmode⟩

/-- With no lane to free RAIL_FAULT is the only message. -/
theorem enterFault_queue (hfree : s.railsFree) (hawake : s.power.mode ≠ .standby) (hroom : s.link.roomForReport = true) :
    (enterFault c s).link.queue = s.link.queue ++ [.report (.railFault c s.rail.mode)] := by
  have hstep := inFault_inStep hs hup c
  have hframe := faultLanes_railsFree hstep.lightDark hstep.light (s := s.inFault c) hfree
  have hlink : (s.halted c).link = s.link := by
    rw [halted_eq hs hup]; exact hframe.2 .link (by decide)
  have hpower : (s.halted c).power = s.power := by
    rw [halted_eq hs hup]; exact hframe.2 .power (by decide)
  rw [enterFault_eq, (engineNotify_sameWork _).queue, raise_joins _ _ (by rw [hpower]; exact hawake) (by rw [hlink]; exact hroom),
    ← hlink]
  rfl

end

/-! ## Power-good is lost, and a rise takes too long (R66, R70) -/

theorem execPowerGoodLost_absent {s : State} (h : s.rail.powerGood = false) : exec .powerGoodLost s = .next s :=
  congrArg Host.Outcome.next (if_pos (by simp [h]))

theorem execPowerGoodLost_new {s : State} (h : s.rail.powerGood = true) : exec .powerGoodLost s =
    .next (if s.rail.mode = .on || s.rail.mode = .hold
      then enterFault .powerLost (s.onRail (fun r => { r with powerGood := false }))
      else s.onRail (fun r => { r with powerGood := false })) :=
  congrArg Host.Outcome.next (if_neg (by simp [h]))

theorem execRiseTimerExpire_other {s : State} (h : ¬(s.rail.mode = .rising ∧ s.rail.rise.isSome = true)) :
    exec .riseTimerExpire s = .next s := congrArg Host.Outcome.next (if_neg (by simpa [and_comm] using h))

theorem execRiseTimerExpire_rising {s : State} (hm : s.rail.mode = .rising) (ht : s.rail.rise.isSome = true) :
    exec .riseTimerExpire s = .next (enterFault .riseTimeout s) := congrArg Host.Outcome.next (if_pos (by simp [hm, ht]))

/-- The two events that end in FAULT, with their causes (R66, R70). -/
def FaultComes (i : Instr) (c : FaultCause) (s : State) : Prop :=
  (i = .powerGoodLost ∧ c = .powerLost ∧ s.rail.powerGood = true ∧ (s.rail.mode = .on ∨ s.rail.mode = .hold)) ∨
    (i = .riseTimerExpire ∧ c = .riseTimeout ∧ s.rail.mode = .rising ∧ s.rail.rise.isSome = true)

/-- Both enter FAULT from a state in which the rails are up; of the rails at most the level seen has changed before. -/
theorem exec_faultComes {i : Instr} {c : FaultCause} {s : State} (h : FaultComes i c s) : s.rail.mode ≠ .off ∧
    ∃ b, exec i s = .next (enterFault c (s.onRail (fun r => { r with powerGood := b }))) := by
  rcases h with ⟨rfl, rfl, hgood, hm⟩ | ⟨rfl, rfl, hm, ht⟩
  · refine ⟨by rcases hm with hm | hm <;> rw [hm] <;> exact nofun, false, ?_⟩
    rw [execPowerGoodLost_new hgood, if_pos (by simpa using hm)]
  · exact ⟨by rw [hm]; exact nofun, s.rail.powerGood, execRiseTimerExpire_rising hm ht⟩

/-! ## RAIL_CLEAR (R72) -/

section
variable {tag : Nat} {s : State} (hs : s.serves)
include hs

theorem execRailClear_served : exec (.railClear tag (.fields ())) s =
    .next (ownRailClear tag (s.placed (.railClear tag (.fields ())))) :=
  congrArg Host.Outcome.next (takeCommand_fields _ _ _ () (fun _ => ownRailClear tag) s hs)

theorem execRailClear_state (hm : s.rail.mode ≠ .fault) : exec (.railClear tag (.fields ())) s =
    .next (s.answered (.railClear tag (.fields ())) (plainReply 0x41 tag .state)) :=
  (execRailClear_served hs).trans (congrArg Host.Outcome.next (if_pos hm))

theorem execRailClear_busy (hm : s.rail.mode = .fault) (hgood : s.rail.powerGood = true) :
    exec (.railClear tag (.fields ())) s =
      .next (s.answered (.railClear tag (.fields ())) (plainReply 0x41 tag .busy)) :=
  (execRailClear_served hs).trans (congrArg Host.Outcome.next ((if_neg (not_not.2 hm)).trans (if_pos hgood)))

end

/-- The rails are OFF with no fault cause. -/
def State.cleared (s : State) : State := setRail .off (s.onRail (fun r => { r with cause := none }))

theorem ownRailClear_clears (tag : Nat) {s : State} (hm : s.rail.mode = .fault) (hgood : s.rail.powerGood = false) :
    ownRailClear tag s = engineNotify (walk (reply 0x41 tag .ok s.cleared)) :=
  (if_neg (not_not.2 hm)).trans (if_neg (by simp [hgood]))

theorem setRail_queue (m : RailMode) (s : State) : (setRail m s).link.queue = s.link.queue := by
  have hreact (c : Prop) [Decidable c] (f : PowerState → PowerState) (u : State) :
      (if c then u else powerReact (u.onPower f)).link.queue = u.link.queue := by
    split
    · rfl
    · exact (powerReact_sameWork _).queue
  exact (hreact _ (fun p => { p with railsOff := m = .off }) _).trans
    (hreact _ (fun p => { p with lightDark := (s.light.allow _).isDark }) _)

theorem cleared_rail (s : State) : s.cleared.rail = { s.rail with mode := .off, cause := none } := setRail_rail _ _

/-- A clear with power-good gone and nothing pending: the rails are OFF (R72). -/
theorem railClear_clears {tag : Nat} {s : State} (hs : s.serves) (hcoh : s.coherent) (hm : s.rail.mode = .fault)
    (hgood : s.rail.powerGood = false) (hp : s.engine.pending = []) : ∃ t, exec (.railClear tag (.fields ())) s = .next t ∧
      t.rail = { s.rail with mode := .off, cause := none } ∧ t.power.railsOff = true ∧ t.budget.rail = .off ∧
      t.link.queue = s.link.queue ++ [.reply (plainReply 0x41 tag .ok)] ∧ FrameOf [.rail, .budget, .light, .power, .link] s t := by
  have hplaced : (s.placed (.railClear tag (.fields ()))).inStep {} := (coherent_iff _).1 hcoh
  generalize hu : s.placed (.railClear tag (.fields ())) = u at hplaced
  have hstep : (reply 0x41 tag .ok u.cleared).inStep {} :=
    reply_effect {} 0x41 tag .ok _ (setRail_effect {} .off _ rfl (onRail_inStep hplaced _))
  have hrail : (reply 0x41 tag .ok u.cleared).rail = { s.rail with mode := .off, cause := none } := by
    rw [(reply_frame 0x41 tag .ok _).2 .rail (by decide), cleared_rail, ← hu]; rfl
  have hpending : (reply 0x41 tag .ok u.cleared).engine.pending = [] := by
    rw [reply_engine, State.cleared, setRail_engine, ← hu]; exact hp
  refine ⟨reply 0x41 tag .ok u.cleared, ?_, hrail, ?_, ?_, ?_, ?_⟩
  · rw [execRailClear_served hs, hu, ownRailClear_clears tag (by rw [← hu]; exact hm) (by rw [← hu]; exact hgood),
      walk_empty hpending, engineNotify_told (hstep.idle rfl)]
  · rw [hstep.railsOff rfl, hrail]; rfl
  · have hcopy : (reply 0x41 tag .ok u.cleared).budget.rail = (reply 0x41 tag .ok u.cleared).rail.mode := hstep.rail
    rw [hcopy, hrail]
  · have hqueue : u.cleared.link.queue = s.link.queue := by rw [State.cleared, setRail_queue, ← hu]; rfl
    rw [← hqueue]; rfl
  · have htaken : FrameOf [.link] s u := .of_same (hu ▸ placed_frame _ s) (by rw [← hu]; rfl)
    exact (htaken.mono.trans (onRail_setRail_frameOf .off (fun r => { r with cause := none }) u).mono).trans
      (FrameOf.of_same (reply_frame 0x41 tag .ok _) (PowerState.recheckDoze_mode _)).mono

/-- Settles O43: what an entry to FAULT leaves, part by part, and the three answers to a RAIL_CLEAR. -/
theorem railFaultFreesTheLanesUntilCleared : Obligations.RailFaultFreesTheLanesUntilCleared := by
  refine ⟨fun s hs => ⟨execPowerGoodLost_absent, fun hgood hon hhold => ?_, execRiseTimerExpire_other, fun i c h => ?_⟩,
    fun tag s hs hcoh => ⟨execRailClear_state hs, execRailClear_busy hs, railClear_clears hs hcoh⟩⟩
  · rw [execPowerGoodLost_new hgood, if_neg (by simp [hon, hhold])]; rfl
  · obtain ⟨hrails, b, hexec⟩ := exec_faultComes (s := s) h
    have hu : (s.onRail (fun r => { r with powerGood := b })).coherent :=
      (coherent_iff _).2 (onRail_inStep ((coherent_iff s).1 hs) _)
    have hup : (s.onRail (fun r => { r with powerGood := b })).rail.mode ≠ .off := hrails
    have hframe := onRail_frame (fun r => { r with powerGood := b }) s
    obtain ⟨k, hrail⟩ := enterFault_rail hu hup c
    obtain ⟨hscan, hpending⟩ := enterFault_stops hu hup c
    obtain ⟨htold, hpanel, hallowance⟩ := enterFault_budget hu hup c
    obtain ⟨hsame, hpower⟩ := enterFault_frame hu hup c
    refine ⟨_, hexec, by rw [hrail], by rw [hrail], by rw [hrail], by rw [hrail], by rw [hrail], enterFault_frees hu hup c,
      enterFault_covers hu hup c, enterFault_undriven hu hup c, hscan, hpending, htold, hpanel, hallowance,
      fun hfree => enterFault_queue hu hup c ((railsFree_iff _).2 hfree), hpower, (hframe.mono (by decide)).trans hsame⟩

end Sys2Proof.Machine
end

section
/-! SUPPORT. The proofs of the obligations of the page cache and the autonomous turns, with the lemmas they are built from. -/

namespace Sys2Proof.Machine

/-! ## The leaf records stay sound (R81, R82) -/

/-- Part of an event that leaves the leaf records sound where it found them so. -/
def KeepsLeaves (s t : State) : Prop := s.leavesSound → t.leavesSound

theorem KeepsLeaves.refl (s : State) : KeepsLeaves s s := id

theorem KeepsLeaves.trans {s t u : State} (h : KeepsLeaves s t) (h' : KeepsLeaves t u) : KeepsLeaves s u := h' ∘ h

theorem KeepsLeaves.ite {s t u : State} (c : Prop) [Decidable c] (ht : c → KeepsLeaves s t) (hu : ¬c → KeepsLeaves s u) :
    KeepsLeaves s (if c then t else u) := by
  split
  · exact ht ‹_›
  · exact hu ‹_›

/-- Only the records and the current leaf are asked about. -/
theorem KeepsLeaves.of_records {s t : State} (hl : t.cache.leaves = s.cache.leaves) (hc : t.cache.current = s.cache.current) :
    KeepsLeaves s t := by
  intro h
  rw [State.leavesSound, hl, hc]
  exact h

theorem KeepsLeaves.of_cache {s t : State} (h : t.cache = s.cache) : KeepsLeaves s t := .of_records (by rw [h]) (by rw [h])

theorem SameExcept.keepsLeaves {bs : List Block} {s t : State} (h : SameExcept bs s t) (hb : bs.contains .cache = false) :
    KeepsLeaves s t := .of_cache (h.2 .cache fun hmem => by simp [hmem] at hb)

theorem SameWork.keepsLeaves {s t : State} (h : SameWork s t) : KeepsLeaves s t := .of_records h.leaves h.current

/-- What leaves the page cache alone may come first. -/
theorem KeepsLeaves.after {s t u : State} (h : KeepsLeaves t u) (hc : t.cache = s.cache) : KeepsLeaves s u :=
  (of_cache hc).trans h

theorem foldl_keepsLeaves {α : Type} (f : State → α → State) (h : ∀ s a, KeepsLeaves s (f s a)) (l : List α) :
    ∀ s, KeepsLeaves s (l.foldl f s) := by
  induction l with
  | nil => exact .refl
  | cons a l ih => exact fun s => (h s a).trans (ih _)

theorem eachLane_keepsLeaves (f : Nat → State → State) (h : ∀ n s, KeepsLeaves s (f n s)) (s : State) :
    KeepsLeaves s (eachLane f s) := foldl_keepsLeaves _ (fun s n => h n s) _ s

/-! ### What leaves the page cache alone -/

theorem onMem_keepsLeaves (f : Memory → Memory) (s : State) : KeepsLeaves s (s.onMem f) := .of_cache rfl

theorem onPool_keepsLeaves (f : PoolState → PoolState) (s : State) : KeepsLeaves s (s.onPool f) := .of_cache rfl

theorem onWave_keepsLeaves (f : WaveState → WaveState) (s : State) : KeepsLeaves s (s.onWave f) := .of_cache rfl

theorem onEngine_keepsLeaves (f : EngineState → EngineState) (s : State) : KeepsLeaves s (s.onEngine f) := .of_cache rfl

theorem onRail_keepsLeaves (f : RailState → RailState) (s : State) : KeepsLeaves s (s.onRail f) := .of_cache rfl

theorem onBudget_keepsLeaves (f : BudgetState → BudgetState) (s : State) : KeepsLeaves s (s.onBudget f) := .of_cache rfl

theorem onKeys_keepsLeaves (f : KeyState → KeyState) (s : State) : KeepsLeaves s (s.onKeys f) := .of_cache rfl

theorem onLight_keepsLeaves (f : LightState → LightState) (s : State) : KeepsLeaves s (s.onLight f) := .of_cache rfl

theorem onRadio_keepsLeaves (f : RadioState → RadioState) (s : State) : KeepsLeaves s (s.onRadio f) := .of_cache rfl

theorem onStream_keepsLeaves (f : StreamState → StreamState) (s : State) : KeepsLeaves s (s.onStream f) := .of_cache rfl

theorem onPower_keepsLeaves (f : PowerState → PowerState) (s : State) : KeepsLeaves s (s.onPower f) := .of_cache rfl

theorem onLink_keepsLeaves (f : LinkState → LinkState) (s : State) : KeepsLeaves s (s.onLink f) := .of_cache rfl

theorem onSlot_keepsLeaves (n : Nat) (f : Slot → Slot) (s : State) : KeepsLeaves s (onSlot n f s) := .of_cache rfl

theorem onLane_keepsLeaves (n : Nat) (f : Lane → Lane) (s : State) : KeepsLeaves s (onLane n f s) := .of_cache rfl

theorem allocate_keepsLeaves (k : Nat) (o : Owner) (s : State) : KeepsLeaves s (allocate k o s) :=
  (allocate_frame k o s).keepsLeaves rfl

theorem releaseBlocks_keepsLeaves (blocks : List Nat) (s : State) : KeepsLeaves s (releaseBlocks blocks s) :=
  (releaseBlocks_frame blocks s).keepsLeaves rfl

theorem raise_keepsLeaves (r : Report) (s : State) : KeepsLeaves s (raise r s) := (raise_frame r s).keepsLeaves rfl

theorem raiseAll_keepsLeaves (rs : List Report) (s : State) : KeepsLeaves s (raiseAll rs s) := (raiseAll_frame rs s).keepsLeaves rfl

theorem recount_keepsLeaves (s : State) : KeepsLeaves s (recount s) :=
  (onLink_keepsLeaves _ s).trans (onPower_keepsLeaves _ _)

theorem reply_keepsLeaves (code tag : Nat) (st : Status) (s : State) : KeepsLeaves s (reply code tag st s) :=
  (reply_frame code tag st s).keepsLeaves rfl

/-! ### The leaf records' own operations -/

/-- Records rewritten in place, none of them under another number and none newly SHOWN. -/
theorem KeepsLeaves.of_map {s t : State} (f : Leaf → Leaf) (hl : t.cache.leaves = s.cache.leaves.map f)
    (hc : t.cache.current = s.cache.current) (hn : ∀ l, (f l).number = l.number)
    (hm : ∀ l, (f l).mode = .shown → l.mode = .shown) : KeepsLeaves s t := by
  rintro ⟨hsorted, hlen, hshown⟩
  refine ⟨?_, ?_, ?_⟩
  · rw [hl, List.pairwise_map]
    simpa only [hn] using hsorted
  · rw [hl, List.length_map]; exact hlen
  · rw [hl, hc]
    intro x hx hmode
    obtain ⟨l, hmem, rfl⟩ := List.mem_map.1 hx
    rw [hn]
    exact hshown l hmem (hm l hmode)

/-- Records that go leave the others in their order. -/
theorem KeepsLeaves.of_filter {s t : State} (p : Leaf → Bool) (hl : t.cache.leaves = s.cache.leaves.filter p)
    (hc : t.cache.current = s.cache.current) : KeepsLeaves s t := by
  rintro ⟨hsorted, hlen, hshown⟩
  refine ⟨?_, ?_, ?_⟩
  · rw [hl]; exact hsorted.filter _
  · rw [hl]; exact (List.length_filter_le _ _).trans hlen
  · rw [hl, hc]; exact fun l hmem => hshown l (List.mem_of_mem_filter hmem)

theorem withLeaf_keepsLeaves (n : Nat) (f : Leaf → Leaf) (s : State) (hn : ∀ l, (f l).number = l.number)
    (hm : ∀ l, (f l).mode = .shown → l.mode = .shown) : KeepsLeaves s (s.onCache (fun c => c.withLeaf n f)) := by
  refine .of_map (fun l => if l.number == n then f l else l) rfl rfl (fun l => ?_) fun l => ?_
  · split
    · exact hn l
    · rfl
  · split
    · exact hm l
    · exact id

theorem useSource_keepsLeaves (src : Source) (s : State) : KeepsLeaves s (useSource src s) := by
  cases src with
  | target => exact .refl s
  | leaf n => exact withLeaf_keepsLeaves n _ s (fun _ => rfl) fun _ => id

theorem unuseSource_keepsLeaves (src : Source) (s : State) : KeepsLeaves s (unuseSource src s) := by
  cases src with
  | target => exact .refl s
  | leaf n => exact withLeaf_keepsLeaves n _ s (fun _ => rfl) fun _ => id

theorem unshow_number (l : Leaf) : (unshow l).number = l.number := by
  rw [unshow]
  split <;> rfl

theorem unshow_not_shown (l : Leaf) : (unshow l).mode ≠ .shown := by
  rw [unshow]
  split
  · simp
  · assumption

theorem showNone_keepsLeaves (s : State) : KeepsLeaves s (s.onCache CacheState.showNone) := by
  rintro ⟨hsorted, hlen, -⟩
  refine ⟨?_, ?_, fun x hx hmode => ?_⟩
  · simpa only [onCache_cache, CacheState.showNone, List.pairwise_map, unshow_number] using hsorted
  · simpa only [onCache_cache, CacheState.showNone, List.length_map] using hlen
  · obtain ⟨l, -, rfl⟩ := List.mem_map.1 hx
    exact absurd hmode (unshow_not_shown l)

/-- The leaf that comes to be SHOWN is the current one, and the one that was is READY (R82, R88). -/
theorem showLeaf_keepsLeaves (n : Nat) (s : State) : KeepsLeaves s (s.onCache (fun c => c.showLeaf n)) := by
  cases hthere : s.cache.showable n with
  | false =>
    have hgone : s.onCache (fun c => c.showLeaf n) = s.onCache CacheState.showNone := by
      rw [State.onCache, showLeaf_gone hthere]; rfl
    rw [hgone]; exact showNone_keepsLeaves s
  | true =>
    rintro ⟨hsorted, hlen, -⟩
    have hnumber (l : Leaf) : (if l.number = n then { l with mode := .shown }
        else if l.mode = .shown then { l with mode := .ready } else l : Leaf).number = l.number := by
      split
      · rfl
      · split <;> rfl
    rw [State.leavesSound, onCache_cache, showLeaf_there hthere]
    refine ⟨?_, ?_, fun x hx hmode => ?_⟩
    · simpa only [List.pairwise_map, hnumber] using hsorted
    · simpa only [List.length_map] using hlen
    · obtain ⟨l, -, rfl⟩ := List.mem_map.1 hx
      rw [hnumber]
      by_cases hl : l.number = n
      · rw [hl]
      · rw [if_neg hl] at hmode
        exact absurd hmode (unshow_not_shown l)

theorem notice_keepsLeaves (l : Lane) (s : State) : KeepsLeaves s (s.onCache l.notice) := by
  unfold Lane.notice
  split
  · exact showLeaf_keepsLeaves _ s
  · split
    · exact showLeaf_keepsLeaves _ s
    · cases l.keepLeaf with
      | true => exact .refl s
      | false => exact showNone_keepsLeaves s

theorem removeLeaf_keepsLeaves (l : Leaf) (s : State) : KeepsLeaves s (removeLeaf l s) :=
  .of_filter (fun x => x.number != l.number) rfl rfl

theorem insertLeaf_perm (l : Leaf) (ls : List Leaf) : (insertLeaf l ls).Perm (l :: ls) := by
  induction ls with
  | nil => exact .refl _
  | cons x xs ih =>
    rw [insertLeaf]
    split
    · exact .refl _
    · exact (ih.cons x).trans (.swap l x xs)

/-- A record under a new number takes its place in the order (R81). -/
theorem insertLeaf_sorted {l : Leaf} {ls : List Leaf} (h : ls.Pairwise (fun a b => a.number < b.number))
    (hnew : ∀ x ∈ ls, x.number ≠ l.number) : (insertLeaf l ls).Pairwise (fun a b => a.number < b.number) := by
  induction ls with
  | nil => exact List.pairwise_singleton _ _
  | cons x xs ih =>
    obtain ⟨hx, hxs⟩ := List.pairwise_cons.1 h
    rw [insertLeaf]
    split
    next hlt =>
      refine List.pairwise_cons.2 ⟨fun y hy => ?_, h⟩
      rcases List.mem_cons.1 hy with rfl | hy
      · exact hlt
      · exact hlt.trans (hx y hy)
    next hge =>
      refine List.pairwise_cons.2 ⟨fun y hy => ?_, ih hxs fun y hy => hnew y (List.mem_cons_of_mem _ hy)⟩
      rcases List.mem_cons.1 ((insertLeaf_perm l xs).mem_iff.1 hy) with rfl | hy
      · exact Nat.lt_of_le_of_ne (Nat.le_of_not_lt hge) (hnew x List.mem_cons_self)
      · exact hx y hy

/-- No record bears the number. -/
theorem leaf_none_iff (c : CacheState) (n : Nat) : c.leaf n = none ↔ ∀ l ∈ c.leaves, l.number ≠ n := by
  simp [CacheState.leaf, List.find?_eq_none]

theorem mem_of_leaf {c : CacheState} {n : Nat} {l : Leaf} (h : c.leaf n = some l) : l ∈ c.leaves ∧ l.number = n :=
  ⟨List.mem_of_find?_eq_some h, by simpa using List.find?_some h⟩

/-- A new leaf joins fewer than twelve others under a number that none of them bears (R81, R84). -/
theorem createLeaf_keepsLeaves (a : LeafFillArgs) (s : State) (hnew : s.cache.leaf a.leaf = none)
    (hroom : s.cache.leaves.length < 12) : KeepsLeaves s (createLeaf a s) := by
  rintro ⟨hsorted, -, hshown⟩
  rw [leaf_none_iff] at hnew
  refine ⟨insertLeaf_sorted hsorted hnew, ?_, fun x hx hmode => ?_⟩
  · exact ((insertLeaf_perm _ _).length_eq).trans_le hroom
  · rcases List.mem_cons.1 ((insertLeaf_perm _ _).mem_iff.1 hx) with rfl | hx
    · exact absurd hmode (by simp)
    · exact hshown x hx hmode

/-! ### Filling a leaf (R83, R84) -/

/-- The records left where several leaves have gone. -/
theorem removeLeaves_leaves (vs : List Leaf) : ∀ s : State, (vs.foldl (fun s v => removeLeaf v s) s).cache =
    { s.cache with leaves := s.cache.leaves.filter (fun x : Leaf => !(vs.map Leaf.number).contains x.number) } := by
  induction vs with
  | nil => intro s; simp
  | cons v vs ih =>
    intro s
    have hgone : (removeLeaf v s).cache = { s.cache with leaves := s.cache.leaves.filter (fun x => x.number != v.number) } := rfl
    have hboth : (s.cache.leaves.filter (fun x => x.number != v.number)).filter
        (fun x : Leaf => !(vs.map Leaf.number).contains x.number) =
        s.cache.leaves.filter (fun x : Leaf => !((v :: vs).map Leaf.number).contains x.number) := by
      rw [List.filter_filter]
      refine List.filter_congr fun x _ => ?_
      rw [List.map_cons, List.contains_cons, Bool.not_or, Bool.and_comm]
      rfl
    rw [List.foldl_cons, ih, hgone, hboth]

theorem insertVictim_perm (c : CacheState) (l : Leaf) (ls : List Leaf) : (insertVictim c l ls).Perm (l :: ls) := by
  induction ls with
  | nil => exact .refl _
  | cons x xs ih =>
    rw [insertVictim]
    split
    · exact .refl _
    · exact (ih.cons x).trans (.swap l x xs)

theorem victimOrder_perm (c : CacheState) (ls : List Leaf) : (victimOrder c ls).Perm ls := by
  induction ls with
  | nil => exact .refl _
  | cons l ls ih => exact (insertVictim_perm c l _).trans (ih.cons l)

/-- The leaves that may go for a fill of n: READY with no use, and farther from the anchor than n (R84). -/
theorem mem_fillVictims (c : CacheState) (n : Nat) (v : Leaf) : v ∈ c.fillVictims n ↔
    v ∈ c.leaves ∧ v.mode = .ready ∧ v.useCount = 0 ∧ c.distance n < c.distance v.number := by
  rw [CacheState.fillVictims, (victimOrder_perm c _).mem_iff, List.mem_filter]
  simp only [Leaf.idle, Bool.and_eq_true, decide_eq_true_eq, and_assoc]

/-- Where a fill goes on there are fewer than twelve leaves once the evicted are gone (R84). -/
theorem fillEvictions_room {n : Nat} {s : State} {vs : List Leaf} (h : fillEvictions n s = some vs)
    (hlen : s.cache.leaves.length ≤ 12) : (vs.foldl (fun s v => removeLeaf v s) s).cache.leaves.length < 12 := by
  rw [removeLeaves_leaves]
  simp only [fillEvictions] at h
  split at h
  next hroom => exact (List.length_filter_le _ _).trans_lt hroom
  next =>
    split at h
    · cases h
    next v rest hvs =>
      cases h
      have hv : v ∈ s.cache.leaves := ((mem_fillVictims s.cache n v).1 (hvs ▸ List.mem_cons_self)).1
      refine Nat.lt_of_lt_of_le (List.length_filter_lt_length_iff_exists.2 ⟨v, hv, by simp⟩) hlen

theorem fillNew_keepsLeaves (tag : Nat) (a : LeafFillArgs) (s : State) (hnew : s.cache.leaf a.leaf = none) :
    KeepsLeaves s (fillNew tag a s) := by
  intro h
  rw [fillNew]
  split
  · exact h
  next vs hvs =>
    have hremoved : (vs.foldl (fun s v => removeLeaf v s) s).leavesSound :=
      foldl_keepsLeaves (fun s v => removeLeaf v s) (fun s v => removeLeaf_keepsLeaves v s) vs s h
    have hgone : (vs.foldl (fun s v => removeLeaf v s) s).cache.leaf a.leaf = none := by
      rw [leaf_none_iff] at hnew ⊢
      rw [removeLeaves_leaves]
      exact fun x hx => hnew x (List.mem_of_mem_filter hx)
    have hlen : s.cache.leaves.length ≤ 12 := by
      obtain ⟨-, hlen, -⟩ := h
      exact hlen
    have hcreated := createLeaf_keepsLeaves a _ hgone (fillEvictions_room hvs hlen) hremoved
    exact (raiseAll_frame _ _).keepsLeaves rfl hcreated

theorem ownLeafFill_keepsLeaves (tag : Nat) (a : LeafFillArgs) (s : State) : KeepsLeaves s (ownLeafFill tag a s) := by
  refine .ite _ (fun _ => reply_keepsLeaves _ _ _ s) fun _ => .ite _ (fun _ => reply_keepsLeaves _ _ _ s) fun _ => ?_
  split
  next hnew => exact fillNew_keepsLeaves tag a s hnew
  · refine .ite _ (fun _ => ?_) fun _ => reply_keepsLeaves _ _ _ s
    have hreopened (t : State) := withLeaf_keepsLeaves a.leaf (fun l => { l with
      mode := .filling, background := a.background, turnSlot := a.turnSlot, edge := a.edge }) t (fun _ => rfl) nofun
    exact (onPool_keepsLeaves _ s).trans ((hreopened _).trans (reply_keepsLeaves _ _ _ _))

/-! ### Reports, power and light -/

theorem powerReact_keepsLeaves (s : State) : KeepsLeaves s (powerReact s) := (powerReact_sameWork s).keepsLeaves

theorem engineNotify_keepsLeaves (s : State) : KeepsLeaves s (engineNotify s) := (engineNotify_sameWork s).keepsLeaves

theorem tellLightDark_sameWork (b : Bool) (s : State) : SameWork s (tellLightDark b s) := by
  rw [tellLightDark]
  split
  · exact .refl s
  · exact { powerReact_sameWork (s.onPower (fun p => { p with lightDark := b })) with }

theorem lightEvent_sameWork (f : LightState → LightState) (s : State) : SameWork s (lightEvent f s) :=
  { tellLightDark_sameWork (f s.light).isDark (s.onLight f) with }

theorem lightActivity_sameWork (s : State) : SameWork s (lightActivity s) := by
  rw [lightActivity]
  split
  · exact lightEvent_sameWork _ s
  · exact .refl s

theorem lightEvent_keepsLeaves (f : LightState → LightState) (s : State) : KeepsLeaves s (lightEvent f s) :=
  (lightEvent_sameWork f s).keepsLeaves

theorem lightActivity_keepsLeaves (s : State) : KeepsLeaves s (lightActivity s) := (lightActivity_sameWork s).keepsLeaves

theorem lightRequest_keepsLeaves (level : Nat) (s : State) : KeepsLeaves s (lightRequest level s) :=
  .ite _ (fun _ => .refl s) fun _ => (lightEvent_keepsLeaves _ s).trans (raise_keepsLeaves _ _)

theorem rebudget_keepsLeaves (f : BudgetState → BudgetState) (s : State) : KeepsLeaves s (rebudget f s) :=
  KeepsLeaves.after (lightEvent_keepsLeaves _ (s.onBudget fun b => (f b).recompute)) rfl

/-- A change of the page cache that keeps the records and the current leaf. -/
theorem onCache_keepsLeaves (f : CacheState → CacheState) (s : State) (hl : (f s.cache).leaves = s.cache.leaves)
    (hc : (f s.cache).current = s.cache.current) : KeepsLeaves s (s.onCache f) := .of_records hl hc

theorem setMode_keepsLeaves (m : PowerMode) (f : PowerState → PowerState) (s : State) : KeepsLeaves s (setMode m (s.onPower f)) :=
  (setMode_frame m f s).keepsLeaves rfl

theorem setFloor_keepsLeaves (v : Nat) (s : State) : KeepsLeaves s (setFloor v s) :=
  .ite _ (fun _ => .refl s) fun _ => (.after (rebudget_keepsLeaves _ _) rfl)

theorem reportLowBattery_keepsLeaves (s : State) : KeepsLeaves s (reportLowBattery s) := .after (raise_keepsLeaves _ _) rfl

/-! ### Rails -/

theorem tellRailsOff_keepsLeaves (b : Bool) (s : State) : KeepsLeaves s (tellRailsOff b s) :=
  .ite _ (fun _ => .refl s) fun _ => (.after (powerReact_keepsLeaves _) rfl)

theorem setRail_keepsLeaves (m : RailMode) (s : State) : KeepsLeaves s (setRail m s) :=
  .after ((rebudget_keepsLeaves _ _).trans (tellRailsOff_keepsLeaves _ _)) rfl

theorem startFall_keepsLeaves (s : State) : KeepsLeaves s (startFall s) := .after (setRail_keepsLeaves _ _) rfl

theorem enterHold_keepsLeaves (s : State) : KeepsLeaves s (enterHold s) :=
  .after ((setRail_keepsLeaves _ _).trans (.ite _ (fun _ => startFall_keepsLeaves _) fun _ => .refl _)) rfl

theorem laneLeft_keepsLeaves (s : State) : KeepsLeaves s (laneLeft s) :=
  .after (.ite _ (fun _ => enterHold_keepsLeaves _) fun _ => .refl (s.onRail fun r => { r with armed := r.armed - 1 })) rfl

theorem stopScan_keepsLeaves (s : State) : KeepsLeaves s (stopScan s) := .after (rebudget_keepsLeaves _ _) rfl

theorem driveFrame_keepsLeaves (s : State) : KeepsLeaves s (driveFrame s) := .after (rebudget_keepsLeaves _ _) rfl

/-! ### Streams' signals, sleep and waking -/

theorem handSignals_keepsLeaves (s : State) : KeepsLeaves s (handSignals s) :=
  .after (.ite _ (fun _ => .refl (handHeadroom s)) fun _ => (.after (powerReact_keepsLeaves _) rfl)) rfl

theorem settle_keepsLeaves (hostAsked : Bool) (s : State) : KeepsLeaves s (settle hostAsked s) := by
  refine .ite _ (fun _ => ?_) fun _ => .refl s
  have hmode := (setMode_keepsLeaves .settling (fun p =>
    { p with leftMode := some p.mode, hostAsked := hostAsked, timer := none }) s).trans
      (onCache_keepsLeaves (fun c => { c with sleepMark := true }) _ rfl rfl)
  have hlight := (hmode.trans (onLight_keepsLeaves LightState.settle _)).trans
    (onPower_keepsLeaves (fun p => { p with lightDark := s.light.settle.isDark }) _)
  have hstream := (hlight.trans (onStream_keepsLeaves StreamState.settle _)).trans ((handHeadroom_frame _).keepsLeaves rfl)
  have hsettled := hstream.trans (onPower_keepsLeaves (fun p => { p with running := s.stream.settle.anyRunning }) _)
  exact hsettled.trans (powerReact_keepsLeaves _)

theorem cancelSettling_keepsLeaves (byLink : Bool) (s : State) : KeepsLeaves s (cancelSettling byLink s) := by
  refine .ite _ (fun _ => ?_) fun _ => .refl s
  have hmode := (setMode_keepsLeaves (if byLink then PowerMode.active else s.power.leftMode.getD .active)
    (fun p => { p with leftMode := none, hostAsked := false }) s).trans
      (onCache_keepsLeaves (fun c => { c with sleepMark := false }) _ rfl rfl)
  have hlight := hmode.trans (lightEvent_keepsLeaves LightState.release _)
  have hsignals := hlight.trans ((onStream_keepsLeaves StreamState.release _).trans (handSignals_keepsLeaves _))
  exact hsignals.trans (onPower_keepsLeaves PowerState.recheckDoze _)

theorem activityNotice_keepsLeaves (s : State) : KeepsLeaves s (activityNotice s) := by
  rw [activityNotice]
  split
  · exact cancelSettling_keepsLeaves false s
  · exact .of_cache rfl
  all_goals exact .refl s

theorem wakeReport_keepsLeaves (c : WakeCause) (s : State) : KeepsLeaves s (wakeReport c s) := by
  cases c with
  | link => exact raise_keepsLeaves _ s
  | radio => exact raise_keepsLeaves _ s
  | key => exact .refl s
  | cover => exact .refl s

theorem beginWaking_keepsLeaves (c : WakeCause) (s : State) : KeepsLeaves s (beginWaking c s) := by
  refine .ite _ (fun _ => ?_) fun _ => .refl s
  have hmode := setMode_keepsLeaves .waking (fun p => { p with
    cause := some c, wakeEnd := some (if c = .link then .active else .doze), linkDuringWake := false }) s
  have hsense := hmode.trans (onKeys_keepsLeaves (fun k =>
    { k with inputs := k.inputs.map (fun i => { i with sense := .none }) }) _)
  have hwatch := hsense.trans (onRadio_keepsLeaves (fun r => { r with watching := false }) _)
  exact (hwatch.trans (wakeReport_keepsLeaves c _)).trans (onPool_keepsLeaves PoolState.askReady _)

theorem linkNotice_keepsLeaves (s : State) : KeepsLeaves s (linkNotice s) := by
  rw [linkNotice]
  split
  · exact .refl s
  · exact setMode_keepsLeaves _ _ s
  · exact .ite _ (fun _ => .refl s) fun _ => cancelSettling_keepsLeaves true s
  · exact beginWaking_keepsLeaves .link s
  · refine .ite _ (fun _ => .refl s) fun _ => ?_
    exact (onPower_keepsLeaves (fun q => { q with linkDuringWake := true, wakeEnd := some .active }) s).trans
      (.ite _ (fun _ => .refl _) fun _ => raise_keepsLeaves _ _)

/-! ### Slots, lanes and entries -/

theorem selectBand_keepsLeaves (t : Int) (n : Nat) (s : State) : KeepsLeaves s (selectBand t n s) :=
  (selectBand_frame t n s).keepsLeaves rfl

theorem takeReading_keepsLeaves (reading : Int) (s : State) :
    KeepsLeaves s (takeReading reading s) := (takeReading_frame reading s).keepsLeaves rfl

theorem allocateStaging_keepsLeaves (r : Nat) (s : State) : KeepsLeaves s (allocateStaging r s).2 := by
  simp only [allocateStaging]
  split
  · exact (allocate_keepsLeaves _ _ s)
  · split
    · exact .refl s
    next l _ =>
      have h := (raise_keepsLeaves (.leafEvicted l.number) s).trans (removeLeaf_keepsLeaves l _)
      split
      · exact h.trans (allocate_keepsLeaves _ _ _)
      · exact h

theorem turnAbandoned_keepsLeaves (c : MissCause) (s : State) : KeepsLeaves s (turnAbandoned c s) := by
  rw [turnAbandoned]
  split
  · exact .refl s
  · exact (raise_keepsLeaves _ s).trans (onCache_keepsLeaves _ _ rfl rfl)

theorem appendEntry_keepsLeaves (e : PendingEntry) (s : State) : KeepsLeaves s (appendEntry e s) :=
  .after (useSource_keepsLeaves e.source _) rfl

theorem walk_keepsLeaves (s : State) : KeepsLeaves s (walk s) := (walk_frame s).keepsLeaves rfl

theorem freeLane_keepsLeaves (inFrame : Bool) (n : Nat) (s : State) : KeepsLeaves s (freeLane inFrame n s) := by
  have h : KeepsLeaves s (unuseSource (s.lane n).source (unuseSlot (s.lane n).slot (onLane n (fun _ => {}) s))) :=
    (.after (unuseSource_keepsLeaves (s.lane n).source _) rfl)
  have h' := h.trans (KeepsLeaves.ite (c := (s.lane n).armed = true) (fun _ => laneLeft_keepsLeaves _) fun _ => .refl _)
  exact h'.trans (.ite _ (fun _ => stopScan_keepsLeaves _) fun _ => .refl _)

theorem tellLane_keepsLeaves (l : Lane) (o : UpdateOutcome) (c : MissCause) (s : State) : KeepsLeaves s (tellLane l o c s) := by
  rw [tellLane]
  split
  · exact raise_keepsLeaves _ s
  · exact turnAbandoned_keepsLeaves c s

theorem endLane_keepsLeaves (n : Nat) (o : UpdateOutcome) (c : MissCause) (s : State) : KeepsLeaves s (endLane n o c s) :=
  (freeLane_keepsLeaves false n s).trans (tellLane_keepsLeaves _ o c _)

theorem freeChanged_keepsLeaves (s : State) : KeepsLeaves s (freeChanged s) :=
  foldl_keepsLeaves _ (fun s n => .ite _ (fun _ => endLane_keepsLeaves n _ _ s) fun _ => .refl s) _ s

theorem addUncertain_keepsLeaves (r : Rect) (s : State) : KeepsLeaves s (addUncertain r s) :=
  .ite _ (fun _ => .refl s) fun _ => .ite _ (fun _ => .of_cache rfl) fun _ => (.after (freeChanged_keepsLeaves _) rfl)

/-! ### Turns -/

theorem submitTurn_keepsLeaves (d : TurnDir) (t : Nat) (s : State) : KeepsLeaves s (submitTurn d t s) := by
  simp only [submitTurn]
  split
  · exact raise_keepsLeaves _ s
  · split
    · exact raise_keepsLeaves _ s
    · exact ((appendEntry_keepsLeaves _ s).trans (walk_keepsLeaves _)).trans
        ((onCache_keepsLeaves _ _ rfl rfl).trans (lightActivity_keepsLeaves _))

theorem takeTurnTo_keepsLeaves (d : TurnDir) (t : Nat) (s : State) : KeepsLeaves s (takeTurnTo d t s) := by
  rw [takeTurnTo]
  split
  · exact raise_keepsLeaves _ s
  · exact .ite _ (fun _ => raise_keepsLeaves _ s) fun _ => submitTurn_keepsLeaves d t s

theorem resolveTurn_keepsLeaves (d : TurnDir) (wanted : Nat → Nat) (s : State) : KeepsLeaves s (resolveTurn d wanted s) := by
  refine .ite _ (fun _ => raise_keepsLeaves _ s) fun _ => ?_
  split
  · exact raise_keepsLeaves _ s
  · exact .ite _ (fun _ => raise_keepsLeaves _ s) fun _ => takeTurnTo_keepsLeaves d _ s

theorem turnRequest_keepsLeaves (d : TurnDir) (s : State) : KeepsLeaves s (turnRequest d s) := by
  refine .ite _ (fun _ => raise_keepsLeaves _ s) fun _ => ?_
  split
  · exact onCache_keepsLeaves _ s rfl rfl
  · exact resolveTurn_keepsLeaves d _ s

theorem resolveDeferred_keepsLeaves (s : State) : KeepsLeaves s (resolveDeferred s) := by
  rw [resolveDeferred]
  split
  · exact .refl _
  · exact (onCache_keepsLeaves (fun c => { c with deferred := none }) s rfl rfl).trans (resolveTurn_keepsLeaves _ _ _)

theorem turnDone_keepsLeaves (l : Lane) (s : State) : KeepsLeaves s (turnDone l s) := by
  simp only [turnDone]
  split
  · exact .refl _
  · exact (((onCache_keepsLeaves (fun c => { c with counter := nextCounter l.selection c.counter }) s rfl rfl).trans
      (raise_keepsLeaves _ _)).trans (raiseAll_keepsLeaves _ _)).trans
        ((onCache_keepsLeaves (fun c => { c with flight := none }) _ rfl rfl).trans (resolveDeferred_keepsLeaves _))

/-! ### Frames -/

theorem joinLane_keepsLeaves (n : Nat) (s : State) : KeepsLeaves s (joinLane n s) :=
  .ite _ (fun _ => (.after (notice_keepsLeaves _ _) rfl)) fun _ => .refl _

theorem completedLane_keepsLeaves (l : Lane) (s : State) : KeepsLeaves s (completedLane l s) := by
  rw [completedLane]
  split
  · exact (raise_keepsLeaves _ s).trans (.ite _ (fun _ => onCache_keepsLeaves _ _ rfl rfl) fun _ => .refl _)
  · exact turnDone_keepsLeaves l s

theorem completeLane_keepsLeaves (n : Nat) (s : State) : KeepsLeaves s (completeLane n s) := by
  refine .ite _ (fun _ => ?_) fun _ => .refl _
  have hpixels := (onMem_keepsLeaves (fun m => m.setPixels (shownBlocks s.pool.geometry)
    ((s.lanePixels (s.lane n)).map (fun q => (q.1, q.2.2)))) s)
  have hcertain := hpixels.trans (KeepsLeaves.ite ((s.lane n).selection = .all)
    (fun _ => (onEngine_keepsLeaves (fun e => e.clearUncertain (s.lane n).rect) _)) fun _ => .refl _)
  exact (hcertain.trans (completedLane_keepsLeaves _ _)).trans (freeLane_keepsLeaves true n _)

theorem runFrame_keepsLeaves (s : State) : KeepsLeaves s (runFrame s) := by
  have hjoin := eachLane_keepsLeaves joinLane joinLane_keepsLeaves s
  have hdrive : KeepsLeaves s (driveFrame (eachLane joinLane s)).advanced :=
    (hjoin.trans (driveFrame_keepsLeaves _)).trans (.of_cache (advanced_cache _))
  have hcomplete := hdrive.trans (eachLane_keepsLeaves completeLane completeLane_keepsLeaves _)
  have hwalk := hcomplete.trans (walk_keepsLeaves _)
  unfold runFrame
  exact hwalk.trans (.ite _ (fun _ => .refl _) fun _ => stopScan_keepsLeaves _)

/-! ### Rails that reach ON or FAULT -/

theorem reportOn_keepsLeaves (s : State) : KeepsLeaves s (reportOn s) := .ite _ (fun _ => runFrame_keepsLeaves s) fun _ => .refl _

theorem endRise_keepsLeaves (s : State) : KeepsLeaves s (endRise s) :=
  .after ((setRail_keepsLeaves .on _).trans (.ite _ (fun _ => enterHold_keepsLeaves _) fun _ => reportOn_keepsLeaves _)) rfl

theorem startRise_keepsLeaves (s : State) : KeepsLeaves s (startRise s) :=
  .after ((setRail_keepsLeaves .rising _).trans (.ite _ (fun _ => endRise_keepsLeaves _) fun _ => .refl _)) rfl

theorem laneArmed_keepsLeaves (s : State) : KeepsLeaves s (laneArmed s) := by
  rw [laneArmed]
  split
  · exact .after (startRise_keepsLeaves _) rfl
  · exact .of_cache rfl
  · exact .after (reportOn_keepsLeaves _) rfl
  · exact .after ((setRail_keepsLeaves .on _).trans (reportOn_keepsLeaves _)) rfl
  · exact .of_cache rfl
  · exact .of_cache rfl

theorem endFall_keepsLeaves (s : State) : KeepsLeaves s (endFall s) :=
  .after ((setRail_keepsLeaves .off _).trans (.ite _ (fun _ => .refl _) fun _ => startRise_keepsLeaves _)) rfl

theorem faultLanes_keepsLeaves (s : State) : KeepsLeaves s (faultLanes s) := by
  have hend := eachLane_keepsLeaves (fun n s => if (s.lane n).armed then endLane n .railFault .rail s else s)
    (fun n s => .ite _ (fun _ => endLane_keepsLeaves n _ _ s) fun _ => .refl s) s
  have hadd := hend.trans (foldl_keepsLeaves (fun s r => addUncertain r s) (fun s r => addUncertain_keepsLeaves r s)
    ((s.engine.lanes.toList.filter (fun l => l.state = .driving)).map Lane.rect) _)
  exact hadd.trans (.ite _ (fun _ => stopScan_keepsLeaves _) fun _ => .refl _)

theorem enterFault_keepsLeaves (c : FaultCause) (s : State) : KeepsLeaves s (enterFault c s) :=
  .after (((faultLanes_keepsLeaves _).trans (walk_keepsLeaves _)).trans ((rebudget_keepsLeaves _ _).trans
    ((raise_keepsLeaves (.railFault c s.rail.mode) _).trans (engineNotify_keepsLeaves _)))) rfl

/-! ### The band answer -/

theorem answerBand_keepsLeaves (n : Nat) (s : State) : KeepsLeaves s (answerBand n s) :=
  .ite _ (fun _ => (endLane_keepsLeaves n _ _ s).trans (walk_keepsLeaves _)) fun _ => (.after (laneArmed_keepsLeaves _) rfl)

theorem askBand_keepsLeaves (n : Nat) (s : State) : KeepsLeaves s (askBand n s) := by
  simp only [askBand]
  split
  · exact .of_cache rfl
  · exact (KeepsLeaves.ite _ (fun _ => selectBand_keepsLeaves _ _ s) fun _ => .refl s).trans (answerBand_keepsLeaves n _)

theorem answerHeld_keepsLeaves (s : State) : KeepsLeaves s (answerHeld s) :=
  foldl_keepsLeaves _ (fun s n => .ite _ (fun _ => answerBand_keepsLeaves n s) fun _ => .refl s) _ s

/-! ### Keys -/

theorem keyNotice_keepsLeaves (c : KeyConfig) (e : KeyEvent) (s : State) : KeepsLeaves s (keyNotice c e s) := by
  cases e with
  | press =>
    exact .ite _ (fun _ => settle_keepsLeaves false s) fun _ => .ite _ (fun _ => activityNotice_keepsLeaves s) fun _ => .refl s
  | release => exact .ite _ (fun _ => cancelSettling_keepsLeaves false s) fun _ => .refl s
  | again => exact .refl s

theorem keyRequest_keepsLeaves (c : KeyConfig) (e : KeyEvent) (s : State) : KeepsLeaves s (keyRequest c e s) := by
  refine .ite _ (fun _ => .refl s) fun _ => ?_
  split
  · exact (turnRequest_keepsLeaves .next s).trans (engineNotify_keepsLeaves _)
  · exact (turnRequest_keepsLeaves .prev s).trans (engineNotify_keepsLeaves _)
  · exact lightRequest_keepsLeaves _ s
  · exact lightRequest_keepsLeaves _ s
  all_goals exact .refl s

theorem keyEvent_keepsLeaves (k : Nat) (e : KeyEvent) (time : Nat) (s : State) : KeepsLeaves s (keyEvent k e time s) := by
  have h := (lightActivity_keepsLeaves s).trans (KeepsLeaves.ite (c := keyReported (s.key k).config.action e = true)
    (fun _ => raise_keepsLeaves (.key k e time) _) fun _ => .refl _)
  exact (h.trans (keyNotice_keepsLeaves _ e _)).trans (keyRequest_keepsLeaves _ e _)

theorem pressKey_keepsLeaves (k time : Nat) (s : State) : KeepsLeaves s (pressKey k time s) :=
  (onKeys_keepsLeaves _ s).trans (keyEvent_keepsLeaves k .press time _)

theorem releaseKey_keepsLeaves (k time : Nat) (s : State) : KeepsLeaves s (releaseKey k time s) :=
  (onKeys_keepsLeaves _ s).trans (keyEvent_keepsLeaves k .release time _)

theorem repeatKey_keepsLeaves (k : Nat) (s : State) : KeepsLeaves s (repeatKey k s) :=
  (onKeys_keepsLeaves _ s).trans (keyEvent_keepsLeaves k .again _ _)

theorem acceptLevel_keepsLeaves (k : Nat) (l : Level) (s : State) : KeepsLeaves s (acceptLevel k l s) :=
  .after (.ite _ (fun _ => .ite _ (fun _ => pressKey_keepsLeaves k _ _) fun _ => releaseKey_keepsLeaves k _ _)
    fun _ => .ite _ (fun _ => .of_cache rfl) fun _ => .refl _) rfl

theorem senseWake_keepsLeaves (k : Nat) (s : State) : KeepsLeaves s (senseWake k s) := .after (beginWaking_keepsLeaves _ _) rfl

theorem senseChange_keepsLeaves (k : Nat) (l : Level) (s : State) : KeepsLeaves s (senseChange k l s) := by
  simp only [senseChange]
  split
  · exact .of_cache rfl
  · exact .after (.ite _ (fun _ => .refl _) fun _ => .of_cache rfl) rfl
  · exact .after (.ite _ (fun _ => senseWake_keepsLeaves k _) fun _ => .refl _) rfl

theorem rawChanged_keepsLeaves (k : Nat) (l : Level) (s : State) : KeepsLeaves s (rawChanged k l s) := by
  refine .ite _ (fun _ => .of_cache rfl) fun _ => ?_
  split
  · exact .of_cache rfl
  · exact .of_cache rfl
  · exact .of_cache rfl
  · exact senseChange_keepsLeaves k l s
  · exact .of_cache rfl

theorem deliverLatched_keepsLeaves (k time : Nat) (s : State) : KeepsLeaves s (deliverLatched k time s) :=
  .ite _
    (fun _ => (releaseKey_keepsLeaves k time s).trans (.ite _ (fun _ => pressKey_keepsLeaves k _ _) fun _ => .refl _))
    fun _ => (pressKey_keepsLeaves k time s).trans (.ite _ (fun _ => .refl _) fun _ => releaseKey_keepsLeaves k _ _)

theorem keysAwake_keepsLeaves (s : State) : KeepsLeaves s (keysAwake s) := by
  rw [keysAwake]
  split
  · exact .of_cache rfl
  · exact .after ((deliverLatched_keepsLeaves _ _ _).trans (.ite _ (fun _ => .of_cache rfl) fun _ => .refl _)) rfl

theorem reportSleptBattery_keepsLeaves (s : State) : KeepsLeaves s (reportSleptBattery s) :=
  .ite _ (fun _ => reportLowBattery_keepsLeaves s) fun _ => .refl s

/-- WAKING completes, in the order of R178. -/
theorem completeWaking_keepsLeaves (s : State) : KeepsLeaves s (completeWaking s) := by
  have hsignals := ((roused_frame s).keepsLeaves rfl).trans (handSignals_keepsLeaves _)
  have hreported : KeepsLeaves s s.reported :=
    (hsignals.trans (onWave_keepsLeaves WaveState.restart _)).trans (reportSleptBattery_keepsLeaves _)
  have hwakened : KeepsLeaves s s.wakened := hreported.trans (lightEvent_keepsLeaves _ _)
  rw [completeWaking_eq]
  exact (hwakened.trans (keysAwake_keepsLeaves _)).trans ((onPower_keepsLeaves PowerState.recheckDoze _).trans
    (engineNotify_keepsLeaves _))

/-! ### The radio port and the streams -/

theorem countRadio_keepsLeaves (c : CountKind) (s : State) : KeepsLeaves s (countRadio c s) := .of_cache rfl

theorem onRecord_keepsLeaves (n : Nat) (f : StreamRecord → StreamRecord) (s : State) : KeepsLeaves s (onRecord n f s) := .of_cache rfl

theorem radioError_keepsLeaves (c : CountKind) (k : RadioErrorKind) (s : State) : KeepsLeaves s (radioError c k s) :=
  (countRadio_keepsLeaves c s).trans <| .ite _ (fun _ => .refl _) fun _ =>
    (onRadio_keepsLeaves _ _).trans (raise_keepsLeaves _ _)

theorem pauseStream_keepsLeaves (r : Nat) (c : PauseCause) (report : Report) (s : State) :
    KeepsLeaves s (pauseStream r c report s) :=
  .ite _ (fun _ => (onRecord_keepsLeaves r _ s).trans ((raise_keepsLeaves report _).trans (handSignals_keepsLeaves _)))
    fun _ => .ite _ (fun _ => .refl s) fun _ => (onRecord_keepsLeaves r _ s).trans (raise_keepsLeaves report _)

theorem thresholdRise_keepsLeaves (r : Nat) (s : State) : KeepsLeaves s (thresholdRise r s) :=
  .ite _ (fun _ => (onRecord_keepsLeaves r _ s).trans (raise_keepsLeaves _ _)) fun _ => .refl s

/-- A record changes, a report is raised and the signals are formed afresh. -/
theorem tellRecord_keepsLeaves (n : Nat) (f : StreamRecord → StreamRecord) (r : Report) (s : State) :
    KeepsLeaves s (handSignals (raise r (onRecord n f s))) :=
  (onRecord_keepsLeaves n f s).trans ((raise_keepsLeaves r _).trans (handSignals_keepsLeaves _))

theorem acceptFrame_keepsLeaves (r : Nat) (granted : Bool) (payload : List Byte) (s : State) :
    KeepsLeaves s (acceptFrame r granted payload s) := by
  have h := (onRecord_keepsLeaves r (fun _ => ((s.record r).takeBytes granted payload).record) s).trans
    (raiseAll_keepsLeaves ((s.record r).takeBytes granted payload).reports _)
  refine h.trans (.ite _ (fun _ => tellRecord_keepsLeaves _ _ _ _) fun _ => ?_)
  split
  · exact tellRecord_keepsLeaves _ _ _ _
  · exact handSignals_keepsLeaves _

theorem placeFrame_keepsLeaves (r : Nat) (payload : List Byte) (s : State) : KeepsLeaves s (placeFrame r payload s).2 := by
  simp only [placeFrame]
  split
  · split
    · exact pauseStream_keepsLeaves r _ _ s
    · have h := allocateStaging_keepsLeaves r s
      split
      next s' he =>
        rw [he] at h
        exact h.trans (pauseStream_keepsLeaves r _ _ s')
      next b s' he =>
        rw [he] at h
        have hgrown := (onRecord_keepsLeaves r (fun x => { x with blocks := x.blocks ++ [b] }) s').trans (handSignals_keepsLeaves _)
        exact h.trans (hgrown.trans ((thresholdRise_keepsLeaves r _).trans (acceptFrame_keepsLeaves r true payload _)))
  · exact acceptFrame_keepsLeaves r false payload s

theorem expectedFrame_keepsLeaves (r : Nat) (payload : List Byte) (s : State) : KeepsLeaves s (expectedFrame r payload s).2 := by
  simp only [expectedFrame]
  split
  · have h := placeFrame_keepsLeaves r payload s
    split <;> rename_i s' he <;> rw [he] at h <;> exact h
  · split
    · exact tellRecord_keepsLeaves r _ _ s
    · exact pauseStream_keepsLeaves r _ _ s

theorem decideFrame_keepsLeaves (f : Frame) (s : State) : KeepsLeaves s (decideFrame f s).2 := by
  simp only [decideFrame]
  split
  · exact .refl s
  · split
    · exact .refl s
    · split
      · exact .refl s
      · split
        · exact .ite _ (fun _ => onRecord_keepsLeaves _ _ s) fun _ => .refl s
        · split
          · exact expectedFrame_keepsLeaves _ _ s
          · split
            · exact (onRecord_keepsLeaves _ _ s).trans (pauseStream_keepsLeaves _ _ _ _)
            · exact onRecord_keepsLeaves _ _ s

theorem commitChunk_keepsLeaves (c : Chunk) (s : State) : KeepsLeaves s (commitChunk c s) := by
  simp only [commitChunk]
  split
  · exact .refl s
  next n _ =>
    have hdrain := (onRecord_keepsLeaves n (fun r => r.drain c) s).trans (onRecord_keepsLeaves n StreamRecord.dropBlocks _)
    have hrelease (gone : List Nat) := hdrain.trans ((releaseBlocks_keepsLeaves gone _).trans
      (onRecord_keepsLeaves n (fun r => r.prune.dropLandmarks c) _))
    exact (hrelease _).trans ((KeepsLeaves.ite _ (fun _ => .refl _) fun _ =>
      onRecord_keepsLeaves n StreamRecord.thresholdFall _).trans (handSignals_keepsLeaves _))

theorem idleAssembler_keepsLeaves (s : State) : KeepsLeaves s (s.onRadio RadioState.idleAssembler) := .of_cache rfl

theorem countAnswer_keepsLeaves (a : PortAnswer) (s : State) : KeepsLeaves s (countAnswer a s) := by
  cases a with
  | taken => exact countRadio_keepsLeaves _ s
  | orphan => exact countRadio_keepsLeaves _ s

theorem handFrame_keepsLeaves (s : State) : KeepsLeaves s (handFrame s) := by
  rw [handFrame]
  split
  · exact .refl s
  next a _ =>
    have h := decideFrame_keepsLeaves a.toFrame s
    split <;> rename_i he <;> rw [he] at h
    · exact h
    · exact h.trans ((countAnswer_keepsLeaves _ _).trans (idleAssembler_keepsLeaves _))

theorem handOverFrame_keepsLeaves (s : State) : KeepsLeaves s (handOverFrame s) :=
  (onRadio_keepsLeaves (fun r => { r with waiting := true, gap := none }) s).trans <|
    .ite _ (fun _ => .refl _) fun _ => handFrame_keepsLeaves _

theorem lateAnswer_keepsLeaves (a : PortAnswer) (s : State) : KeepsLeaves s (lateAnswer a s) :=
  (countAnswer_keepsLeaves a s).trans <| .ite _
    (fun _ => (onRadio_keepsLeaves (fun r => { r with released := false }) _).trans <|
      .ite _ (fun _ => handFrame_keepsLeaves _) fun _ => .refl _)
    fun _ => idleAssembler_keepsLeaves _

theorem dropFrame_keepsLeaves (c : CountKind) (k : RadioErrorKind) (s : State) : KeepsLeaves s (dropFrame c k s) :=
  (radioError_keepsLeaves c k s).trans (idleAssembler_keepsLeaves _)

theorem huntChar_keepsLeaves (mark : Bool) (data : Byte) (s : State) : KeepsLeaves s (huntChar mark data s) := by
  refine .ite _ (fun _ => ?_) fun _ => .refl s
  split
  · exact radioError_keepsLeaves _ _ s
  · exact .of_cache rfl

theorem headerChar_keepsLeaves (a : Assembly) (data : Byte) (s : State) : KeepsLeaves s (headerChar a data s) := by
  refine .ite _ (fun _ => .of_cache rfl) fun _ => ?_
  split
  · exact dropFrame_keepsLeaves _ _ s
  · exact .of_cache rfl

theorem checkChar_keepsLeaves (a : Assembly) (data : Byte) (s : State) : KeepsLeaves s (checkChar a data s) :=
  .ite _ (fun _ => .of_cache rfl) fun _ =>
    .ite _ (fun _ => (onRadio_keepsLeaves _ s).trans (handOverFrame_keepsLeaves _)) fun _ => dropFrame_keepsLeaves _ _ s

theorem takeChar_keepsLeaves (mark : Bool) (data : Byte) (s : State) : KeepsLeaves s (takeChar mark data s) := by
  rw [takeChar]
  split
  · exact huntChar_keepsLeaves mark data s
  · refine .ite _ (fun _ => (dropFrame_keepsLeaves _ _ s).trans (huntChar_keepsLeaves mark data _)) fun _ => ?_
    split
    · exact huntChar_keepsLeaves mark data s
    · exact headerChar_keepsLeaves _ data s
    · exact .of_cache rfl
    · exact checkChar_keepsLeaves _ data s

theorem takeNote_keepsLeaves (s : State) : KeepsLeaves s (takeNote s) :=
  .ite _ (fun _ => .refl s) fun _ => (countRadio_keepsLeaves _ s).trans (idleAssembler_keepsLeaves _)

theorem takeEntryAt_keepsLeaves (e : FifoEntry) (rest : List FifoEntry) (s : State) : KeepsLeaves s (takeEntryAt e rest s) := by
  have h := (onRadio_keepsLeaves (fun r => r.setFifo rest) s)
  cases e with
  | note c => exact h.trans (takeNote_keepsLeaves _)
  | char mark data => exact h.trans (takeChar_keepsLeaves mark data _)

theorem placeNote_keepsLeaves (c : NoteCause) (s : State) : KeepsLeaves s (placeNote c s) := .of_cache rfl

theorem placeChar_keepsLeaves (mark : Bool) (data : Byte) (s : State) : KeepsLeaves s (placeChar mark data s) :=
  .ite _ (fun _ => .of_cache rfl) fun _ => (radioError_keepsLeaves _ _ s).trans (placeNote_keepsLeaves _ _)

theorem closeStream_keepsLeaves (n : Nat) (s : State) : KeepsLeaves s (closeStream n s) := by
  have hblocks := (onRecord_keepsLeaves n (fun r => r.close .host) s).trans (releaseBlocks_keepsLeaves (s.record n).blocks _)
  have hforget := hblocks.trans (onLink_keepsLeaves (fun l => { l with transaction := forgetRecord l.transaction n }) _)
  exact (hforget.trans (handSignals_keepsLeaves _)).trans (.ite _ (fun _ => lateAnswer_keepsLeaves .taken _) fun _ => .refl _)

/-! ### Taking packets -/

theorem takePacket_keepsLeaves (i : Instr) (owner : State → State) (s : State) (h : ∀ s, KeepsLeaves s (owner s)) :
    KeepsLeaves s (takePacket i owner s) := by
  refine .ite _ (fun _ => ?_) fun _ => .refl s
  rw [popPacket_eq]
  exact ((taken_frame i s).keepsLeaves rfl).trans (h _)

theorem withReplyPlace_keepsLeaves (owner : State → State) (s : State) (h : ∀ s, KeepsLeaves s (owner s)) :
    KeepsLeaves s (withReplyPlace owner s) :=
  .ite _ (fun _ => (onLink_keepsLeaves (fun l => { l with reserved := true }) s).trans (h _)) fun _ => .of_cache rfl

theorem takeCommand_keepsLeaves {α : Type} (i : Instr) (code tag : Nat) (b : Body α) (owner : α → State → State) (s : State)
    (h : ∀ a s, KeepsLeaves s (owner a s)) : KeepsLeaves s (takeCommand i code tag b owner s) := by
  refine takePacket_keepsLeaves i _ s fun s => withReplyPlace_keepsLeaves _ s fun s => ?_
  cases b with
  | fields a => exact h a s
  | badLength => exact reply_keepsLeaves _ _ _ s
  | badParam => exact reply_keepsLeaves _ _ _ s

/-! ### Page memory, the waveform unit and the engine -/

theorem abandonLoad_keepsLeaves (s : State) : KeepsLeaves s (abandonLoad s) := by
  rw [abandonLoad]
  split
  · exact .refl s
  · exact .of_cache rfl

theorem ownPanelSetup_keepsLeaves (tag : Nat) (a : PanelArgs) (s : State) : KeepsLeaves s (ownPanelSetup tag a s) :=
  .ite _ (fun _ => reply_keepsLeaves _ _ _ s) fun _ => .ite _ (fun _ => reply_keepsLeaves _ _ _ s) fun _ =>
    .ite _ (fun _ => .ite _ (fun _ => reply_keepsLeaves _ _ _ s) fun _ =>
      ((replacePlanes_frame a s).keepsLeaves rfl).trans (reply_keepsLeaves _ _ _ _)) fun _ => reply_keepsLeaves _ _ _ s

theorem ownPoolSetup_keepsLeaves (tag r : Nat) (s : State) : KeepsLeaves s (ownPoolSetup tag r s) :=
  .ite _ (fun _ => reply_keepsLeaves _ _ _ s) fun _ => .after (reply_keepsLeaves _ _ _ (handPool (s.onPool _))) rfl

theorem ownWaveLoad_keepsLeaves (tag : Nat) (a : WaveLoadArgs) (s : State) : KeepsLeaves s (ownWaveLoad tag a s) :=
  (abandonLoad_keepsLeaves s).trans (.ite _ (fun _ => reply_keepsLeaves _ _ _ _) fun _ =>
    .ite _ (fun _ => reply_keepsLeaves _ _ _ _) fun _ => .ite _ (fun _ => reply_keepsLeaves _ _ _ _) fun _ =>
      (onSlot_keepsLeaves _ _ _).trans ((onWave_keepsLeaves _ _).trans (reply_keepsLeaves _ _ _ _)))

theorem dropSlot_keepsLeaves (n : Nat) (s : State) : KeepsLeaves s (dropSlot n s) := by
  rw [dropSlot]
  split
  · exact abandonLoad_keepsLeaves s
  · exact .of_cache rfl
  · exact .refl s

theorem ownWaveDrop_keepsLeaves (tag n : Nat) (s : State) : KeepsLeaves s (ownWaveDrop tag n s) :=
  .ite _ (fun _ => reply_keepsLeaves _ _ _ s) fun _ => .ite _ (fun _ => reply_keepsLeaves _ _ _ s) fun _ =>
    (dropSlot_keepsLeaves n s).trans (reply_keepsLeaves _ _ _ _)

theorem completeLoad_keepsLeaves (l : Load) (s : State) : KeepsLeaves s (completeLoad l s) :=
  (onWave_keepsLeaves (fun w => { w with load := none }) s).trans
    (.ite _ (fun _ => (onSlot_keepsLeaves l.slot _ _).trans (raise_keepsLeaves _ _)) fun _ =>
      (onSlot_keepsLeaves l.slot _ _).trans (raise_keepsLeaves _ _))

theorem ownTable_keepsLeaves (body : List Byte) (s : State) : KeepsLeaves s (ownTable body s) := by
  rw [ownTable]
  split
  · exact raise_keepsLeaves _ s
  · exact .ite _ (fun _ => raise_keepsLeaves _ s) fun _ => (onMem_keepsLeaves _ s).trans
      (.ite _ (fun _ => completeLoad_keepsLeaves _ _) fun _ => .of_cache rfl)

theorem hostUpdate_keepsLeaves (code tag : Nat) (a : UpdateArgs) (s : State) : KeepsLeaves s (hostUpdate code tag a s) := by
  rw [hostUpdate]
  split
  · exact reply_keepsLeaves _ _ _ s
  · have h := (appendEntry_keepsLeaves (hostEntry tag a) s).trans (lightActivity_keepsLeaves _)
    exact h.trans ((reply_keepsLeaves code tag .accepted _).trans ((walk_keepsLeaves _).trans (engineNotify_keepsLeaves _)))

theorem cancelOnLane_keepsLeaves (tag n : Nat) (s : State) : KeepsLeaves s (cancelOnLane tag n s) := by
  have h := (freeLane_keepsLeaves false n s).trans ((reply_keepsLeaves 0x31 tag .ok _).trans
    (raise_keepsLeaves (.updateDone tag .cancelled (s.lane n).promoted) _))
  have h' := h.trans (KeepsLeaves.ite ((s.lane n).state = .driving)
    (fun _ => addUncertain_keepsLeaves (s.lane n).rect _) fun _ => .refl _)
  exact h'.trans ((walk_keepsLeaves _).trans (engineNotify_keepsLeaves _))

/-- A use of a slot and of a source ends. -/
theorem unuse_keepsLeaves (slot : Nat) (src : Source) (s : State) : KeepsLeaves s (unuseSource src (unuseSlot slot s)) :=
  (onSlot_keepsLeaves slot _ s).trans (unuseSource_keepsLeaves src _)

theorem cancelEntry_keepsLeaves (tag : Nat) (e : PendingEntry) (rest : List PendingEntry) (s : State) :
    KeepsLeaves s (cancelEntry tag e rest s) := by
  have h := (onEngine_keepsLeaves (fun g => { g with pending := rest }) s).trans (unuse_keepsLeaves e.slot e.source _)
  exact h.trans ((reply_keepsLeaves _ _ _ _).trans ((raise_keepsLeaves _ _).trans ((walk_keepsLeaves _).trans
    (engineNotify_keepsLeaves _))))

theorem ownUpdateCancel_keepsLeaves (tag : Nat) (s : State) : KeepsLeaves s (ownUpdateCancel tag s) := by
  rw [ownUpdateCancel]
  split
  · exact cancelOnLane_keepsLeaves tag _ s
  · split
    · exact cancelEntry_keepsLeaves tag _ _ s
    · exact reply_keepsLeaves _ _ _ s

theorem ownTileTarget_keepsLeaves (b : TileBody) (s : State) : KeepsLeaves s (ownTileTarget b s) := by
  rw [ownTileTarget]
  split
  · exact raise_keepsLeaves _ s
  · cases b <;> exact .of_cache rfl

/-! ### The leaf commands -/

theorem ownLeafClose_keepsLeaves (tag n : Nat) (s : State) : KeepsLeaves s (ownLeafClose tag n s) := by
  refine .ite _ (fun _ => reply_keepsLeaves _ _ _ s) fun _ => ?_
  split
  · exact reply_keepsLeaves _ _ _ s
  · refine .ite _ (fun _ => ?_) fun _ => reply_keepsLeaves _ _ _ s
    exact (withLeaf_keepsLeaves n (fun l => { l with mode := .ready }) s (fun _ => rfl) nofun).trans (reply_keepsLeaves _ _ _ _)

theorem ownLeafDrop_keepsLeaves (tag n : Nat) (s : State) : KeepsLeaves s (ownLeafDrop tag n s) := by
  refine .ite _ (fun _ => reply_keepsLeaves _ _ _ s) fun _ => ?_
  split
  · exact reply_keepsLeaves _ _ _ s
  · exact .ite _ (fun _ => reply_keepsLeaves _ _ _ s) fun _ => (removeLeaf_keepsLeaves _ s).trans (reply_keepsLeaves _ _ _ _)

theorem ownTileLeaf_keepsLeaves (n : Nat) (r : Rect) (pixels : List Byte) (s : State) : KeepsLeaves s (ownTileLeaf n r pixels s) := by
  rw [ownTileLeaf]
  split
  · exact raise_keepsLeaves _ s
  · split
    · exact .refl s
    · exact .of_cache rfl

theorem ownShowLeaf_keepsLeaves (tag : Nat) (a : ShowLeafArgs) (s : State) : KeepsLeaves s (ownShowLeaf tag a s) := by
  rw [ownShowLeaf]
  split
  · exact reply_keepsLeaves _ _ _ s
  · exact hostUpdate_keepsLeaves _ _ _ s

theorem ownDeclare_keepsLeaves (tag : Nat) (a : ShowLeafArgs) (s : State) : KeepsLeaves s (ownDeclare tag a s) :=
  .ite _ (fun _ => reply_keepsLeaves _ _ _ s) fun _ => .ite _ (fun _ => reply_keepsLeaves _ _ _ s) fun _ =>
    .ite _ (fun _ => reply_keepsLeaves _ _ _ s) fun _ => (showLeaf_keepsLeaves _ s).trans (reply_keepsLeaves _ _ _ _)

/-! ### Rails, budget, light and the link -/

theorem ownRailSetup_keepsLeaves (tag : Nat) (a : RailArgs) (s : State) : KeepsLeaves s (ownRailSetup tag a s) :=
  .ite _ (fun _ => reply_keepsLeaves _ _ _ s) fun _ => (onRail_keepsLeaves _ s).trans (reply_keepsLeaves _ _ _ _)

theorem ownRailClear_keepsLeaves (tag : Nat) (s : State) : KeepsLeaves s (ownRailClear tag s) := by
  refine .ite _ (fun _ => reply_keepsLeaves _ _ _ s) fun _ => .ite _ (fun _ => reply_keepsLeaves _ _ _ s) fun _ => ?_
  have h := (onRail_keepsLeaves (fun r => { r with cause := none }) s).trans (setRail_keepsLeaves .off _)
  exact h.trans ((reply_keepsLeaves _ _ _ _).trans ((walk_keepsLeaves _).trans (engineNotify_keepsLeaves _)))

theorem ownBudgetSetup_keepsLeaves (tag : Nat) (a : BudgetArgs) (s : State) : KeepsLeaves s (ownBudgetSetup tag a s) :=
  .ite _ (fun _ => reply_keepsLeaves _ _ _ s) fun _ => .ite _ (fun _ => reply_keepsLeaves _ _ _ s) fun _ =>
    (rebudget_keepsLeaves _ s).trans (reply_keepsLeaves _ _ _ _)

theorem ownLightSetup_keepsLeaves (tag : Nat) (a : LightSetupArgs) (s : State) : KeepsLeaves s (ownLightSetup tag a s) :=
  .ite _ (fun _ => reply_keepsLeaves _ _ _ s) fun _ => (lightEvent_keepsLeaves _ s).trans
    ((setFloor_keepsLeaves _ _).trans (reply_keepsLeaves _ _ _ _))

theorem ownUnknown_keepsLeaves (b : UnknownBody) (s : State) : KeepsLeaves s (ownUnknown b s) := by
  cases b with
  | short => exact reply_keepsLeaves _ _ _ s
  | code c t => exact reply_keepsLeaves _ _ _ s

theorem discardWrite_keepsLeaves (c : LinkErrorCause) (s : State) : KeepsLeaves s (discardWrite c s) :=
  (onLink_keepsLeaves (fun l => l.endWrite .ignored) s).trans (raise_keepsLeaves _ _)

theorem writeByte_keepsLeaves (b : Byte) (s : State) : KeepsLeaves s (writeByte b s) := by
  simp only [writeByte]
  split
  · split
    · exact .of_cache rfl
    · exact discardWrite_keepsLeaves _ s
    · exact .of_cache rfl
  all_goals exact .refl s

theorem statusReadOut_keepsLeaves (r : StatusReply) (s : State) : KeepsLeaves s (statusReadOut r s) :=
  (onLink_keepsLeaves (fun l => { l with overflow := l.overflow.readOut r.link.overflow r.marks.overflow }) s).trans
    ((onBudget_keepsLeaves (fun b => { b with budgetOver := b.budgetOver.readOut r.budget.budgetOver r.marks.budgetOver }) _).trans
      ((onWave_keepsLeaves _ _).trans (onRadio_keepsLeaves _ _)))

theorem messageReadOut_keepsLeaves (e : Entry) (queued : Bool) (s : State) : KeepsLeaves s (messageReadOut e queued s) := by
  have hqueue : KeepsLeaves s (if queued then recount (s.onLink (fun l => { l with queue := l.queue.tail })) else s) :=
    .ite _ (fun _ => (onLink_keepsLeaves _ s).trans (recount_keepsLeaves _)) fun _ => .refl s
  cases e with
  | report r => exact hqueue
  | reply r =>
    cases h : r.state <;> simp only [messageReadOut, h]
    case status => exact hqueue.trans (statusReadOut_keepsLeaves _ _)
    all_goals exact hqueue

theorem releaseEffect_keepsLeaves (t : Transaction) (whole : Bool) (s : State) : KeepsLeaves s (releaseEffect t whole s) := by
  unfold releaseEffect
  split
  · exact raise_keepsLeaves _ s
  · exact .ite _ (fun _ => messageReadOut_keepsLeaves _ _ s) fun _ => .refl s
  · exact .ite _ (fun _ => commitChunk_keepsLeaves _ s) fun _ => .refl s
  all_goals exact .refl s

/-! ### The stream commands -/

theorem ownStreamOpen_keepsLeaves (tag : Nat) (a : StreamOpenArgs) (s : State) : KeepsLeaves s (ownStreamOpen tag a s) := by
  refine .ite _ (fun _ => reply_keepsLeaves _ _ _ s) fun _ => .ite _ (fun _ => reply_keepsLeaves _ _ _ s) fun _ => ?_
  split
  · exact reply_keepsLeaves _ _ _ s
  next n _ =>
    have h := (onStream_keepsLeaves (fun t => { t with records := t.records.map (fun r => r.loseId a.id) }) s).trans
      (onRecord_keepsLeaves n (fun _ => openedRecord a) _)
    exact h.trans ((handSignals_keepsLeaves _).trans (reply_keepsLeaves _ _ _ _))

theorem ownSegmentAdd_keepsLeaves (tag : Nat) (a : SegmentAddArgs) (s : State) : KeepsLeaves s (ownSegmentAdd tag a s) := by
  refine .ite _ (fun _ => reply_keepsLeaves _ _ _ s) fun _ => ?_
  split
  · exact reply_keepsLeaves _ _ _ s
  · exact .ite _ (fun _ => reply_keepsLeaves _ _ _ s) fun _ => .ite _ (fun _ => reply_keepsLeaves _ _ _ s) fun _ =>
      .ite _ (fun _ => reply_keepsLeaves _ _ _ s) fun _ => (onRecord_keepsLeaves _ _ s).trans (reply_keepsLeaves _ _ _ _)

theorem withStream_keepsLeaves (code tag id : Nat) (f : Nat → State → State) (s : State) (h : ∀ n, KeepsLeaves s (f n s)) :
    KeepsLeaves s (withStream code tag id f s) := by
  refine .ite _ (fun _ => reply_keepsLeaves _ _ _ s) fun _ => ?_
  split
  · exact reply_keepsLeaves _ _ _ s
  · exact h _

/-- A record changes, the signals are formed afresh, and the command is answered. -/
theorem answerSignals_keepsLeaves (code tag n : Nat) (f : StreamRecord → StreamRecord) (s : State) :
    KeepsLeaves s (reply code tag .ok (handSignals (onRecord n f s))) :=
  (onRecord_keepsLeaves n f s).trans ((handSignals_keepsLeaves _).trans (reply_keepsLeaves _ _ _ _))

theorem pauseByHost_keepsLeaves (tag n : Nat) (s : State) : KeepsLeaves s (pauseByHost tag n s) := by
  rw [pauseByHost]
  split
  · exact answerSignals_keepsLeaves _ _ _ _ s
  · exact answerSignals_keepsLeaves _ _ _ _ s
  · exact .ite _ (fun _ => reply_keepsLeaves _ _ _ s) fun _ => answerSignals_keepsLeaves _ _ _ _ s
  all_goals exact reply_keepsLeaves _ _ _ s

theorem resumeByHost_keepsLeaves (tag : Nat) (q : Option Nat) (n : Nat) (s : State) : KeepsLeaves s (resumeByHost tag q n s) := by
  rw [resumeByHost]
  split
  · exact .ite _ (fun _ => reply_keepsLeaves _ _ _ s) fun _ => answerSignals_keepsLeaves _ _ _ _ s
  · exact .ite _ (fun _ => reply_keepsLeaves _ _ _ s) fun _ => answerSignals_keepsLeaves _ _ _ _ s
  · exact .ite _ (fun _ => reply_keepsLeaves _ _ _ s) fun _ => answerSignals_keepsLeaves _ _ _ _ s
  all_goals exact reply_keepsLeaves _ _ _ s

/-- A change outside the page cache, and a reply. -/
theorem SameExcept.replied_keepsLeaves {bs : List Block} {s t : State} (h : SameExcept bs s t) (code tag : Nat) (st : Status)
    (hb : bs.contains .cache = false) : KeepsLeaves s (reply code tag st t) :=
  (h.keepsLeaves hb).trans (reply_keepsLeaves code tag st t)

theorem replyWith_keepsLeaves (code tag : Nat) (st : Status) (d : ReplyState) (s : State) :
    KeepsLeaves s (replyWith code tag st d s) := .of_cache rfl

theorem ownStreamQuery_keepsLeaves (tag id : Nat) (s : State) : KeepsLeaves s (ownStreamQuery tag id s) := by
  refine .ite _ (fun _ => reply_keepsLeaves _ _ _ s) fun _ => ?_
  split
  · exact reply_keepsLeaves _ _ _ s
  · exact replyWith_keepsLeaves _ _ _ _ s

/-! ### Power commands and resets -/

theorem ownDoze_keepsLeaves (tag : Nat) (d : Option Nat) (s : State) : KeepsLeaves s (ownDoze tag d s) := by
  have hdelay := (onPower_keepsLeaves (fun q => { q with delay := givenOr q.delay (clampNat 1 255) d }) s)
  simp only [ownDoze]
  split
  · have hdoze := (onPower_keepsLeaves (fun q => { q with mode := .doze }) (s.onPower (fun q =>
      { q with delay := givenOr q.delay (clampNat 1 255) d }))).trans ((handMode_frame _).keepsLeaves rfl)
    exact hdelay.trans (hdoze.trans ((onPower_keepsLeaves PowerState.recheckDoze _).trans (reply_keepsLeaves _ _ _ _)))
  all_goals exact hdelay.trans (reply_keepsLeaves _ _ _ _)

theorem ownWakeMask_keepsLeaves (tag : Nat) (ks : List Nat) (s : State) : KeepsLeaves s (ownWakeMask tag ks s) :=
  .ite _ (fun _ => ((onPower_keepsLeaves _ s).trans (recount_keepsLeaves _)).trans (reply_keepsLeaves _ _ _ _))
    fun _ => reply_keepsLeaves _ _ _ s

theorem resetLane_keepsLeaves (n : Nat) (s : State) : KeepsLeaves s (resetLane n s) := by
  refine .ite _ (fun _ => .refl s) fun _ => (freeLane_keepsLeaves false n s).trans ?_
  split
  · exact raise_keepsLeaves _ _
  · exact .refl _

theorem resetEntry_keepsLeaves (e : PendingEntry) (s : State) : KeepsLeaves s (resetEntry e s) := by
  have h := unuse_keepsLeaves e.slot e.source s
  unfold resetEntry
  split
  · exact h.trans (raise_keepsLeaves _ _)
  · exact h

theorem resetEngine_keepsLeaves (s : State) : KeepsLeaves s (resetEngine s) := by
  have hlanes := eachLane_keepsLeaves resetLane resetLane_keepsLeaves s
  have hpending := hlanes.trans (onEngine_keepsLeaves (fun g => { g with pending := [] }) _)
  have hentries := hpending.trans (foldl_keepsLeaves (fun s e => resetEntry e s) (fun s e => resetEntry_keepsLeaves e s)
    s.engine.pending _)
  have hadd := hentries.trans (foldl_keepsLeaves (fun s r => addUncertain r s) (fun s r => addUncertain_keepsLeaves r s)
    (drivingRects s.engine) _)
  unfold resetEngine
  exact hadd.trans (stopScan_keepsLeaves _)

theorem resetCache_keepsLeaves (s : State) : KeepsLeaves s (resetCache s) := by
  have hgone := foldl_keepsLeaves (fun s l => removeLeaf l s) (fun s l => removeLeaf_keepsLeaves l s)
    (s.cache.leaves.filter (fun l => l.mode = .filling)) s
  exact (hgone.trans (showNone_keepsLeaves _)).trans (.of_records rfl rfl)

theorem resetStreams_keepsLeaves (s : State) : KeepsLeaves s (resetStreams s) := by
  unfold resetStreams
  exact (releaseBlocks_keepsLeaves _ s).trans ((onStream_keepsLeaves _ _).trans ((onRadio_keepsLeaves _ _).trans
    ((onLink_keepsLeaves _ _).trans (handSignals_keepsLeaves _))))

theorem emptyQueue_keepsLeaves (s : State) : KeepsLeaves s (emptyQueue s) := .of_cache rfl

theorem resetAll_keepsLeaves (tag : Nat) (s : State) : KeepsLeaves s (resetAll tag s) := by
  have hengine := ((emptyQueue_keepsLeaves s).trans (reply_keepsLeaves 0xB4 tag .ok _)).trans
    ((abandonLoad_keepsLeaves _).trans (resetEngine_keepsLeaves _))
  have hports := (hengine.trans (resetCache_keepsLeaves _)).trans ((onKeys_keepsLeaves resetKeys _).trans
    (onRadio_keepsLeaves resetRadio _))
  exact hports.trans ((resetStreams_keepsLeaves _).trans (engineNotify_keepsLeaves _))

theorem announceReset_keepsLeaves (k : ResetKind) (s : State) : KeepsLeaves s (announceReset k s) :=
  (raise_keepsLeaves _ s).trans (.ite _ (fun _ => reportLowBattery_keepsLeaves _) fun _ => .refl _)

/-- Power-on forgets every leaf (R185). -/
theorem freshState_leavesSound (inputs : InputLevels) (s : State) : (freshState inputs s).leavesSound := by
  have hleaves : (freshState inputs s).cache.leaves = [] := rfl
  simp [State.leavesSound, hleaves]

theorem powerOn_keepsLeaves (inputs : InputLevels) (s : State) : KeepsLeaves s (announceReset .powerOn (freshState inputs s)) :=
  fun _ => announceReset_keepsLeaves .powerOn _ (freshState_leavesSound inputs s)

theorem pinReset_keepsLeaves (inputs : InputLevels) (s : State) : KeepsLeaves s
    (announceReset .pin ((drivingRects s.engine).foldl (fun t r => addUncertain r t) (pinState inputs s))) := by
  have hpin : KeepsLeaves (freshState inputs s) (pinState inputs s) := .of_cache rfl
  have hadd := foldl_keepsLeaves (fun t r => addUncertain r t) (fun t r => addUncertain_keepsLeaves r t)
    (drivingRects s.engine) (pinState inputs s)
  exact fun _ => announceReset_keepsLeaves .pin _ (hadd (hpin (freshState_leavesSound inputs s)))

/-! ### Every row -/

/-- A row that leaves the leaf records sound. -/
def RowKeepsLeaves (s : State) (o : Host.Outcome State Fault Refusal) : Prop := ∀ t, o = .next t → KeepsLeaves s t

theorem KeepsLeaves.row {s t : State} (h : KeepsLeaves s t) : RowKeepsLeaves s (.next t) := by
  rintro u ⟨⟩; exact h

theorem RowKeepsLeaves.of_cache {s t : State} (h : t.cache = s.cache) : RowKeepsLeaves s (.next t) := (KeepsLeaves.of_cache h).row

theorem RowKeepsLeaves.command {α : Type} {i : Instr} {code tag : Nat} {b : Body α} {owner : α → State → State} {s : State}
    (h : ∀ a s, KeepsLeaves s (owner a s)) : RowKeepsLeaves s (.next (takeCommand i code tag b owner s)) :=
  (takeCommand_keepsLeaves i code tag b owner s h).row

theorem RowKeepsLeaves.packet {i : Instr} {owner : State → State} {s : State} (h : ∀ s, KeepsLeaves s (owner s)) :
    RowKeepsLeaves s (.next (takePacket i owner s)) := (takePacket_keepsLeaves i owner s h).row

/-- An event that goes by its own condition, and changes nothing otherwise. -/
theorem RowKeepsLeaves.ite {s t : State} (c : Prop) [Decidable c] (h : KeepsLeaves s t) :
    RowKeepsLeaves s (.next (if c then t else s)) := (KeepsLeaves.ite c (fun _ => h) fun _ => .refl s).row

theorem RowKeepsLeaves.unless {s t : State} (c : Prop) [Decidable c] (h : KeepsLeaves s t) :
    RowKeepsLeaves s (.next (if c then s else t)) := (KeepsLeaves.ite c (fun _ => .refl s) fun _ => h).row

theorem execWaveAbort_keepsLeaves (tag : Nat) (b : Body Unit) (s : State) : RowKeepsLeaves s (execWaveAbort tag b s) := by
  refine .command fun _ s => ?_
  split
  · exact reply_keepsLeaves _ _ _ s
  · exact (abandonLoad_keepsLeaves s).trans (reply_keepsLeaves _ _ _ _)

theorem execCacheSetup_keepsLeaves (tag : Nat) (b : Body CacheArgs) (s : State) : RowKeepsLeaves s (execCacheSetup tag b s) :=
  .command fun _ s => .ite _ (fun _ => (onCache_keepsLeaves _ s rfl rfl).trans (reply_keepsLeaves _ _ _ _))
    fun _ => reply_keepsLeaves _ _ _ s

theorem execLightCurve_keepsLeaves (tag : Nat) (b : Body (List Nat)) (s : State) : RowKeepsLeaves s (execLightCurve tag b s) := by
  refine .command fun ps s => ?_
  split
  · exact reply_keepsLeaves _ _ _ s
  · split
    · exact reply_keepsLeaves _ _ _ s
    · exact (lightEvent_keepsLeaves _ s).trans (reply_keepsLeaves _ _ _ _)

theorem execStreamPause_keepsLeaves (tag : Nat) (b : Body Nat) (s : State) : RowKeepsLeaves s (execStreamPause tag b s) :=
  .command fun _ s => withStream_keepsLeaves _ _ _ _ s fun n => pauseByHost_keepsLeaves tag n s

theorem execStreamResume_keepsLeaves (tag : Nat) (b : Body ResumeArgs) (s : State) :
    RowKeepsLeaves s (execStreamResume tag b s) :=
  .command fun _ s => .ite _ (fun _ => reply_keepsLeaves _ _ _ s) fun _ =>
    withStream_keepsLeaves _ _ _ _ s fun n => resumeByHost_keepsLeaves tag _ n s

theorem execStreamClose_keepsLeaves (tag : Nat) (b : Body Nat) (s : State) : RowKeepsLeaves s (execStreamClose tag b s) :=
  .command fun _ s => withStream_keepsLeaves _ _ _ _ s fun n => (closeStream_keepsLeaves n s).trans (reply_keepsLeaves _ _ _ _)

theorem execDrainSelect_keepsLeaves (tag : Nat) (b : Body Nat) (s : State) : RowKeepsLeaves s (execDrainSelect tag b s) :=
  .command fun _ s => withStream_keepsLeaves _ _ _ _ s fun _ => (onLink_frame _ s).replied_keepsLeaves _ _ _ rfl

theorem execSetupEnd_keepsLeaves (tag : Nat) (b : Body Unit) (s : State) : RowKeepsLeaves s (execSetupEnd tag b s) :=
  .command fun _ s => .ite _ (fun _ => reply_keepsLeaves _ _ _ s) fun _ => (onLink_frame _ s).replied_keepsLeaves _ _ _ rfl

theorem execEngineReset_keepsLeaves (tag : Nat) (b : Body Unit) (s : State) : RowKeepsLeaves s (execEngineReset tag b s) := by
  refine KeepsLeaves.row ?_
  cases b with
  | fields a => exact takePacket_keepsLeaves _ _ s (resetAll_keepsLeaves tag)
  | badLength => exact takeCommand_keepsLeaves _ _ _ _ _ s fun _ => resetAll_keepsLeaves tag
  | badParam => exact takeCommand_keepsLeaves _ _ _ _ _ s fun _ => resetAll_keepsLeaves tag

theorem execWrite_keepsLeaves (bytes : List Byte) (s : State) : RowKeepsLeaves s (execWrite bytes s) := by
  have hbegin : KeepsLeaves s (if s.link.transaction = .begun then beginWrite s else s) :=
    .ite _ (fun _ => .ite _ (fun _ => discardWrite_keepsLeaves _ s) fun _ => .of_cache rfl) fun _ => .refl s
  exact (hbegin.trans (foldl_keepsLeaves _ (fun s b => writeByte_keepsLeaves b s) bytes _)).row

theorem execChipSelectAssert_keepsLeaves (s : State) : RowKeepsLeaves s (execChipSelectAssert s) :=
  .ite _ ((linkNotice_keepsLeaves s).trans (onLink_keepsLeaves _ _))

theorem execReadMessage_keepsLeaves (s : State) : RowKeepsLeaves s (execReadMessage s) :=
  (KeepsLeaves.ite _ (fun _ => (onLink_keepsLeaves _ s)) fun _ =>
    .ite _ (fun _ => (onLink_keepsLeaves _ s)) fun _ => .refl s).row

theorem execReadDrain_keepsLeaves (s : State) : RowKeepsLeaves s (execReadDrain s) :=
  (KeepsLeaves.ite _ (fun _ => (onLink_keepsLeaves _ s)) fun _ =>
    .ite _ (fun _ => (onLink_keepsLeaves _ s)) fun _ => .refl s).row

theorem execVoidTransaction_keepsLeaves (s : State) : RowKeepsLeaves s (execVoidTransaction s) :=
  .ite _ ((onLink_keepsLeaves _ s).trans (raise_keepsLeaves _ _))

theorem execChipSelectRelease_keepsLeaves (whole : Bool) (s : State) : RowKeepsLeaves s (execChipSelectRelease whole s) :=
  ((onLink_keepsLeaves (fun l => l.endWrite .none) s).trans (releaseEffect_keepsLeaves _ whole _)).row

theorem execRadioCharacter_keepsLeaves (start mark : BitSamples) (data : Vector BitSamples 8) (s : State) :
    RowKeepsLeaves s (execRadioCharacter start mark data s) :=
  .ite _ ((onRadio_keepsLeaves (fun r => { r with receiver := .ready }) s).trans
    ((KeepsLeaves.ite _ (fun _ => radioError_keepsLeaves _ _ _) fun _ => .refl _).trans (placeChar_keepsLeaves _ _ _)))

theorem execRadioLineReturn_keepsLeaves (s : State) : RowKeepsLeaves s (execRadioLineReturn s) :=
  .ite _ ((onRadio_keepsLeaves (fun r => { r with receiver := .ready }) s).trans
    ((radioError_keepsLeaves _ _ _).trans (placeNote_keepsLeaves _ _)))

theorem execRadioBreak_keepsLeaves (s : State) : RowKeepsLeaves s (execRadioBreak s) :=
  .ite _ ((onRadio_keepsLeaves (fun r => { r with receiver := .seekHigh, breakHeld := true }) s).trans
    ((countRadio_keepsLeaves _ _).trans (placeNote_keepsLeaves _ _)))

theorem execFifoTake_keepsLeaves (s : State) : RowKeepsLeaves s (execFifoTake s) := by
  refine .unless _ ?_
  split
  · exact .refl s
  · exact takeEntryAt_keepsLeaves _ _ s

theorem execRadioBreakWake_keepsLeaves (s : State) : RowKeepsLeaves s (execRadioBreakWake s) :=
  .ite _ ((onRadio_keepsLeaves (fun r => { r with watching := false, breakHeld := true }) s).trans
    ((countRadio_keepsLeaves _ _).trans ((countRadio_keepsLeaves _ _).trans (beginWaking_keepsLeaves _ _))))

theorem execPayloadWriteDone_keepsLeaves (s : State) : RowKeepsLeaves s (execPayloadWriteDone s) := by
  refine KeepsLeaves.row ?_
  split
  · exact .refl s
  · exact (onMem_keepsLeaves _ s).trans ((onRecord_keepsLeaves _ (fun r => { r with flight := none }) _).trans
      (lateAnswer_keepsLeaves _ _))

theorem execTempSample_keepsLeaves (reading : Int) (s : State) : RowKeepsLeaves s (execTempSample reading s) :=
  .unless _ ((takeReading_keepsLeaves reading s).trans ((answerHeld_keepsLeaves _).trans (engineNotify_keepsLeaves _)))

theorem execPreparingEnd_keepsLeaves (n : Nat) (s : State) : RowKeepsLeaves s (execPreparingEnd n s) :=
  .ite _ ((onLane_keepsLeaves n _ s).trans ((askBand_keepsLeaves n _).trans (engineNotify_keepsLeaves _)))

theorem execPowerGoodArrive_keepsLeaves (s : State) : RowKeepsLeaves s (execPowerGoodArrive s) :=
  .unless _ ((onRail_keepsLeaves (fun r => { r with powerGood := true }) s).trans
    (.ite _ (fun _ => (endRise_keepsLeaves _).trans (engineNotify_keepsLeaves _)) fun _ => .refl _))

theorem execPowerGoodLost_keepsLeaves (s : State) : RowKeepsLeaves s (execPowerGoodLost s) :=
  .unless _ ((onRail_keepsLeaves (fun r => { r with powerGood := false }) s).trans
    (.ite _ (fun _ => enterFault_keepsLeaves _ _) fun _ => .refl _))

theorem execLowbatChange_keepsLeaves (asserted : Bool) (s : State) : RowKeepsLeaves s (execLowbatChange asserted s) :=
  .unless _ ((rebudget_keepsLeaves (fun b => { b with lowbat := asserted }) s).trans
    (.ite _ (fun _ => (onBudget_keepsLeaves _ _)) fun _ => .ite _ (fun _ => reportLowBattery_keepsLeaves _) fun _ =>
      (onBudget_keepsLeaves _ _)))

theorem execDebounceExpire_keepsLeaves (k : Nat) (s : State) : RowKeepsLeaves s (execDebounceExpire k s) := by
  refine KeepsLeaves.row ?_
  split
  · exact .refl s
  · exact acceptLevel_keepsLeaves k _ s

theorem exec_keepsLeaves (i : Instr) (s : State) : RowKeepsLeaves s (exec i s) := by
  cases i with
  | panelSetup tag b => exact .command (ownPanelSetup_keepsLeaves tag)
  | poolSetup tag b => exact .command (ownPoolSetup_keepsLeaves tag)
  | waveLoad tag b => exact .command (ownWaveLoad_keepsLeaves tag)
  | waveAbort tag b => exact execWaveAbort_keepsLeaves tag b s
  | waveDrop tag b => exact .command (ownWaveDrop_keepsLeaves tag)
  | tempSetup tag b => exact .command fun _ s => (onWave_frame _ s).replied_keepsLeaves _ _ _ rfl
  | update tag b => exact .command (hostUpdate_keepsLeaves _ tag)
  | updateCancel tag b => exact .command fun _ => ownUpdateCancel_keepsLeaves tag
  | scanSetup tag b => exact .command fun _ s => (onEngine_frame _ s).replied_keepsLeaves _ _ _ rfl
  | railSetup tag b => exact .command (ownRailSetup_keepsLeaves tag)
  | railClear tag b => exact .command fun _ => ownRailClear_keepsLeaves tag
  | budgetSetup tag b => exact .command (ownBudgetSetup_keepsLeaves tag)
  | leafFill tag b => exact .command (ownLeafFill_keepsLeaves tag)
  | leafClose tag b => exact .command (ownLeafClose_keepsLeaves tag)
  | leafDrop tag b => exact .command (ownLeafDrop_keepsLeaves tag)
  | showLeaf tag b => exact .command (ownShowLeaf_keepsLeaves tag)
  | showLeafDeclare tag a => exact .command (ownDeclare_keepsLeaves tag)
  | cacheSetup tag b => exact execCacheSetup_keepsLeaves tag b s
  | cacheQuery tag b => exact .command fun _ s => replyWith_keepsLeaves _ _ _ _ s
  | keySetup tag b => exact .command fun _ s => .ite _ (fun _ => reply_keepsLeaves _ _ _ s) fun _ =>
      (onKeys_frame _ s).replied_keepsLeaves _ _ _ rfl
  | keyQuery tag b => exact .command fun _ s => replyWith_keepsLeaves _ _ _ _ s
  | lightCurve tag b => exact execLightCurve_keepsLeaves tag b s
  | lightSet tag b => exact .command fun _ s => (lightEvent_keepsLeaves _ s).trans (reply_keepsLeaves _ _ _ _)
  | lightSetup tag b => exact .command (ownLightSetup_keepsLeaves tag)
  | radioSetup tag b => exact .command fun _ s => (onRadio_frame _ s).replied_keepsLeaves _ _ _ rfl
  | streamOpen tag b => exact .command (ownStreamOpen_keepsLeaves tag)
  | segmentAdd tag b => exact .command (ownSegmentAdd_keepsLeaves tag)
  | streamPause tag b => exact execStreamPause_keepsLeaves tag b s
  | streamResume tag b => exact execStreamResume_keepsLeaves tag b s
  | streamClose tag b => exact execStreamClose_keepsLeaves tag b s
  | streamQuery tag b => exact .command (ownStreamQuery_keepsLeaves tag)
  | drainSelect tag b => exact execDrainSelect_keepsLeaves tag b s
  | doze tag b => exact .command (ownDoze_keepsLeaves tag)
  | sleep tag b => exact .command fun _ s => (settle_keepsLeaves true s).trans (reply_keepsLeaves _ _ _ _)
  | wakeMask tag b => exact .command fun _ s => ownWakeMask_keepsLeaves tag _ s
  | status tag b => exact .command fun _ s => replyWith_keepsLeaves _ _ _ _ s
  | identify tag b => exact .command fun _ s => replyWith_keepsLeaves _ _ _ _ s
  | linkSetup tag b => exact .command fun _ s => (onLink_frame _ s).replied_keepsLeaves _ _ _ rfl
  | setupEnd tag b => exact execSetupEnd_keepsLeaves tag b s
  | engineReset tag b => exact execEngineReset_keepsLeaves tag b s
  | unknownCommand b => exact .packet fun s => withReplyPlace_keepsLeaves _ s (ownUnknown_keepsLeaves b)
  | tileTarget b => exact .packet (ownTileTarget_keepsLeaves b)
  | tileLeaf leaf rect pixels => exact .packet (ownTileLeaf_keepsLeaves leaf rect pixels)
  | table body => exact .packet (ownTable_keepsLeaves body)
  | unknownPacketKind kind => exact .packet (raise_keepsLeaves _)
  | chipSelectAssert => exact execChipSelectAssert_keepsLeaves s
  | write bytes => exact execWrite_keepsLeaves bytes s
  | readMessage => exact execReadMessage_keepsLeaves s
  | readDrain => exact execReadDrain_keepsLeaves s
  | voidTransaction => exact execVoidTransaction_keepsLeaves s
  | chipSelectRelease whole => exact execChipSelectRelease_keepsLeaves whole s
  | linkStallExpire => exact .ite _ (discardWrite_keepsLeaves _ s)
  | radioCharacter start mark data => exact execRadioCharacter_keepsLeaves start mark data s
  | radioLineReturn => exact execRadioLineReturn_keepsLeaves s
  | radioBreak => exact execRadioBreak_keepsLeaves s
  | fifoTake => exact execFifoTake_keepsLeaves s
  | gapTimerExpire => exact .ite _ (dropFrame_keepsLeaves _ _ s)
  | radioBreakWake => exact execRadioBreakWake_keepsLeaves s
  | payloadWriteDone => exact execPayloadWriteDone_keepsLeaves s
  | stallTimerExpire record => exact .ite _ (pauseStream_keepsLeaves _ _ _ s)
  | tempSample reading => exact execTempSample_keepsLeaves reading s
  | preparingEnd lane => exact execPreparingEnd_keepsLeaves lane s
  | frameEvent => exact .ite _ ((runFrame_keepsLeaves s).trans (engineNotify_keepsLeaves _))
  | powerGoodArrive => exact execPowerGoodArrive_keepsLeaves s
  | powerGoodLost => exact execPowerGoodLost_keepsLeaves s
  | riseTimerExpire => exact .ite _ (enterFault_keepsLeaves _ s)
  | holdTimerExpire => exact .ite _ (startFall_keepsLeaves s)
  | fallTimerExpire => exact .ite _ ((endFall_keepsLeaves s).trans (engineNotify_keepsLeaves _))
  | lowbatChange asserted => exact execLowbatChange_keepsLeaves asserted s
  | keyInputChange key level => exact .ite _ (rawChanged_keepsLeaves key level s)
  | debounceExpire key => exact execDebounceExpire_keepsLeaves key s
  | keyHoldExpire key => exact .ite _ (repeatKey_keepsLeaves key s)
  | keyRepeatExpire key => exact .ite _ (repeatKey_keepsLeaves key s)
  | rampStep => exact .ite _ (lightEvent_keepsLeaves _ s)
  | dwellExpire => exact .ite _ (lightEvent_keepsLeaves _ s)
  | standbyDelayExpire => exact .ite _ (settle_keepsLeaves false s)
  | selfRefreshEntered => exact .unless _ (onPool_keepsLeaves _ s)
  | wakingComplete => exact .ite _ (completeWaking_keepsLeaves s)
  | powerOnReset inputs => exact (powerOn_keepsLeaves inputs s).row
  | pinReset inputs => exact (pinReset_keepsLeaves inputs s).row
  | breakEnd => exact .ite _ (onRadio_keepsLeaves _ s)

theorem step_keepsLeaves (s : State) : RowKeepsLeaves s (step s) := by
  rw [step]
  split
  · rw [idleStep]
    split
    · exact exec_keepsLeaves _ s
    · exact .of_cache rfl
  next i rest _ =>
    have hqueue : KeepsLeaves s { s with pending := rest } := .of_cache rfl
    exact fun t ht => hqueue.trans (exec_keepsLeaves i _ t ht)

/-- Settles O24: every row is made of parts that leave the records in their order, at most twelve of them, and none but the
current leaf SHOWN. -/
theorem leafRecordsStaySound : Obligations.LeafRecordsStaySound := fun s t hs ht => step_keepsLeaves s t ht hs

/-! ## SHOW_LEAF with the declare mark (R88, R90) -/

theorem leafInRange_iff (n : Nat) : leafInRange n = true ↔ n ≤ 16777215 := by
  rw [leafInRange]; exact decide_eq_true_iff

/-- A leaf with a record that is not FILLING may be shown (R88). -/
theorem showable_of_not_filling {c : CacheState} {n : Nat} {l : Leaf} (h : c.leaf n = some l) (hm : l.mode ≠ .filling) :
    c.showable n = true := by
  refine showable_of_leaf h ?_
  cases hl : l.mode with
  | filling => exact absurd hl hm
  | ready => exact .inl rfl
  | shown => exact .inr rfl

section
variable {tag : Nat} {a : ShowLeafArgs} {s : State}

theorem ownDeclare_badParam (h : 16777215 < a.leaf) : ownDeclare tag a s = reply 0x53 tag .badParam s := by
  have hrange : ¬leafInRange a.leaf = true := by rw [leafInRange_iff]; omega
  rw [ownDeclare, if_pos (by simpa using hrange)]

theorem ownDeclare_noSuch (h : a.leaf ≤ 16777215) (hgone : s.cache.showable a.leaf = false) :
    ownDeclare tag a s = reply 0x53 tag .noSuch s := by
  rw [ownDeclare, (leafInRange_iff _).2 h, if_neg (by simp), hgone, if_pos (by simp)]

theorem ownDeclare_busy (h : a.leaf ≤ 16777215) (hthere : s.cache.showable a.leaf = true) (hbusy : s.engine.idle = false) :
    ownDeclare tag a s = reply 0x53 tag .busy s := by
  rw [ownDeclare, (leafInRange_iff _).2 h, if_neg (by simp), hthere, if_neg (by simp), hbusy, if_pos (by simp)]

theorem ownDeclare_ok (h : a.leaf ≤ 16777215) (hthere : s.cache.showable a.leaf = true) (hidle : s.engine.idle = true) :
    ownDeclare tag a s = reply 0x53 tag .ok (s.onCache (fun c => c.showLeaf a.leaf)) := by
  rw [ownDeclare, (leafInRange_iff _).2 h, if_neg (by simp), hthere, if_neg (by simp), hidle, if_neg (by simp)]

end

/-- Settles O50, along the checks of R90 in their order. -/
theorem declaredLeafBecomesCurrent : Obligations.DeclaredLeafBecomesCurrent := by
  intro tag a s hs
  refine ⟨fun hout => ?_, fun hin hleaf => ?_, fun l hin hl hmode => ?_⟩
  · exact takeCommand_reply hs (ownDeclare_badParam (s := s.placed _) hout)
  · refine takeCommand_reply hs (ownDeclare_noSuch (s := s.placed _) hin (not_showable_of_leaf fun x hx => ?_))
    have hx : s.cache.leaf a.leaf = some x := hx
    rcases hleaf with hnone | ⟨l, hl, hmode⟩
    · rw [hnone] at hx; cases hx
    · rw [hl] at hx; cases hx; exact hmode
  · have hthere : s.cache.showable a.leaf = true := showable_of_not_filling hl hmode
    refine ⟨fun hbusy => takeCommand_reply hs (ownDeclare_busy (s := s.placed _) hin hthere ?_), fun hfree hpending => ?_⟩
    · rcases hbusy with ⟨n, -, hlane⟩ | hwaits
      · exact idle_of_busy (s := s) hlane
      · exact idle_of_pending (s := s) hwaits
    · have hidle : s.engine.idle = true := (engine_idle_iff s).2 ⟨hpending, hfree⟩
      refine takeCommand_reply hs ((ownDeclare_ok (s := s.placed _) hin hthere hidle).trans ?_)
      refine congrArg (reply 0x53 tag .ok) ?_
      rw [State.onCache, show (s.placed _).cache = s.cache from rfl, showLeaf_there hthere]
      rfl

/-! ## LEAF_CLOSE and LEAF_DROP (R86, R87) -/

section
variable {tag n : Nat} {l : Leaf} {s : State}

theorem ownLeafClose_badParam (h : 16777215 < n) : ownLeafClose tag n s = reply 0x51 tag .badParam s := by
  have hrange : ¬leafInRange n = true := by rw [leafInRange_iff]; omega
  rw [ownLeafClose, if_pos (by simpa using hrange)]

theorem ownLeafClose_noSuch (h : n ≤ 16777215) (hl : s.cache.leaf n = none) : ownLeafClose tag n s = reply 0x51 tag .noSuch s := by
  rw [ownLeafClose, (leafInRange_iff n).2 h, if_neg (by simp), hl]

theorem ownLeafClose_there (h : n ≤ 16777215) (hl : s.cache.leaf n = some l) : ownLeafClose tag n s =
    if l.mode = .filling then reply 0x51 tag .ok (s.onCache (fun c => c.withLeaf n (fun l => { l with mode := .ready })))
    else reply 0x51 tag .state s := by
  rw [ownLeafClose, (leafInRange_iff n).2 h, if_neg (by simp), hl]

theorem ownLeafDrop_badParam (h : 16777215 < n) : ownLeafDrop tag n s = reply 0x52 tag .badParam s := by
  have hrange : ¬leafInRange n = true := by rw [leafInRange_iff]; omega
  rw [ownLeafDrop, if_pos (by simpa using hrange)]

theorem ownLeafDrop_noSuch (h : n ≤ 16777215) (hl : s.cache.leaf n = none) : ownLeafDrop tag n s = reply 0x52 tag .noSuch s := by
  rw [ownLeafDrop, (leafInRange_iff n).2 h, if_neg (by simp), hl]

theorem ownLeafDrop_there (h : n ≤ 16777215) (hl : s.cache.leaf n = some l) : ownLeafDrop tag n s =
    if l.mode = .shown ∨ 0 < l.useCount then reply 0x52 tag .busy s else reply 0x52 tag .ok (removeLeaf l s) := by
  rw [ownLeafDrop, (leafInRange_iff n).2 h, if_neg (by simp), hl]
  simp only [Bool.or_eq_true, decide_eq_true_eq]

end

/-- Settles O47, along the checks of R86 and of R87. -/
theorem leafCloseAndDrop : Obligations.LeafCloseAndDrop := by
  refine ⟨fun tag n s hs => ⟨fun hout => ?_, fun hin hl => ?_, fun l hin hl hmode => ?_, fun l hin hl hmode => ?_⟩,
    fun tag n s hs => ⟨fun hout => ?_, fun hin hl => ?_, fun l hin hl huse => ?_, fun l hin hl hshown huse => ?_⟩⟩
  · exact takeCommand_reply hs (ownLeafClose_badParam (s := s.placed _) hout)
  · exact takeCommand_reply hs (ownLeafClose_noSuch (s := s.placed _) hin hl)
  · exact takeCommand_reply hs ((ownLeafClose_there (s := s.placed _) hin hl).trans (if_neg hmode))
  · refine takeCommand_reply hs ((ownLeafClose_there (s := s.placed _) hin hl).trans ((if_pos hmode).trans ?_))
    refine congrArg (reply 0x51 tag .ok) ?_
    simp only [State.onCache, CacheState.withLeaf, beq_iff_eq]
    rfl
  · exact takeCommand_reply hs (ownLeafDrop_badParam (s := s.placed _) hout)
  · exact takeCommand_reply hs (ownLeafDrop_noSuch (s := s.placed _) hin hl)
  · exact takeCommand_reply hs ((ownLeafDrop_there (s := s.placed _) hin hl).trans (if_pos huse))
  · have hidle : ¬(l.mode = .shown ∨ 0 < l.useCount) := by simp [hshown, huse]
    refine ⟨_, rfl, takeCommand_reply hs ((ownLeafDrop_there (s := s.placed _) hin hl).trans ((if_neg hidle).trans ?_))⟩
    have hnumber : l.number = n := (mem_of_leaf hl).2
    have hfilter : s.cache.leaves.filter (fun x => x.number != l.number) = s.cache.leaves.filter (fun x : Leaf => x.number ≠ n) :=
      List.filter_congr fun x _ => by rw [hnumber, decide_not]; rfl
    refine congrArg (reply 0x52 tag .ok) ?_
    rw [← hfilter]
    rfl

/-! ## Turns (R84, R91 to R94, R99) -/

/-! ### The order in which leaves are given up (R84, R99) -/

/-- `a` is given up before `b`, or is `b`: it lies farther from the anchor, or as far and is numbered higher. -/
def CacheState.goesFirst (c : CacheState) (a b : Leaf) : Prop :=
  c.distance b.number < c.distance a.number ∨ (c.distance b.number = c.distance a.number ∧ b.number ≤ a.number)

theorem goesFirst_trans {c : CacheState} {x y z : Leaf} (hxy : c.goesFirst x y) (hyz : c.goesFirst y z) : c.goesFirst x z := by
  unfold CacheState.goesFirst at *
  omega

theorem goesFirst_of_before {c : CacheState} {x y : Leaf} (h : c.before x y = true) : c.goesFirst x y := by
  simp only [CacheState.before, Bool.or_eq_true, Bool.and_eq_true, decide_eq_true_eq, beq_iff_eq] at h
  unfold CacheState.goesFirst
  omega

theorem goesFirst_of_not_before {c : CacheState} {x y : Leaf} (h : ¬c.before x y = true) : c.goesFirst y x := by
  simp only [CacheState.before, Bool.or_eq_true, Bool.and_eq_true, decide_eq_true_eq, beq_iff_eq] at h
  unfold CacheState.goesFirst
  omega

theorem insertVictim_sorted {c : CacheState} (l : Leaf) {ls : List Leaf} (h : ls.Pairwise c.goesFirst) :
    (insertVictim c l ls).Pairwise c.goesFirst := by
  induction ls with
  | nil => exact List.pairwise_singleton _ _
  | cons x xs ih =>
    obtain ⟨hx, hxs⟩ := List.pairwise_cons.1 h
    rw [insertVictim]
    split
    next hbefore =>
      refine List.pairwise_cons.2 ⟨fun y hy => ?_, h⟩
      have hlx := goesFirst_of_before hbefore
      rcases List.mem_cons.1 hy with rfl | hy
      · exact hlx
      · exact goesFirst_trans hlx (hx y hy)
    next hbefore =>
      refine List.pairwise_cons.2 ⟨fun y hy => ?_, ih hxs⟩
      rcases List.mem_cons.1 ((insertVictim_perm c l xs).mem_iff.1 hy) with rfl | hy
      · exact goesFirst_of_not_before hbefore
      · exact hx y hy

theorem victimOrder_sorted (c : CacheState) (ls : List Leaf) : (victimOrder c ls).Pairwise c.goesFirst := by
  induction ls with
  | nil => exact .nil
  | cons l ls ih => exact insertVictim_sorted l ih

theorem mem_victimOrder (c : CacheState) (ls : List Leaf) (v : Leaf) : v ∈ victimOrder c ls ↔ v ∈ ls := (victimOrder_perm c ls).mem_iff

/-- The first in the order of eviction goes before every other. -/
theorem victimOrder_head {c : CacheState} {ls : List Leaf} {v : Leaf} (h : (victimOrder c ls).head? = some v) :
    v ∈ ls ∧ ∀ l ∈ ls, c.goesFirst v l := by
  have hsorted := victimOrder_sorted c ls
  obtain ⟨rest, hrest⟩ := List.head?_eq_some_iff.1 h
  rw [hrest, List.pairwise_cons] at hsorted
  refine ⟨(mem_victimOrder c ls v).1 (hrest ▸ List.mem_cons_self), fun l hl => ?_⟩
  rw [← mem_victimOrder c, hrest, List.mem_cons] at hl
  rcases hl with rfl | hl
  · exact .inr ⟨rfl, le_rfl⟩
  · exact hsorted.1 l hl

/-- The leaves that may go for a staging block: READY with no use, and beyond the guard distance (R99). -/
theorem mem_stagingChoice (c : CacheState) (v : Leaf) : v ∈ c.leaves.filter (fun l => l.idle && !c.guarded l.number) ↔
    v ∈ c.leaves ∧ v.mode = .ready ∧ v.useCount = 0 ∧ c.guarded v.number = false := by
  simp only [List.mem_filter, Leaf.idle, Bool.and_eq_true, decide_eq_true_eq, Bool.not_eq_true', and_assoc]

theorem stagingVictim_some {c : CacheState} {v : Leaf} (h : c.stagingVictim = some v) :
    (v ∈ c.leaves ∧ v.mode = .ready ∧ v.useCount = 0 ∧ c.guarded v.number = false) ∧
      ∀ l ∈ c.leaves, l.mode = .ready → l.useCount = 0 → c.guarded l.number = false → c.goesFirst v l := by
  obtain ⟨hv, hfirst⟩ := victimOrder_head h
  exact ⟨(mem_stagingChoice c v).1 hv, fun l hl hmode huse hguard => hfirst l ((mem_stagingChoice c l).2 ⟨hl, hmode, huse, hguard⟩)⟩

theorem stagingVictim_none {c : CacheState} (h : c.stagingVictim = none) {l : Leaf} (hl : l ∈ c.leaves) (hmode : l.mode = .ready)
    (huse : l.useCount = 0) : c.guarded l.number = true := by
  by_contra hguard
  have hmem := (mem_stagingChoice c l).2 ⟨hl, hmode, huse, Bool.eq_false_iff.2 hguard⟩
  rw [CacheState.stagingVictim, List.head?_eq_none_iff] at h
  rw [← mem_victimOrder c, h] at hmem
  exact absurd hmem List.not_mem_nil

theorem guardDist_lt {c : CacheState} {n a : Nat} (h : c.guarded n = false) (ha : c.anchor = some a) :
    c.settings.guardDist < if a ≤ n then n - a else a - n := by
  simp only [CacheState.guarded, CacheState.distance, ha, decide_eq_false_iff_not, Nat.not_le] at h
  exact h

/-! ### A turn that is submitted (R93) -/

theorem withLeaf_leaf (c : CacheState) (n : Nat) (f : Leaf → Leaf) (hf : ∀ l, (f l).number = l.number) :
    (c.withLeaf n f).leaf n = (c.leaf n).map f := by
  have hnumber : (fun l : Leaf => l.number == n) ∘ (fun l => if l.number == n then f l else l) = fun l => l.number == n := by
    funext l
    simp only [Function.comp_apply]
    split
    · rw [hf]
    · rfl
  rw [CacheState.leaf, CacheState.withLeaf, List.find?_map, hnumber, CacheState.leaf]
  cases hl : c.leaves.find? (fun l => l.number == n) with
  | none => rfl
  | some l => rw [Option.map_some, Option.map_some, if_pos (List.find?_some (p := fun l : Leaf => l.number == n) hl)]

/-- The entry's leaf is in use once more. -/
theorem submitted_leaf (f : TurnFlight) (slot : Nat) (sel : Selection) (s : State) : (s.submitted f slot sel).cache.leaf f.leaf =
    (s.cache.leaf f.leaf).map (fun l => { l with useCount := l.useCount + 1 }) := by
  have hwalk : (walk (appendEntry (s.turnEntry f.leaf slot sel) s)).cache.leaves = (useSource (.leaf f.leaf) s).cache.leaves :=
    congrArg CacheState.leaves (((walk_frame _).2 .cache (by decide)).trans (appendEntry_cache _ s))
  have hleaves : (s.submitted f slot sel).cache.leaves = (useSource (.leaf f.leaf) s).cache.leaves :=
    (lightActivity_sameWork _).leaves.trans hwalk
  rw [CacheState.leaf, hleaves]
  exact withLeaf_leaf s.cache f.leaf _ fun _ => rfl

theorem submitted_flight (f : TurnFlight) (slot : Nat) (sel : Selection) (s : State) :
    (s.submitted f slot sel).cache.flight = some f := (lightActivity_sameWork _).flight

theorem submitted_queue (f : TurnFlight) (slot : Nat) (sel : Selection) (s : State) :
    (s.submitted f slot sel).link.queue = s.link.queue := by
  have hwalk : (walk (appendEntry (s.turnEntry f.leaf slot sel) s)).link = (appendEntry (s.turnEntry f.leaf slot sel) s).link :=
    (walk_frame _).2 .link (by decide)
  have happend : (appendEntry (s.turnEntry f.leaf slot sel) s).link = s.link := (appendEntry_frame _ s).2 .link (by decide)
  exact (lightActivity_sameWork _).queue.trans (congrArg LinkState.queue (hwalk.trans happend))

theorem submitted_mem (f : TurnFlight) (slot : Nat) (sel : Selection) (s : State) : (s.submitted f slot sel).mem = s.mem :=
  (lightActivity_sameWork _).mem.trans (walkFrom_mem _ [] (appendEntry (s.turnEntry f.leaf slot sel) s))

/-- A leaf with a record that is not FILLING passes the checks of a turn's source (R37, R39). -/
theorem leavesThere_of_not_filling {c : CacheState} {m : Nat} {l : Leaf} (h : c.leaf m = some l) (hmode : l.mode ≠ .filling) :
    c.leavesThere (.leaf m) none := by
  refine ⟨fun k hk => ?_, nofun⟩
  cases hk
  exact showable_of_not_filling h hmode

/-! ### The cases of a turn request (R91) -/

section
variable {d : TurnDir} {n m : Nat} {l : Leaf} {s : State}

theorem turnRequest_asleep (h : s.cache.sleepMark = true) : turnRequest d s = raise (.turnMiss d none .sleep) s := by
  rw [turnRequest, if_pos h]

theorem turnRequest_inFlight {f : TurnFlight} (h : s.cache.sleepMark = false) (hf : s.cache.flight = some f) :
    turnRequest d s = s.onCache (fun c => { c with deferred := joinDeferred d c.deferred }) := by
  rw [turnRequest, h, if_neg (by simp), hf]

theorem turnRequest_resolves (h : s.cache.sleepMark = false) (hf : s.cache.flight = none) : turnRequest d s =
    match s.cache.current with
    | none => raise (.turnMiss d none .noCurrent) s
    | some n => if s.cache.atEdge n d || (stepLeaf n d).isNone then raise (.turnEdge n d) s
      else takeTurnTo d ((stepLeaf n d).getD n) s := by
  rw [turnRequest, h, if_neg (by simp), hf]
  simp only [resolveTurn, h]
  rfl

theorem turnRequest_noCurrent (h : s.cache.sleepMark = false) (hf : s.cache.flight = none) (hc : s.cache.current = none) :
    turnRequest d s = raise (.turnMiss d none .noCurrent) s := by
  rw [turnRequest_resolves h hf, hc]

theorem turnRequest_edge (h : s.cache.sleepMark = false) (hf : s.cache.flight = none) (hc : s.cache.current = some n)
    (hedge : (∃ l, s.cache.leaf n = some l ∧ l.edge = some (edgeOf d)) ∨ stepLeaf n d = none) :
    turnRequest d s = raise (.turnEdge n d) s := by
  rw [turnRequest_resolves h hf, hc]
  refine if_pos ?_
  rw [Bool.or_eq_true, atEdge_iff, Option.isNone_iff_eq_none]
  exact hedge

theorem turnRequest_wants (h : s.cache.sleepMark = false) (hf : s.cache.flight = none) (hc : s.cache.current = some n)
    (hedge : ∀ l, s.cache.leaf n = some l → l.edge ≠ some (edgeOf d)) (hstep : stepLeaf n d = some m) :
    turnRequest d s = takeTurnTo d m s := by
  rw [turnRequest_resolves h hf, hc]
  refine (if_neg ?_).trans (by rw [hstep]; rfl)
  rw [Bool.or_eq_true, atEdge_iff, Option.isNone_iff_eq_none, hstep]
  rintro (⟨l, hl, hmark⟩ | hnone)
  · exact hedge l hl hmark
  · cases hnone

theorem takeTurnTo_absent (h : s.cache.leaf m = none) : takeTurnTo d m s = raise (.turnMiss d (some m) .absent) s := by
  rw [takeTurnTo, h]

theorem takeTurnTo_filling (h : s.cache.leaf m = some l) (hmode : l.mode = .filling) :
    takeTurnTo d m s = raise (.turnMiss d (some m) .filling) s := by
  rw [takeTurnTo, h]; exact if_pos hmode

theorem takeTurnTo_there (h : s.cache.leaf m = some l) (hmode : l.mode ≠ .filling) : takeTurnTo d m s = submitTurn d m s := by
  rw [takeTurnTo, h]; exact if_neg hmode

end

/-- What a turn to a leaf that is there comes to (R92, R93). -/
theorem takeTurnTo_choice {d : TurnDir} {m slot : Nat} {k : TurnKind} {sel : Selection} {l : Leaf} {s : State}
    (hl : s.cache.leaf m = some l) (hmode : l.mode ≠ .filling) (hchoice : s.cache.turnChoice l.turnSlot = (k, some slot, sel)) :
    takeTurnTo d m s = match lateCheck slot (.leaf m) none s with
      | some st => raise (.turnMiss d (some m) (missCause st)) s
      | none => s.submitted ⟨m, d, k⟩ slot sel :=
  (takeTurnTo_there hl hmode).trans (submitTurn_checked ((congrArg s.cache.turnChoice (leafSlot_some hl)).trans hchoice))

/-- Settles O51: the cases of R91 in their order, then the choices of R92 and the order of R84 and R99. -/
theorem turnsAreResolvedInOrder : Obligations.TurnsAreResolvedInOrder := by
  refine ⟨fun d s => ⟨turnRequest_asleep, fun f hs hf => turnRequest_inFlight hs hf, fun hs hf => ⟨turnRequest_noCurrent hs hf,
    fun n hc => ⟨turnRequest_edge hs hf hc, fun m hedge hstep => ?_⟩⟩⟩, fun c => ?_⟩
  · rw [turnRequest_wants hs hf hc hedge hstep]
    refine ⟨takeTurnTo_absent, fun l hl hmode => takeTurnTo_filling hl hmode, fun l hl hmode => ⟨fun k sel hchoice => ?_,
      fun k slot sel hchoice => ?_⟩⟩
    · rw [takeTurnTo_there hl hmode, submitTurn_slotless (by rw [leafSlot_some hl, hchoice])]
    · have hthere := leavesThere_of_not_filling hl hmode
      rw [takeTurnTo_choice hl hmode hchoice]
      refine ⟨fun hslot => ?_, fun hslot hrail => ?_, fun hslot hrail hfull => ?_, fun hslot hrail hroom => ?_⟩
      · rw [lateCheck_slot hslot]; rfl
      · rw [lateCheck_there hslot hthere, if_pos hrail]; rfl
      · rw [lateCheck_there hslot hthere, if_neg hrail, if_pos hfull]; rfl
      · rw [lateCheck_there hslot hthere, if_neg hrail, if_neg (by omega)]
        have hleaf := submitted_leaf ⟨m, d, k⟩ slot sel s
        rw [show (⟨m, d, k⟩ : TurnFlight).leaf = m from rfl, hl] at hleaf
        exact ⟨submitted_flight _ slot sel s, submitted_queue _ slot sel s, by rw [hleaf]; rfl,
          fun x _ => by rw [submitted_mem]⟩
  · refine ⟨fun slot h => if_pos h, fun n h => if_neg (by omega), fun h => if_neg (by omega), rfl, rfl, fun v hv => ?_,
      fun hv l => stagingVictim_none hv, mem_fillVictims c, fun n => victimOrder_sorted c _⟩
    obtain ⟨⟨hmem, hmode, huse, hguard⟩, hfirst⟩ := stagingVictim_some hv
    exact ⟨hmem, hmode, huse, fun a ha => guardDist_lt hguard ha, hfirst⟩

/-! ## LEAF_FILL (R12, R13, R83, R84) -/

/-! ### What goes and what it makes room for -/

/-- Several leaves are evicted, in order (R84). -/
def State.evicted (s : State) (vs : List Leaf) : State := vs.foldl (fun s l => removeLeaf l s) s

theorem evicted_cache (s : State) (vs : List Leaf) : (s.evicted vs).cache =
    { s.cache with leaves := s.cache.leaves.filter (fun x : Leaf => !(vs.map Leaf.number).contains x.number) } :=
  removeLeaves_leaves vs s

theorem evicted_frame (s : State) (vs : List Leaf) : SameExcept [.pool, .cache, .radio] s (s.evicted vs) :=
  foldl_frame _ (fun s l => removeLeaf_frame l s) vs s

theorem evicted_pool (vs : List Leaf) : ∀ s : State, (s.evicted vs).pool = vs.foldl (fun p v => p.release v.blocks) s.pool := by
  induction vs with
  | nil => exact fun _ => rfl
  | cons v vs ih => exact fun s => ih (removeLeaf v s)

theorem releases_geometry (vs : List Leaf) (p : PoolState) :
    (vs.foldl (fun p v => p.release v.blocks) p).geometry = p.geometry := by
  induction vs generalizing p with
  | nil => rfl
  | cons v vs ih => exact ih (p.release v.blocks)

theorem enoughVictims_enough {need free : Nat} (h : need ≤ free) (vs : List Leaf) : enoughVictims need free vs = [] := by
  cases vs with
  | nil => rfl
  | cons v vs => exact if_pos h

/-- The fewest leaves in the order of eviction whose blocks, with those FREE, are enough (R84). -/
theorem enoughVictims_fewest {need : Nat} {kept : List Leaf} (gone : List Leaf) : ∀ {free : Nat}, gone ≠ [] →
    need ≤ free + (gone.map (fun l => l.blocks.length)).sum →
    free + (gone.dropLast.map (fun l => l.blocks.length)).sum < need → enoughVictims need free (gone ++ kept) = gone := by
  induction gone with
  | nil => exact fun h => absurd rfl h
  | cons v gone ih =>
    intro free _ henough hfew
    have hwants : ¬need ≤ free := by omega
    rw [List.cons_append, enoughVictims, if_neg hwants]
    cases gone with
    | nil => rw [List.nil_append, enoughVictims_enough (by simpa using henough)]
    | cons w gone =>
      rw [ih (by simp) (by simpa [Nat.add_assoc] using henough) (by simpa [Nat.add_assoc] using hfew)]

section
variable {n : Nat} {s : State}

/-- With fewer than twelve leaves the blocks decide (R12, R84). -/
theorem fillEvictions_short (hlen : s.cache.leaves.length < 12) : fillEvictions n s =
    if s.pool.freeCount + ((s.cache.fillVictims n).map (fun l => l.blocks.length)).sum < planeSize s.pool.geometry then none
    else some (enoughVictims (planeSize s.pool.geometry) s.pool.freeCount (s.cache.fillVictims n)) := if_pos hlen

theorem fillEvictions_none_needed (hlen : s.cache.leaves.length < 12) (hfree : planeSize s.pool.geometry ≤ s.pool.freeCount) :
    fillEvictions n s = some [] := by
  rw [fillEvictions_short hlen, if_neg (by omega), enoughVictims_enough hfree]

theorem fillEvictions_too_few (hlen : s.cache.leaves.length < 12)
    (hfew : s.pool.freeCount + ((s.cache.fillVictims n).map (fun l => l.blocks.length)).sum < planeSize s.pool.geometry) :
    fillEvictions n s = none := (fillEvictions_short hlen).trans (if_pos hfew)

theorem fillEvictions_fewest {gone kept : List Leaf} (hlen : s.cache.leaves.length < 12)
    (hvs : s.cache.fillVictims n = gone ++ kept) (hgone : gone ≠ [])
    (henough : planeSize s.pool.geometry ≤ s.pool.freeCount + (gone.map (fun l => l.blocks.length)).sum)
    (hfew : s.pool.freeCount + (gone.dropLast.map (fun l => l.blocks.length)).sum < planeSize s.pool.geometry) :
    fillEvictions n s = some gone := by
  have hall : ¬s.pool.freeCount + ((gone ++ kept).map (fun l => l.blocks.length)).sum < planeSize s.pool.geometry := by
    rw [List.map_append, List.sum_append]; omega
  rw [fillEvictions_short hlen, hvs, if_neg hall, enoughVictims_fewest gone hgone henough hfew]

/-- With twelve leaves the first in the order of eviction goes (R84). -/
theorem fillEvictions_full (hlen : 12 ≤ s.cache.leaves.length) :
    fillEvictions n s = (s.cache.fillVictims n).head?.map (fun v => [v]) := by
  refine (if_neg (Nat.not_lt.2 hlen)).trans ?_
  cases s.cache.fillVictims n <;> rfl

end

/-! ### The records with a new one among them -/

theorem insertLeaf_find {l : Leaf} {ls : List Leaf} (h : ∀ x ∈ ls, x.number ≠ l.number) :
    (insertLeaf l ls).find? (fun x => x.number == l.number) = some l := by
  induction ls with
  | nil => simp [insertLeaf]
  | cons x xs ih =>
    have hx : (x.number == l.number) = false := beq_eq_false_iff_ne.2 (h x List.mem_cons_self)
    rw [insertLeaf]
    split
    · rw [List.find?_cons_of_pos (by simp)]
    · rw [List.find?_cons, hx]
      exact ih fun y hy => h y (List.mem_cons_of_mem _ hy)

/-! ### The owner's checks (R83) -/

section
variable {tag : Nat} {a : LeafFillArgs} {l : Leaf} {s : State}

theorem leafFillGood_iff (a : LeafFillArgs) : leafFillGood a = true ↔
    a.leaf ≤ 16777215 ∧ a.background ≤ 15 ∧ ∀ n, a.turnSlot = some n → n ≤ 5 := by
  rw [leafFillGood, Bool.and_eq_true, Bool.and_eq_true, leafInRange_iff, decide_eq_true_iff, and_assoc]
  cases a.turnSlot <;> simp

theorem leaf_idle_iff (l : Leaf) : l.idle = true ↔ l.mode = .ready ∧ l.useCount = 0 := by
  rw [Leaf.idle, Bool.and_eq_true, decide_eq_true_iff, decide_eq_true_iff]

theorem not_isNone {α : Type} {o : Option α} (h : o.isSome = true) : ¬o.isNone = true := by
  rw [Option.isNone_iff_eq_none]; rintro rfl; cases h

theorem ownLeafFill_unset (h : s.pool.geometry = none) : ownLeafFill tag a s = reply 0x50 tag .state s := by
  rw [ownLeafFill, h]; rfl

theorem ownLeafFill_badParam (h : s.pool.geometry.isSome = true) (ha : ¬leafFillGood a = true) :
    ownLeafFill tag a s = reply 0x50 tag .badParam s := by
  rw [ownLeafFill, if_neg (not_isNone h), if_pos (by simpa using ha)]

theorem ownLeafFill_there (h : s.pool.geometry.isSome = true) (ha : leafFillGood a = true) (hl : s.cache.leaf a.leaf = some l) :
    ownLeafFill tag a s = if l.idle then reply 0x50 tag .ok (reuseLeaf a l s) else reply 0x50 tag .busy s := by
  rw [ownLeafFill, if_neg (not_isNone h), if_neg (by simpa using ha), hl]

theorem ownLeafFill_noSpace (h : s.pool.geometry.isSome = true) (ha : leafFillGood a = true) (hl : s.cache.leaf a.leaf = none)
    (hvs : fillEvictions a.leaf s = none) : ownLeafFill tag a s = reply 0x50 tag .noSpace s := by
  rw [ownLeafFill, if_neg (not_isNone h), if_neg (by simpa using ha), hl, fillNew, hvs]

theorem ownLeafFill_fills {vs : List Leaf} (h : s.pool.geometry.isSome = true) (ha : leafFillGood a = true)
    (hl : s.cache.leaf a.leaf = none) (hvs : fillEvictions a.leaf s = some vs) : ownLeafFill tag a s =
      raiseAll (vs.map (fun l => .leafEvicted l.number)) (reply 0x50 tag .ok (createLeaf a (s.evicted vs))) := by
  rw [ownLeafFill, if_neg (not_isNone h), if_neg (by simpa using ha), hl, fillNew, hvs]; rfl

end

/-! ### A new leaf opened (R84) -/

/-- Room for the reports that follow a reply. -/
theorem HasRoom.reply {k code tag : Nat} {st : Status} {s : State} (hm : s.power.mode ≠ .standby)
    (hreports : reportCount s.link.queue + k ≤ 28) (hplaces : s.link.queue.length + 1 + k ≤ 32) :
    HasRoom k (reply code tag st s) := by
  have hqueue : (Machine.reply code tag st s).link.queue = s.link.queue ++ [.reply (plainReply code tag st)] := rfl
  have hreserved : (Machine.reply code tag st s).link.reserved = false := rfl
  refine ⟨by rw [reply_mode]; exact hm, ?_, ?_⟩
  · rw [hqueue, reportCount_append, reportCount_reply]; exact hreports
  · rw [hqueue, hreserved, List.length_append, List.length_singleton]; exact hplaces

theorem createLeaf_frame (a : LeafFillArgs) (s : State) : SameExcept [.pool, .cache, .radio] s (createLeaf a s) :=
  ((allocate_frame _ _ s).mono (by decide)).trans ((onCache_frame _ _).mono (by decide))

/-- The record of a leaf that is opened in a pool (R84, R13). -/
def openedLeaf (a : LeafFillArgs) (p : PoolState) : Leaf :=
  ⟨a.leaf, .filling, p.lowestFree (planeSize p.geometry), a.background, 0, a.turnSlot, a.edge⟩

/-- A state in which a leaf has been opened in the place of others, with the reply and the evictions reported (R84). -/
structure LeafOpened (tag : Nat) (a : LeafFillArgs) (vs : List Leaf) (l : Leaf) (p : PoolState) (s t : State) : Prop where
  pool : t.pool = p.give l.blocks (.leaf a.leaf false)
  freeCopy : t.radio.freeCopy = t.pool.freeCount
  cache : t.cache = { s.cache with leaves := insertLeaf l (s.cache.leaves.filter (fun x : Leaf =>
    !(vs.map Leaf.number).contains x.number)) }
  queue : t.link.queue = s.link.queue ++ .reply (plainReply 0x50 tag .ok) :: vs.map (fun v => .report (.leafEvicted v.number))
  frame : SameExcept [.pool, .cache, .radio, .power, .link] s t

/-- With room for the reports the owner opens the leaf and reports what went for it. -/
theorem fill_opens {tag : Nat} {a : LeafFillArgs} {vs : List Leaf} {p : PoolState} {s : State} (hm : s.power.mode ≠ .standby)
    (hp : p = vs.foldl (fun p v => p.release v.blocks) s.pool)
    (hreports : reportCount s.link.queue + vs.length ≤ 28) (hplaces : s.link.queue.length + 1 + vs.length ≤ 32) :
    LeafOpened tag a vs (openedLeaf a p) p s
      (raiseAll (vs.map (fun l => .leafEvicted l.number)) (reply 0x50 tag .ok (createLeaf a (s.evicted vs)))) := by
  have hpool : (s.evicted vs).pool = p := (evicted_pool vs s).trans hp.symm
  have hmade : SameExcept [.pool, .cache, .radio] s (createLeaf a (s.evicted vs)) := (evicted_frame s vs).trans (createLeaf_frame a _)
  have hlink : (createLeaf a (s.evicted vs)).link = s.link := hmade.2 .link (by decide)
  have hmode : (createLeaf a (s.evicted vs)).power.mode ≠ .standby := by rw [hmade.2 .power (by decide)]; exact hm
  have hroom : HasRoom (0 + (vs.map (fun l => Report.leafEvicted l.number)).length)
      (reply 0x50 tag .ok (createLeaf a (s.evicted vs))) := by
    rw [List.length_map, Nat.zero_add]
    exact .reply hmode (by rw [hlink]; exact hreports) (by rw [hlink]; exact hplaces)
  have hafter := (reply_frame 0x50 tag .ok (createLeaf a (s.evicted vs))).trans
    (raiseAll_frame (vs.map (fun l => Report.leafEvicted l.number)) _)
  refine ⟨?_, ?_, ?_, ?_, (hmade.mono (by decide)).trans (hafter.mono (by decide))⟩
  · rw [hafter.2 .pool (by decide), ← hpool]; rfl
  · rw [hafter.2 .pool (by decide), hafter.2 .radio (by decide)]; rfl
  · have hcache : (createLeaf a (s.evicted vs)).cache = { (s.evicted vs).cache with
        leaves := insertLeaf (openedLeaf a (s.evicted vs).pool) (s.evicted vs).cache.leaves } := rfl
    rw [hafter.2 .cache (by decide), hcache, hpool, evicted_cache]
  · have hqueue : (reply 0x50 tag .ok (createLeaf a (s.evicted vs))).link.queue =
        (createLeaf a (s.evicted vs)).link.queue ++ [.reply (plainReply 0x50 tag .ok)] := rfl
    rw [(hroom.raiseAll _).1, hqueue, hlink, List.append_assoc, List.map_map]
    rfl

/-- A served LEAF_FILL of a new number, with room for the reports. -/
theorem leafFill_opens {tag : Nat} {a : LeafFillArgs} {vs : List Leaf} {p : PoolState} {s : State} (hs : s.serves)
    (hg : s.pool.geometry.isSome = true) (ha : leafFillGood a = true) (hl : s.cache.leaf a.leaf = none)
    (hvs : fillEvictions a.leaf s = some vs) (hp : p = vs.foldl (fun p v => p.release v.blocks) s.pool)
    (hreports : reportCount s.link.queue + vs.length ≤ 28) (hplaces : s.link.queue.length + 1 + vs.length ≤ 32) :
    ∃ t, exec (.leafFill tag (.fields a)) s = .next t ∧ LeafOpened tag a vs (openedLeaf a p) p s t := by
  obtain ⟨hpool, hfree, hcache, hqueue, hframe⟩ := fill_opens (tag := tag) (a := a) (s := s.placed (.leafFill tag (.fields a)))
    (serving_not_standby hs.1) hp hreports hplaces
  exact ⟨_, congrArg Host.Outcome.next ((takeCommand_fields _ _ _ _ _ s hs).trans
    (ownLeafFill_fills (s := s.placed _) hg ha hl hvs)),
    ⟨hpool, hfree, hcache, hqueue, ((placed_frame _ s).mono (by decide)).trans hframe⟩⟩

/-- With nothing to go a leaf is opened in the blocks that are FREE. -/
theorem leafFill_takes {tag : Nat} {a : LeafFillArgs} {p : PoolState} {s : State} (hs : s.serves)
    (hg : s.pool.geometry.isSome = true) (ha : leafFillGood a = true) (hl : s.cache.leaf a.leaf = none)
    (hvs : fillEvictions a.leaf s = some [])
    (hp : p = s.pool.give (s.pool.lowestFree (planeSize s.pool.geometry)) (.leaf a.leaf false)) :
    exec (.leafFill tag (.fields a)) s = .next ({ s with
      pool := p
      radio := { s.radio with freeCopy := p.freeCount, reserveCopy := p.reserve }.rehold
      cache := { s.cache with leaves := insertLeaf (openedLeaf a s.pool) s.cache.leaves } }.answered (.leafFill tag (.fields a))
        (plainReply 0x50 tag .ok)) := by
  subst hp
  exact takeCommand_reply hs (ownLeafFill_fills (s := s.placed _) hg ha hl hvs)

/-- The one leaf that goes is gone, and the new one is there under its number. -/
theorem LeafOpened.records {tag : Nat} {a : LeafFillArgs} {v l : Leaf} {p : PoolState} {s t : State}
    (h : LeafOpened tag a [v] l p s t) (hnumber : l.number = a.leaf) (hnew : s.cache.leaf a.leaf = none) (hv : v ∈ s.cache.leaves) :
    t.cache.leaf v.number = none ∧ t.cache.leaf a.leaf = some l := by
  rw [leaf_none_iff] at hnew
  refine ⟨?_, ?_⟩
  · rw [leaf_none_iff, h.cache]
    intro x hx
    rcases List.mem_cons.1 ((insertLeaf_perm _ _).mem_iff.1 hx) with rfl | hx
    · rw [hnumber]; exact (hnew v hv).symm
    · simpa using (List.mem_filter.1 hx).2
  · rw [CacheState.leaf, h.cache, ← hnumber]
    refine insertLeaf_find fun x hx => ?_
    rw [hnumber]
    exact hnew x (List.mem_of_mem_filter hx)

/-- Settles O46: the checks of R83 in their order, then the fill of a new number as R84 finds it room. -/
theorem leafFillOpensALeaf : Obligations.LeafFillOpensALeaf := by
  intro tag a s hs
  refine ⟨fun hg => takeCommand_reply hs (ownLeafFill_unset (s := s.placed _) hg), fun hg hbad => ?_, fun hg hleaf hback hslot => ?_⟩
  · refine takeCommand_reply hs (ownLeafFill_badParam (s := s.placed _) hg ?_)
    rw [leafFillGood_iff]
    rintro ⟨hleaf, hback, hslot⟩
    rcases hbad with h | h | ⟨n, hn, h⟩
    · omega
    · omega
    · exact absurd (hslot n hn) (by omega)
  have ha : leafFillGood a = true := (leafFillGood_iff a).2 ⟨hleaf, hback, hslot⟩
  refine ⟨fun l hl hbusy => ?_, fun l hl hready huse => ?_, fun hl hlen hfree => ?_, fun hl hlen hnone => ?_, fun hl hlen hfew => ?_,
    fun gone kept hl hlen hvs hgone henough hfew hreports hplaces => ?_, fun v rest hl hlen hvs hreports hplaces => ?_⟩
  · refine takeCommand_reply hs ((ownLeafFill_there (s := s.placed _) hg ha hl).trans (if_neg ?_))
    rw [leaf_idle_iff]
    rintro ⟨hready, huse⟩
    rcases hbusy with h | h
    · exact h hready
    · omega
  · have hidle : l.idle = true := (leaf_idle_iff l).2 ⟨hready, huse⟩
    exact takeCommand_reply hs ((ownLeafFill_there (s := s.placed _) hg ha hl).trans (if_pos hidle))
  · exact ⟨_, _, rfl, rfl, leafFill_takes hs hg ha hl (fillEvictions_none_needed hlen hfree) rfl⟩
  · refine takeCommand_reply hs (ownLeafFill_noSpace (s := s.placed _) hg ha hl ?_)
    exact (fillEvictions_full (s := s) hlen).trans (by rw [hnone]; rfl)
  · exact takeCommand_reply hs (ownLeafFill_noSpace (s := s.placed _) hg ha hl (fillEvictions_too_few (s := s) hlen hfew))
  · obtain ⟨t, ht, hopen⟩ := leafFill_opens hs hg ha hl (fillEvictions_fewest hlen hvs hgone henough hfew) rfl hreports hplaces
    have hgeometry := releases_geometry gone s.pool
    exact ⟨t, _, _, ht, rfl, by rw [openedLeaf, hgeometry], hopen.pool, hopen.freeCopy, hopen.cache, hopen.queue, hopen.frame⟩
  · have hevict : fillEvictions a.leaf s = some [v] := by rw [fillEvictions_full hlen, hvs]; rfl
    obtain ⟨t, ht, hopen⟩ := leafFill_opens (tag := tag) hs hg ha hl hevict rfl hreports hplaces
    have hv : v ∈ s.cache.leaves := ((mem_fillVictims s.cache a.leaf v).1 (hvs ▸ List.mem_cons_self)).1
    obtain ⟨hgone, hthere⟩ := hopen.records rfl hl hv
    exact ⟨t, ht, hgone, ⟨_, hthere, rfl, rfl, rfl, rfl, rfl⟩, hopen.queue, hopen.frame⟩

/-! ## SHOW_LEAF (R89, R92) -/

/-! ### A walk that leaves the engine at work (R36, R41) -/

/-- An entry that the walk meets waits on, or has a lane. -/
theorem walkFrom_at_work (es : List PendingEntry) : ∀ (ahead : List PendingEntry) (s : State),
    (ahead ≠ [] ∨ es ≠ [] ∨ ∃ n, (s.lane n).state ≠ .free) → (walkFrom ahead es s).engine.idle = false := by
  induction es with
  | nil =>
    rintro ahead s (h | h | ⟨n, h⟩)
    · exact idle_of_pending h
    · exact absurd rfl h
    · exact idle_of_busy (n := n) h
  | cons e es ih =>
    intro ahead s _
    rw [walkFrom]
    split
    next n hn =>
      obtain ⟨-, -, -, hlt, -⟩ := (startsOn_iff _ _ _ _).1 hn
      refine ih ahead _ (.inr (.inr ⟨n, ?_⟩))
      rw [startLane_lane_same e s hlt]
      simp
    · exact ih _ s (.inl (by simp))

theorem walk_at_work {s : State} (h : s.engine.pending ≠ []) : (walk s).engine.idle = false :=
  walkFrom_at_work _ [] s (.inr (.inl h))

/-- A lone entry over a busy lane waits (R41). -/
theorem walk_single_blocked {s : State} {e : PendingEntry} {n : Nat} (hp : s.engine.pending = [e]) (hn : n < 8)
    (hbusy : (s.lane n).state ≠ .free) (hover : rectOverlaps (s.lane n).rect e.rect = true) :
    walk s = s.onEngine (fun g => { g with pending := [e] }) := by
  refine walk_single_waits hp (Option.eq_none_iff_forall_ne_some.2 fun k hk => ?_)
  obtain ⟨-, hclear, -⟩ := (startsOn_iff _ _ _ _).1 hk
  have hapart := hclear n hn hbusy
  rw [hover] at hapart
  cases hapart

/-- A lone entry with every lane FREE and the rails powered starts on lane 0 (R41). -/
theorem walk_single_free {s : State} {e : PendingEntry} (hp : s.engine.pending = [e]) (hrail : s.rail.mode ≠ .fault)
    (hfree : ∀ n, n < 8 → (s.lane n).state = .free) : walk s = (startLane 0 e s).onEngine (fun g => { g with pending := [] }) := by
  refine walk_single_starts hp ((startsOn_iff _ _ _ _).2 ⟨hrail, fun k hk hb => absurd (hfree k hk) hb, by simp, by omega,
    hfree 0 (by omega), by simp⟩)

/-! ### An update taken from any command (R38, R89) -/

/-- An update taken under a command's code, before the walk. -/
def State.takenOn (s : State) (code tag : Nat) (a : UpdateArgs) : State :=
  reply code tag .accepted (lightActivity (appendEntry (hostEntry tag a) s))

/-- What an update taken has changed before the walk: its entry waits last and the reply is queued. -/
structure TakenOn (code tag : Nat) (a : UpdateArgs) (s t : State) : Prop where
  frame : SameExcept [.wave, .engine, .cache, .light, .power, .link] s t
  mode : t.power.mode = s.power.mode
  engine : t.engine = { s.engine with pending := s.engine.pending ++ [hostEntry tag a] }
  queue : t.link.queue = s.link.queue ++ [.reply (plainReply code tag .accepted)]

theorem takenOn_facts {code tag : Nat} {a : UpdateArgs} {s : State} (hmode : servingMode s.power.mode = true)
    (hdark : s.power.lightDark = s.light.isDark) (hsound : s.light.sound) : TakenOn code tag a s (s.takenOn code tag a) := by
  have hentry := appendEntry_frame (hostEntry tag a) s
  have hpower := hentry.2 .power (by decide)
  have hlight := hentry.2 .light (by decide)
  obtain ⟨hlit, hmodes, -⟩ := lightActivity_serving (s := appendEntry (hostEntry tag a) s)
    (by rw [hpower]; exact hmode) (by rw [hpower, hlight]; exact hdark) (by rw [hlight]; exact hsound)
  have hreply := reply_frame code tag .accepted (lightActivity (appendEntry (hostEntry tag a) s))
  refine ⟨(hentry.mono (by decide)).trans ((hlit.mono (by decide)).trans (hreply.mono (by decide))),
    (reply_mode code tag .accepted _).trans (hmodes.trans (by rw [hpower])), ?_, ?_⟩
  · rw [State.takenOn, reply_engine, lightActivity_engine, appendEntry_engine]
  · exact congrArg (fun l : LinkState => l.queue ++ [.reply (plainReply code tag .accepted)])
      ((hlit.2 .link (by decide)).trans (hentry.2 .link (by decide)))

theorem TakenOn.lane {code tag : Nat} {a : UpdateArgs} {s t : State} (h : TakenOn code tag a s t) (n : Nat) :
    t.lane n = s.lane n := lane_of_lanes (by rw [h.engine]) n

theorem TakenOn.pending {code tag : Nat} {a : UpdateArgs} {s t : State} (h : TakenOn code tag a s t)
    (hp : s.engine.pending = []) : t.engine.pending = [hostEntry tag a] := by
  rw [h.engine, hp]; rfl

/-- The walk and the notice that follow: the engine is at work, so that no step into STANDBY comes of it. -/
theorem TakenOn.ends {code tag : Nat} {a : UpdateArgs} {s t : State} (h : TakenOn code tag a s t) :
    SameExcept [.wave, .engine, .cache, .light, .power, .link] s (engineNotify (walk t)) ∧
      (engineNotify (walk t)).power.mode = s.power.mode ∧
      (engineNotify (walk t)).link.queue = s.link.queue ++ [.reply (plainReply code tag .accepted)] := by
  have hwalk := walk_frame t
  obtain ⟨hstays, hmode⟩ := engineNotify_stays (walk_at_work (s := t) (by rw [h.engine]; simp))
  refine ⟨h.frame.trans ((hwalk.mono (by decide)).trans (hstays.mono (by decide))), ?_, ?_⟩
  · rw [hmode, hwalk.2 .power (by decide), h.mode]
  · rw [(engineNotify_sameWork _).queue, hwalk.2 .link (by decide), h.queue]

/-! ### The owner (R89) -/

/-- The update that SHOW_LEAF stands for (R89). -/
def State.showUpdate (s : State) (a : ShowLeafArgs) (slot : Nat) (sel : Selection) : UpdateArgs :=
  ⟨s.panelRect, slot, sel, .leaf a.leaf, false, none⟩

section
variable {tag slot : Nat} {sel : Selection} {a : ShowLeafArgs} {s : State}

theorem ownShowLeaf_slotless (h : showChoice a s.cache = none) : ownShowLeaf tag a s = reply 0x53 tag .slotInvalid s := by
  rw [ownShowLeaf, h]

theorem ownShowLeaf_refused {st : Status} (h : showChoice a s.cache = some (slot, sel))
    (hcheck : updateCheck (s.showUpdate a slot sel) s = some st) : ownShowLeaf tag a s = reply 0x53 tag st s := by
  rw [State.showUpdate] at hcheck
  rw [ownShowLeaf, h]
  simp only [hostUpdate, hcheck]

theorem ownShowLeaf_taken (h : showChoice a s.cache = some (slot, sel)) (hcheck : updateCheck (s.showUpdate a slot sel) s = none) :
    ownShowLeaf tag a s = engineNotify (walk (s.takenOn 0x53 tag (s.showUpdate a slot sel))) := by
  rw [State.showUpdate] at hcheck
  rw [ownShowLeaf, h]
  simp only [hostUpdate, hcheck]
  rfl

/-- The slot and selection given, or those of a turn to the leaf (R89, R92). -/
theorem showChoice_given {c : CacheState} {n : Nat} (h : a.slot = some n) : showChoice a c = some (n, a.selection.getD .changed) := by
  rw [showChoice, h]

theorem showChoice_unset {c : CacheState} (h : a.slot = none) : showChoice a c =
    (c.turnChoice (c.leafSlot a.leaf)).2.1.map (fun n => (n, (c.turnChoice (c.leafSlot a.leaf)).2.2)) := by
  rw [showChoice, h]

end

/-- Settles O49: SHOW_LEAF is refused or taken as the update it stands for, and a taken one waits or has its lane. -/
theorem showLeafIsAWholePanelUpdate : Obligations.ShowLeafIsAWholePanelUpdate := by
  intro tag a s hs
  refine ⟨fun hnone => takeCommand_reply hs (ownShowLeaf_slotless (s := s.placed _) hnone),
    fun slot sel st hchoice hcheck => takeCommand_reply hs (ownShowLeaf_refused (s := s.placed _) hchoice hcheck),
    fun slot sel hc hchoice hcheck => ?_, fun n hn => showChoice_given hn, fun hslot hdue => ?_, fun hslot hless => ?_⟩
  · obtain ⟨-, -, hdark, -, -, -, -, -, -, -, -, -, -, -, -, -, -, -, -, hsound⟩ := hc
    have htaken := takenOn_facts (code := 0x53) (tag := tag) (s := s.placed (.showLeaf tag (.fields a)))
      (a := (s.placed (.showLeaf tag (.fields a))).showUpdate a slot sel) hs.1 hdark hsound
    obtain ⟨hframe, hmode, hqueue⟩ := htaken.ends
    have hsame := engineNotify_sameWork (walk ((s.placed (.showLeaf tag (.fields a))).takenOn 0x53 tag
      ((s.placed (.showLeaf tag (.fields a))).showUpdate a slot sel)))
    refine ⟨_, congrArg Host.Outcome.next ((takeCommand_fields _ _ _ _ _ s hs).trans
      (ownShowLeaf_taken (s := s.placed _) hchoice hcheck)), hqueue, hframe.2 .rail (by decide), hframe.2 .pool (by decide),
      hmode, fun x _ => hframe.mem_read (by decide) x, fun hp hover => ?_, fun hp hfree => ?_⟩
    · obtain ⟨n, hn, hbusy, hover⟩ := hover
      rw [hsame.engine, walk_single_blocked (htaken.pending hp) hn (by rw [htaken.lane]; exact hbusy)
        (by rw [htaken.lane]; exact hover)]
      rfl
    · have hrail : s.rail.mode ≠ .fault := (updateCheck_none hcheck).2
      rw [hsame.engine, hsame.lane, walk_single_free (htaken.pending hp)
        (by rw [htaken.frame.2 .rail (by decide)]; exact hrail) fun n hn => (htaken.lane n).symm ▸ hfree n hn,
        setPending_lane, startLane_lane_same _ _ (by omega)]
      exact ⟨rfl, rfl, rfl, rfl, rfl, rfl⟩
  · rw [showChoice_unset hslot, CacheState.turnChoice, if_pos hdue]
  · rw [showChoice_unset hslot, CacheState.turnChoice, if_neg (by omega)]

/-! ## A tile in a leaf (R13, R14, R85) -/

/-! ### Blocks filled with the background (R14) -/

theorem imageAddr_block (blocks : List Nat) (k : Nat) : imageAddr blocks k / 4096 = blocks.getD (k / 4096) 0 := by
  rw [imageAddr, show Config.blockBytes = 4096 from rfl]; omega

theorem read_fillBlock (m : Memory) (b level a : Nat) :
    (m.fillBlock b level).read a = if a / 4096 = b then levelByte level else m.read a := by
  rw [Memory.fillBlock, show Config.blockBytes = 4096 from rfl]
  split
  · exact Memory.read_fill_inside m _ _ a _ (by omega) (by omega)
  · exact Memory.read_fill_outside m _ _ a _ (by omega)

theorem read_fillBlocks (bs : List Nat) (level a : Nat) : ∀ m : Memory,
    (bs.foldl (fun m b => m.fillBlock b level) m).read a = if a / 4096 ∈ bs then levelByte level else m.read a := by
  induction bs with
  | nil => exact fun m => (if_neg List.not_mem_nil).symm
  | cons b bs ih =>
    intro m
    rw [List.foldl_cons, ih, read_fillBlock]
    by_cases hb : a / 4096 ∈ bs
    · rw [if_pos hb, if_pos (List.mem_cons_of_mem _ hb)]
    · rw [if_neg hb]; simp only [List.mem_cons, hb, or_false]

theorem pixelOf_levelByte (level i : Nat) : pixelOf (levelByte level) i = level % 16 := by
  have hbyte : (levelByte level).toNat = level % 16 * 17 := by
    rw [levelByte, BitVec.toNat_ofNat]; omega
  rw [pixelOf, hbyte]
  split <;> omega

/-! ### Written marks (R13) -/

/-- The block is one of some leaf's in the table. -/
def PoolState.leafHas (p : PoolState) (b : Nat) : Prop := ∃ e ∈ p.table, e.block = b ∧ e.owner.isLeaf = true

/-- An entry's written mark. -/
def BlockEntry.marked (e : BlockEntry) : Bool := match e.owner with | .leaf _ w => w | .plane _ => false | .stage _ => false

theorem written_iff (p : PoolState) (b : Nat) : p.written b = true ↔ ∃ e ∈ p.table, e.block = b ∧ e.marked = true := by
  rw [PoolState.written, List.any_eq_true]
  refine exists_congr fun e => and_congr_right fun _ => ?_
  rw [Bool.and_eq_true, beq_iff_eq]
  rfl

/-- An entry with its mark set, where it is a leaf's and its block is among those given. -/
def BlockEntry.setMark (blocks : List Nat) (e : BlockEntry) : BlockEntry :=
  match e.owner with
  | .leaf n _ => if blocks.contains e.block then ⟨e.block, .leaf n true⟩ else e
  | .plane _ => e
  | .stage _ => e

theorem mark_table (p : PoolState) (blocks : List Nat) : (p.mark blocks true).table = p.table.map (BlockEntry.setMark blocks) := rfl

theorem setMark_block (blocks : List Nat) (e : BlockEntry) : (e.setMark blocks).block = e.block := by
  rw [BlockEntry.setMark]
  split
  · split <;> rfl
  · rfl
  · rfl

theorem setMark_marked (blocks : List Nat) (e : BlockEntry) : (e.setMark blocks).marked = true ↔
    e.marked = true ∨ (e.block ∈ blocks ∧ e.owner.isLeaf = true) := by
  rcases e with ⟨b, o⟩
  cases o with
  | leaf n w =>
    by_cases hb : b ∈ blocks
    · simp [BlockEntry.setMark, BlockEntry.marked, Owner.isLeaf, hb]
    · simp [BlockEntry.setMark, BlockEntry.marked, hb]
  | plane i => simp [BlockEntry.setMark, BlockEntry.marked, Owner.isLeaf]
  | stage r => simp [BlockEntry.setMark, BlockEntry.marked, Owner.isLeaf]

theorem mark_held (p : PoolState) (blocks : List Nat) : (p.mark blocks true).held = p.held := by
  rw [PoolState.held, mark_table, List.map_map, PoolState.held]
  exact List.map_congr_left fun e _ => setMark_block blocks e

theorem mark_written (p : PoolState) (blocks : List Nat) (b : Nat) : (p.mark blocks true).written b = true ↔
    p.written b = true ∨ (b ∈ blocks ∧ p.leafHas b) := by
  rw [written_iff, written_iff, mark_table]
  constructor
  · rintro ⟨e, he, hb, hmark⟩
    obtain ⟨x, hx, rfl⟩ := List.mem_map.1 he
    rw [setMark_block] at hb
    rcases (setMark_marked blocks x).1 hmark with h | ⟨hin, hleaf⟩
    · exact .inl ⟨x, hx, hb, h⟩
    · exact .inr ⟨hb ▸ hin, x, hx, hb, hleaf⟩
  · rintro (⟨x, hx, hb, h⟩ | ⟨hin, x, hx, hb, hleaf⟩)
    · exact ⟨_, List.mem_map_of_mem hx, (setMark_block _ x).trans hb, (setMark_marked blocks x).2 (.inl h)⟩
    · exact ⟨_, List.mem_map_of_mem hx, (setMark_block _ x).trans hb, (setMark_marked blocks x).2 (.inr ⟨hb ▸ hin, hleaf⟩)⟩

/-! ### The lazy clear (R14) -/

section
variable {bg : Nat} {touched : List Nat} {s : State}

theorem lazyClear_written (h : ∀ b ∈ touched, s.pool.leafHas b) (b : Nat) :
    (lazyClear bg touched s).pool.written b = true ↔ s.pool.written b = true ∨ b ∈ touched := by
  refine (mark_written _ _ b).trans ?_
  rw [List.mem_filter]
  constructor
  · rintro (hw | ⟨⟨hb, -⟩, -⟩)
    · exact .inl hw
    · exact .inr hb
  · rintro (hw | hb)
    · exact .inl hw
    · by_cases hw : s.pool.written b = true
      · exact .inl hw
      · exact .inr ⟨⟨hb, by simpa using hw⟩, h b hb⟩

theorem lazyClear_read (a : Nat) : Memory.read (lazyClear bg touched s).mem a =
    if a / 4096 ∈ touched ∧ s.pool.written (a / 4096) = false then levelByte bg else Memory.read s.mem a := by
  refine (read_fillBlocks _ bg a s.mem).trans ?_
  simp only [List.mem_filter, Bool.not_eq_true']

/-- What a leaf shows is what it showed before its touched blocks were filled: an unwritten block stands for the background. -/
theorem lazyClear_leafPixel (h : ∀ b ∈ touched, s.pool.leafHas b) (hbg : bg ≤ 15) (blocks : List Nat) (i : Nat) :
    leafPixel (lazyClear bg touched s).pool (lazyClear bg touched s).mem blocks bg i = leafPixel s.pool s.mem blocks bg i := by
  have hread := lazyClear_read (bg := bg) (touched := touched) (s := s) (imageAddr blocks (i / 2))
  have hwritten := lazyClear_written (bg := bg) h (blocks.getD (i / 2 / 4096) 0)
  rw [imageAddr_block] at hread
  rw [leafPixel, leafPixel, show Config.blockBytes = 4096 from rfl]
  cases hw : s.pool.written (blocks.getD (i / 2 / 4096) 0) with
  | true =>
    rw [hw, if_neg (by simp)] at hread
    rw [if_pos (hwritten.2 (.inl hw)), Memory.pixel, hread]
    rfl
  | false =>
    rw [hw] at hread hwritten
    by_cases hb : blocks.getD (i / 2 / 4096) 0 ∈ touched
    · rw [if_pos ⟨hb, rfl⟩] at hread
      rw [if_pos (hwritten.2 (.inr hb)), Memory.pixel, hread, pixelOf_levelByte]
      exact Nat.mod_eq_of_lt (by omega)
    · rw [if_neg (by rw [hwritten]; simpa using hb)]
      rfl

end

/-! ### The blocks of a leaf (R6, R12) -/

theorem leaf_blocks {l : Leaf} {s : State} (h : s.poolSound) (hl : l ∈ s.cache.leaves) :
    l.blocks.Nodup ∧ l.blocks.length = planeSize s.pool.geometry ∧ ∀ b ∈ l.blocks, s.pool.leafHas b := by
  obtain ⟨hsorted, -, -, -, -, -, -, hleaves, -⟩ := h
  obtain ⟨hblocks, hlen⟩ := hleaves l hl
  refine ⟨?_, hlen, fun b hb => ?_⟩
  · rw [hblocks, State.blocksOf, PoolState.ownedBy, List.Nodup, List.pairwise_map]
    exact (hsorted.filter _).imp fun hlt => Nat.ne_of_lt hlt
  · rw [hblocks] at hb
    obtain ⟨e, he, rfl⟩ := List.mem_map.1 hb
    obtain ⟨hmem, howner⟩ := List.mem_filter.1 he
    refine ⟨e, hmem, rfl, ?_⟩
    cases ho : e.owner <;> simp [ho, Owner.isLeafOf, Owner.isLeaf] at howner ⊢

/-- Blocks that differ keep the bytes of an image apart. -/
theorem blocks_apart {blocks : List Nat} (h : blocks.Nodup) : ImageApart blocks (4096 * blocks.length) := by
  intro j k hj hk haddr
  have hjb : j / 4096 < blocks.length := by omega
  have hkb : k / 4096 < blocks.length := by omega
  rw [imageAddr_of_block _ _ _ (List.getElem?_eq_getElem hjb), imageAddr_of_block _ _ _ (List.getElem?_eq_getElem hkb)] at haddr
  have hblock : j / 4096 = k / 4096 := (h.getElem_inj_iff).1 (by omega)
  omega

theorem mem_rectIndices (w : Nat) (r : Rect) (i : Nat) : i ∈ rectIndices w r ↔
    ∃ x y, x < r.w ∧ y < r.h ∧ i = (r.y + y) * w + (r.x + x) := by
  simp only [rectIndices, List.mem_map, Prod.exists, mem_rectCells, pixelIndex]
  constructor
  · rintro ⟨y, x, ⟨hy, hx⟩, rfl⟩; exact ⟨x, y, hx, hy, rfl⟩
  · rintro ⟨x, y, hx, hy, rfl⟩; exact ⟨y, x, ⟨hy, hx⟩, rfl⟩

theorem mem_touchedBlocks (w : Nat) (r : Rect) (blocks : List Nat) (b : Nat) : b ∈ touchedBlocks w r blocks ↔
    ∃ i ∈ rectIndices w r, blocks.getD (i / 8192) 0 = b := by
  simp only [touchedBlocks, List.mem_dedup, List.mem_map, show Config.blockBytes = 4096 from rfl, Nat.div_div_eq_div_mul]

/-! ### The owner (R85) -/

/-- A tile that passes its checks lies inside the panel. -/
theorem inside_of_leafTileCheck {n : Nat} {r : Rect} {pixels : List Byte} {p : PanelArgs} {s : State}
    (hp : s.pool.geometry = some p) (h : leafTileCheck n r pixels s = none) : r.x + r.w ≤ p.width ∧ r.y + r.h ≤ p.height := by
  simp only [leafTileCheck, hp] at h
  split at h
  · cases h
  next hbad =>
    rw [Bool.or_eq_true, not_or] at hbad
    have hinside : rectInside r p = true := by simpa using hbad.2
    simp only [rectInside, Bool.and_eq_true, decide_eq_true_eq] at hinside
    omega

theorem exec_tileLeaf {n : Nat} {r : Rect} {pixels : List Byte} {l : Leaf} {s : State} (hs : servingMode s.power.mode = true)
    (hl : s.cache.leaf n = some l) (h : leafTileCheck n r pixels s = none) :
    exec (.tileLeaf n r pixels) s = .next (writeLeaf l r pixels (s.taken (.tileLeaf n r pixels))) := by
  have htaken : leafTileCheck n r pixels (s.taken (.tileLeaf n r pixels)) = none := h
  have hleaf : (s.taken (.tileLeaf n r pixels)).cache.leaf n = some l := hl
  refine congrArg Host.Outcome.next ((takePacket_serving _ _ s hs).trans ?_)
  rw [ownTileLeaf, htaken, hleaf]

theorem writeLeaf_frame (l : Leaf) (r : Rect) (pixels : List Byte) (s : State) :
    SameExcept [.mem, .pool] s (writeLeaf l r pixels s) :=
  ((onMem_frame _ s).mono (by decide)).trans (((onPool_frame _ _).mono (by decide)).trans ((onMem_frame _ _).mono (by decide)))

/-! ### The tile's pixels in an image that holds the panel (R6, R85) -/

section
variable {p : PanelArgs} {r : Rect} {pixels : List Byte} {blocks : List Nat}

/-- A pixel of the panel lies in the blocks of an image of the panel. -/
theorem panel_pixel_in_blocks {x y : Nat} (hw : p.width % 8 = 0) (hlen : blocks.length = planeSize (some p)) (hx : x < p.width)
    (hy : y < p.height) : (y * p.width + x) / 2 < 4096 * blocks.length := by
  rw [hlen]; exact panel_pixel_in_plane hw hx hy

theorem tilePixels_in_blocks (hw : p.width % 8 = 0) (hlen : blocks.length = planeSize (some p)) (hx : r.x + r.w ≤ p.width)
    (hy : r.y + r.h ≤ p.height) : ∀ q ∈ tilePixels p.width r pixels, q.1 / 2 < 4096 * blocks.length := by
  intro q hq
  obtain ⟨j, i, hj, hi, rfl⟩ := mem_tilePixels hq
  exact panel_pixel_in_blocks (x := r.x + i) (y := r.y + j) hw hlen (by omega) (by omega)

theorem touchedBlocks_subset (hw : p.width % 8 = 0) (hlen : blocks.length = planeSize (some p)) (hx : r.x + r.w ≤ p.width)
    (hy : r.y + r.h ≤ p.height) : ∀ b ∈ touchedBlocks p.width r blocks, b ∈ blocks := by
  intro b hb
  obtain ⟨i, hi, rfl⟩ := (mem_touchedBlocks _ _ _ b).1 hb
  obtain ⟨x, y, hxw, hyh, rfl⟩ := (mem_rectIndices _ _ i).1 hi
  have hbyte := panel_pixel_in_blocks (blocks := blocks) (x := r.x + x) (y := r.y + y) hw hlen (by omega) (by omega)
  have hlt : ((r.y + y) * p.width + (r.x + x)) / 8192 < blocks.length := by omega
  rw [List.getD_eq_getElem _ _ hlt]
  exact List.getElem_mem hlt

/-- A pixel of the tile takes the tile's level. -/
theorem pixel_tile_same {i j : Nat} (m : Memory) (hblocks : ImageApart blocks (4096 * blocks.length)) (hw : p.width % 8 = 0)
    (hlen : blocks.length = planeSize (some p)) (hx : r.x + r.w ≤ p.width) (hy : r.y + r.h ≤ p.height) (hi : i < r.w)
    (hj : j < r.h) : (m.setPixels blocks (tilePixels p.width r pixels)).pixel blocks ((r.y + j) * p.width + (r.x + i)) =
      tileLevel r pixels (j, i) := by
  refine (pixel_setPixels_same (level := tileLevel r pixels (j, i)) hblocks
    (panel_pixel_in_blocks (x := r.x + i) (y := r.y + j) hw hlen (by omega) (by omega)) _ m
    (tilePixels_in_blocks hw hlen hx hy) (fun q hq hsame => ?_) ?_).trans (Nat.mod_eq_of_lt (pixelOf_lt _ _))
  · obtain ⟨j', i', hj', hi', rfl⟩ := mem_tilePixels hq
    obtain ⟨hcol, hrow⟩ := panel_index_inj (w := p.width) (by omega) (by omega) hsame
    rw [show j' = j by omega, show i' = i by omega]
  · exact List.mem_map.2 ⟨(j, i), (mem_rectCells r j i).2 ⟨hj, hi⟩, rfl⟩

/-- A pixel outside the tile keeps its level. -/
theorem pixel_tile_other {x y : Nat} (m : Memory) (hblocks : ImageApart blocks (4096 * blocks.length)) (hw : p.width % 8 = 0)
    (hlen : blocks.length = planeSize (some p)) (hx : r.x + r.w ≤ p.width) (hy : r.y + r.h ≤ p.height) (hxw : x < p.width)
    (hyh : y < p.height) (hout : ¬(r.x ≤ x ∧ x < r.x + r.w ∧ r.y ≤ y ∧ y < r.y + r.h)) :
    (m.setPixels blocks (tilePixels p.width r pixels)).pixel blocks (y * p.width + x) = m.pixel blocks (y * p.width + x) := by
  refine pixel_setPixels_other hblocks (panel_pixel_in_blocks hw hlen hxw hyh) _ m (tilePixels_in_blocks hw hlen hx hy)
    fun q hq hindex => hout ?_
  obtain ⟨j, i, hj, hi, rfl⟩ := mem_tilePixels hq
  obtain ⟨hcol, hrow⟩ := panel_index_inj (w := p.width) (by omega) (by omega) hindex
  omega

/-- A byte outside the touched blocks keeps its value as the tile is set. -/
theorem read_tile_other {w x : Nat} (m : Memory) (hx : ∀ i ∈ rectIndices w r, blocks.getD (i / 8192) 0 ≠ x / 4096) :
    (m.setPixels blocks (tilePixels w r pixels)).read x = m.read x := by
  refine Memory.read_setPixels_other _ _ m x fun q hq haddr => ?_
  obtain ⟨j, i, hj, hi, rfl⟩ := mem_tilePixels hq
  refine hx _ ((mem_rectIndices _ _ _).2 ⟨i, j, hi, hj, rfl⟩) ?_
  rw [haddr, imageAddr_block, Nat.div_div_eq_div_mul]
  rfl

end

/-- Settles O48: the touched blocks are filled where they were unwritten, which no pixel shows, and then the tile's pixels are
set. -/
theorem tileWritesTheLeaf : Obligations.TileWritesTheLeaf := by
  intro n r pixels p l s hs hsound hp hl hbg hcheck
  obtain ⟨hx, hy⟩ := inside_of_leafTileCheck hp hcheck
  obtain ⟨hnodup, hlen, hleaf⟩ := leaf_blocks hsound (mem_of_leaf hl).1
  obtain ⟨-, -, -, hgeometry, -⟩ := hsound
  obtain ⟨-, -, hw, -⟩ := hgeometry p hp
  rw [hp] at hlen
  have hblocks := blocks_apart hnodup
  have htouched : ∀ b ∈ touchedBlocks p.width r l.blocks, s.pool.leafHas b :=
    fun b hb => hleaf b (touchedBlocks_subset hw hlen hx hy b hb)
  have hwidth : s.panelWidth = p.width := by rw [State.panelWidth, hp]
  have hpool : (writeLeaf l r pixels (s.taken (.tileLeaf n r pixels))).pool =
      (lazyClear l.background (touchedBlocks p.width r l.blocks) s).pool := by rw [← hwidth]; rfl
  have hmem : (writeLeaf l r pixels (s.taken (.tileLeaf n r pixels))).mem =
      Memory.setPixels (lazyClear l.background (touchedBlocks p.width r l.blocks) s).mem l.blocks
        (tilePixels p.width r pixels) := by rw [← hwidth]; rfl
  refine ⟨_, exec_tileLeaf hs hl hcheck, ((taken_frame _ s).mono (by decide)).trans ((writeLeaf_frame _ _ _ _).mono (by decide)),
    (writeLeaf_frame _ _ _ _).2 .link (by decide), rfl, by rw [hpool]; exact mark_held _ _, fun b => ?_, fun i j hi hj => ?_,
    fun x y hxw hyh hout => ?_, fun x hx => ?_⟩
  · rw [hpool, lazyClear_written htouched, mem_touchedBlocks]
  · have hindex : (r.y + j) * p.width + (r.x + i) ∈ rectIndices p.width r := (mem_rectIndices _ _ _).2 ⟨i, j, hi, hj, rfl⟩
    have hmark := (lazyClear_written (bg := l.background) htouched _).2 (.inr ((mem_touchedBlocks _ _ _ _).2 ⟨_, hindex, rfl⟩))
    rw [hpool, hmem, leafPixel, show Config.blockBytes = 4096 from rfl, Nat.div_div_eq_div_mul, if_pos hmark]
    exact pixel_tile_same _ hblocks hw hlen hx hy hi hj
  · rw [← lazyClear_leafPixel htouched hbg, hpool, hmem, leafPixel, leafPixel,
      pixel_tile_other _ hblocks hw hlen hx hy hxw hyh hout]
  · have huntouched : x / 4096 ∉ touchedBlocks p.width r l.blocks := by
      rw [mem_touchedBlocks]
      rintro ⟨i, hi, hb⟩
      exact hx i hi hb
    rw [hmem, read_tile_other _ hx, lazyClear_read, if_neg fun h => huntouched h.1]

end Sys2Proof.Machine
end

section
/-! SUPPORT. The proofs of the obligations of the keys and the cover input, with the lemmas they are built from. -/

namespace Sys2Proof.Machine

/-! ## One key input and the changes of it -/

theorem onKey_key_same {k : Nat} (f : KeyInput → KeyInput) (s : State) (h : k < 6) : (onKey k f s).key k = f (s.key k) :=
  recordAt_withRecord_same s.keys.inputs k f {} h

theorem onKey_onKey (k : Nat) (f g : KeyInput → KeyInput) (s : State) :
    onKey k g (onKey k f s) = onKey k (fun i => g (f i)) s := by
  simp only [onKey, State.onKeys, withRecord_withRecord]

/-- A change of one record sees that record alone. -/
theorem withRecord_congr {α : Type} {n : Nat} (v : Vector α n) (i : Nat) {f g : α → α} (empty : α)
    (h : f (recordAt v i empty) = g (recordAt v i empty)) : withRecord v i f = withRecord v i g := by
  by_cases hi : i < n
  · have hrecord : recordAt v i empty = v[i] := by simp [recordAt, hi]
    rw [hrecord] at h
    rw [withRecord, withRecord, dif_pos hi, dif_pos hi, h]
  · rw [withRecord_beyond _ _ _ (by omega), withRecord_beyond _ _ _ (by omega)]

theorem onKey_congr {k : Nat} {f g : KeyInput → KeyInput} {s : State} (h : f (s.key k) = g (s.key k)) :
    onKey k f s = onKey k g s := by
  simp only [onKey, State.onKeys, withRecord_congr s.keys.inputs k {} h]

theorem onKey_inStep {s : State} (hs : s.inStep {}) (k : Nat) (f : KeyInput → KeyInput) : (onKey k f s).inStep {} :=
  onKeys_effect {} (fun u => { u with inputs := withRecord u.inputs k f }) s hs

/-! ## KEY_SETUP (R107, R116) -/

/-- Into its range, where 0 is the lower end. -/
theorem clampNat_zero (hi v : Nat) : clampNat 0 hi v = min v hi := Nat.zero_max _

theorem clampKey_eq (c : KeyConfig) : clampKey c = { c with
    debounce := max 1 (min c.debounce 255), hold := min c.hold 255
    period := max 5 (min c.period 255), lightStep := max 1 (min c.lightStep 20) } := by
  rw [clampKey, clampNat_zero]; rfl

section
variable {i : KeyInput} {c : KeyConfig}

theorem configure_disabled (h : i.config.enabled = false) (hc : c.enabled = false) : i.configure c = { i with config := c } := by
  simp [KeyInput.configure, h, hc]

/-- An input that is enabled, or is to be active at the other level, starts anew (R107). -/
theorem configure_starts (hc : c.enabled = true) (h : i.config.enabled = false ∨ i.config.active ≠ c.active) :
    i.configure c = { i with
      config := c, debounced := .unknown, armed := false, held := false, holdTimer := none, repeatTimer := none
      debounce := some (c.debounce, i.raw) } := by
  cases he : i.config.enabled with
  | false => simp [KeyInput.configure, KeyInput.enable, KeyInput.debounceTo, he, hc]
  | true =>
    have ha : i.config.active ≠ c.active := h.resolve_left (by simp [he])
    simp [KeyInput.configure, KeyInput.enable, KeyInput.debounceTo, he, hc, ha]

theorem configure_stops (h : i.config.enabled = true) (hc : c.enabled = false) :
    i.configure c = { i with
      config := c, debounced := .unknown, armed := false, held := false, holdTimer := none, repeatTimer := none
      debounce := none } := by
  simp [KeyInput.configure, KeyInput.disable, h, hc]

/-- Otherwise the live state stays, but for the timers of a REPEAT that is not in use (R109, R116). -/
theorem configure_stays (h : i.config.enabled = true) (hc : c.enabled = true) (ha : i.config.active = c.active) :
    i.configure c = if c.mode = .level ∧ 0 < c.hold then { i with config := c }
      else { i with config := c, holdTimer := none, repeatTimer := none } := by
  simp [KeyInput.configure, h, hc, ha, keyRepeats_iff]

end

section
variable {tag : Nat} {a : KeyArgs} {s : State}

theorem exec_keySetup_badParam (hs : s.serves) (h : 5 < a.key) : exec (.keySetup tag (.fields a)) s =
    .next (s.answered (.keySetup tag (.fields a)) (plainReply 0x60 tag .badParam)) := by
  refine congrArg Host.Outcome.next ((takeCommand_fields _ _ _ _ _ s hs).trans ?_)
  rw [if_pos h, reply_placed]

theorem exec_keySetup_ok (hs : s.serves) (h : a.key ≤ 5) : exec (.keySetup tag (.fields a)) s =
    .next ((onKey a.key (fun i => i.configure (clampKey a.config)) s).answered (.keySetup tag (.fields a))
      (plainReply 0x60 tag .ok)) := by
  refine congrArg Host.Outcome.next ((takeCommand_fields _ _ _ _ _ s hs).trans ?_)
  rw [if_neg (by omega)]
  exact reply_placed _ 0x60 tag .ok (onKey a.key (fun i => i.configure (clampKey a.config)) s)

end

/-! ## A raw change (R106, R107, R113, R114, R177) -/

theorem exec_keyInputChange_same {k : Nat} {l : Level} {s : State} (h : (s.key k).raw = l) :
    exec (.keyInputChange k l) s = .next s :=
  congrArg Host.Outcome.next (if_neg (by simp [h]))

theorem exec_keyInputChange_other {k : Nat} {l : Level} {s : State} (hk : k < 6) (h : (s.key k).raw ≠ l) :
    exec (.keyInputChange k l) s = .next (rawChanged k l s) :=
  congrArg Host.Outcome.next (if_pos (by simp [hk, h]))

section
variable {k : Nat} {l : Level} {s : State}

/-- Of a disabled input, and in WAKING, the raw level alone is kept. -/
theorem rawChanged_kept (h : (s.key k).config.enabled = false ∨ s.power.mode = .waking) :
    rawChanged k l s = onKey k (fun i => { i with raw := l }) s := by
  rw [rawChanged]
  split
  · rfl
  next henabled =>
    have hm : s.power.mode = .waking := h.resolve_left (by simpa using henabled)
    rw [hm]

theorem rawChanged_serving (he : (s.key k).config.enabled = true) (hm : servingMode s.power.mode = true) :
    rawChanged k l s = onKey k (fun i => i.rawChange l) s := by
  rw [rawChanged, if_neg (by simp [he])]
  cases hmode : s.power.mode <;> rw [hmode] at hm <;> first | rfl | cases hm

theorem rawChanged_standby (he : (s.key k).config.enabled = true) (hm : s.power.mode = .standby) :
    rawChanged k l s = senseChange k l s := by
  rw [rawChanged, if_neg (by simp [he]), hm]

theorem rawChange_eq (i : KeyInput) (l : Level) : i.rawChange l = { i with
    raw := l
    debounce := if i.debounced = (if l = i.config.active then .active else .inactive) then none
      else some (i.config.debounce, l) } := by
  have hmeaning : (if l = i.config.active then .active else .inactive) = i.meaning l := rfl
  rw [hmeaning, KeyInput.rawChange]
  by_cases h : i.debounced = i.meaning l
  · rw [if_pos h]; exact if_pos h
  · rw [if_neg h]; exact if_neg h

/-- A raw change that the sense does not wait for. -/
theorem senseChange_kept (hk : k < 6) (h : (s.key k).sense = .none ∨
    ((s.key k).sense = .wait ∧ l = wakeLevel (s.key k).config) ∨
    ((s.key k).sense = .watch ∧ l ≠ wakeLevel (s.key k).config)) :
    senseChange k l s = onKey k (fun i => { i with raw := l }) s := by
  rcases h with h | ⟨h, hl⟩ | ⟨h, hl⟩
  · simp [senseChange, onKey_key_same, hk, h]
  · simp [senseChange, onKey_key_same, hk, h, hl]
  · simp [senseChange, onKey_key_same, hk, h, hl]

theorem senseChange_rearms (hk : k < 6) (h : (s.key k).sense = .wait) (hl : l ≠ wakeLevel (s.key k).config) :
    senseChange k l s = onKey k (fun i => { i with raw := l, sense := .watch }) s := by
  simp [senseChange, onKey_key_same, onKey_onKey, hk, h, hl]

theorem senseChange_wakes (hk : k < 6) (h : (s.key k).sense = .watch) (hl : l = wakeLevel (s.key k).config) :
    senseChange k l s = senseWake k (onKey k (fun i => { i with raw := l }) s) := by
  simp [senseChange, onKey_key_same, hk, h, hl]

end

/-- Every input with its part in wake sensing over. -/
def KeyState.unsensed (u : KeyState) : KeyState := { u with inputs := u.inputs.map (fun i => { i with sense := .none }) }

theorem unsensed_sense (u : KeyState) : ∀ i ∈ u.unsensed.inputs.toList, i.sense = .none := by
  intro i hi
  rw [KeyState.unsensed, Vector.toList_map] at hi
  obtain ⟨j, -, rfl⟩ := List.mem_map.1 hi
  rfl

theorem unsensed_raw (u : KeyState) (k : Nat) :
    (recordAt u.unsensed.inputs k {}).raw = (recordAt u.inputs k {}).raw := by
  rw [recordAt, recordAt, KeyState.unsensed, Vector.getElem?_map]
  cases u.inputs[k]? <;> rfl

/-- WAKING begins without a report (R177). -/
theorem beginWaking_quiet {c : WakeCause} {s : State} (h : s.power.mode = .standby) (hlink : c ≠ .link)
    (hreport : ∀ s, wakeReport c s = s) : beginWaking c s = { s with
      pool := s.pool.askReady
      budget := { s.budget with power := .waking }
      keys := s.keys.unsensed
      radio := { { s.radio with powerCopy := .waking }.rehold with watching := false }
      power := { s.power with mode := .waking, cause := some c, wakeEnd := some .doze, linkDuringWake := false }
      link := { s.link with powerCopy := .waking } } := by
  simp only [beginWaking, if_pos h, hreport, if_neg hlink, setMode, handMode, State.onPower, State.onRadio, State.onLink,
    State.onBudget, State.onKeys, State.onPool, KeyState.unsensed]

/-- A key wakes the part into DOZE and reports nothing as WAKING begins (R177). -/
theorem keyCause_quiet (k : Nat) (c : KeyConfig) : keyCause k c ≠ .link ∧ ∀ s, wakeReport (keyCause k c) s = s := by
  rw [keyCause]
  split <;> exact ⟨nofun, fun _ => rfl⟩

/-- The state of a wake that key `k` has caused (R114, R177). -/
structure WokenBy (k : Nat) (s t : State) : Prop where
  mode : t.power.mode = .waking
  cause : t.power.cause = some (keyCause k (s.key k).config)
  wakeEnd : t.power.wakeEnd = some .doze
  link : t.power.linkDuringWake = false
  latch : t.keys.latch = some (k, s.keys.timestamp)
  raw : (t.key k).raw = (s.key k).raw
  sense : ∀ i ∈ t.keys.inputs.toList, i.sense = .none
  queue : t.link.queue = s.link.queue
  watching : t.radio.watching = false
  frame : SameExcept [.pool, .budget, .keys, .radio, .power, .link] s t

theorem senseWake_woken (k : Nat) {s : State} (h : s.power.mode = .standby) : WokenBy k s (senseWake k s) := by
  have hwake : senseWake k s = beginWaking (keyCause k (s.key k).config)
      (s.onKeys (fun u => { u.unsensed with latch := some (k, u.timestamp) })) := rfl
  obtain ⟨hlink, hreport⟩ := keyCause_quiet k (s.key k).config
  rw [hwake, beginWaking_quiet (by exact h) hlink hreport]
  exact ⟨rfl, rfl, rfl, rfl, rfl, (unsensed_raw _ k).trans (unsensed_raw s.keys k), unsensed_sense _, rfl, rfl, rfl,
    by intro b hb; cases b <;> first | rfl | (intro _; rfl) | exact absurd hb (by decide)⟩

/-- Settles O52: KEY_SETUP by the four cases of an input's old and new configuration, a raw change by the power state and, in
STANDBY, the sense. -/
theorem keyInputsAreSetUpAndSensed : Obligations.KeyInputsAreSetUpAndSensed := by
  refine ⟨fun tag a s hs => ⟨exec_keySetup_badParam hs, fun ha => ?_⟩, fun k l s hk =>
    ⟨exec_keyInputChange_same, fun hl => ⟨fun h => ?_, fun he hm => ?_, fun he hm => ⟨fun h => ?_, fun h hw => ?_, fun h hw => ?_⟩⟩⟩⟩
  · refine ⟨clampKey a.config, (s.key a.key).configure (clampKey a.config), clampKey_eq _, configure_disabled, configure_starts,
      configure_stops, configure_stays, (exec_keySetup_ok hs ha).trans ?_⟩
    rw [onKey_congr (g := fun _ => (s.key a.key).configure (clampKey a.config)) rfl]
    rfl
  · rw [exec_keyInputChange_other hk hl, rawChanged_kept h]; rfl
  · rw [exec_keyInputChange_other hk hl, rawChanged_serving he hm]
    simp only [rawChange_eq]; rfl
  · rw [exec_keyInputChange_other hk hl, rawChanged_standby he hm, senseChange_kept hk h]; rfl
  · rw [exec_keyInputChange_other hk hl, rawChanged_standby he hm, senseChange_rearms hk h hw]; rfl
  · have hkey : (onKey k (fun i => { i with raw := l }) s).key k = { s.key k with raw := l } := onKey_key_same _ s hk
    obtain ⟨hmode, hcause, hend, hlink, hlatch, hraw, hsense, hqueue, hwatch, hframe⟩ :=
      senseWake_woken k (s := onKey k (fun i => { i with raw := l }) s) hm
    rw [hkey] at hcause hraw
    exact ⟨_, by rw [exec_keyInputChange_other hk hl, rawChanged_standby he hm, senseChange_wakes hk h hw], hmode, hcause, hend,
      hlink, hlatch, hraw, hsense, hqueue, hwatch, ((onKeys_frame _ s).mono (by decide)).trans hframe⟩

/-! ## What the power controller hears while it does not let the part fall asleep (R173, R175) -/

/-- Where the idle conditions of SETTLING are not all met, a notice moves the standby delay timer alone. -/
theorem powerReact_awake {s : State} (h : s.power.mode = .settling → s.power.fourIdle = false) :
    powerReact s = s.onPower PowerState.recheckDoze := by
  cases hm : s.power.mode <;> simp only [powerReact, hm]
  case settling =>
    rw [if_neg (by simp [h hm]), State.onPower, PowerState.recheckDoze_other _ (by simp [hm])]
  all_goals rw [State.onPower, PowerState.recheckDoze_other _ (by simp [hm])]

/-- A light event that does not darken the light of a settling part. -/
theorem lightEvent_awake (f : LightState → LightState) {s : State}
    (h : s.power.mode = .settling → (f s.light).isDark ≠ s.power.lightDark → (f s.light).isDark = false) :
    lightEvent f s = { s with
      light := f s.light
      power := if (f s.light).isDark = s.power.lightDark then s.power
        else { s.power with lightDark := (f s.light).isDark }.recheckDoze } := by
  rw [lightEvent, tellLightDark]
  split
  next hsame =>
    rw [if_pos (show (f s.light).isDark = s.power.lightDark from hsame.symm)]
    rfl
  next hchange =>
    rw [if_neg (show ¬(f s.light).isDark = s.power.lightDark from Ne.symm hchange)]
    refine powerReact_awake fun hm => ?_
    have hlit : (f s.light).isDark = false := h hm (Ne.symm hchange)
    simp [PowerState.fourIdle, hlit]

/-- The state that activity leaves of an event, in step with what the blocks tell each other: no activity ends a SETTLING, since it
darkens no light. -/
theorem lightActivity_noted {p : Phase} {s : State} (hs : s.inStep p) (k : Nat) (e : KeyEvent) :
    lightActivity (s.evented k e) = s.noted k e := by
  rw [lightActivity, State.noted]
  split
  next hserving =>
    rw [if_pos (show servingMode s.power.mode = true from hserving)]
    refine lightEvent_awake (s := s.evented k e) LightState.activity fun _ hchange => ?_
    rw [← Bool.not_eq_true]
    exact fun hdark => hchange (hdark.trans (hs.lightDark.trans (isDark_of_activity hs.light hdark)).symm)
  next hserving => rw [if_neg (show ¬servingMode s.power.mode = true from hserving)]; rfl

/-- Between two states the power controller has heard of something, and stays where it is with what it holds of its SETTLING. -/
def Heard (s t : State) : Prop :=
  ∃ p : PowerState, t = { s with power := p } ∧ p.mode = s.power.mode ∧ p.leftMode = s.power.leftMode ∧
    p.hostAsked = s.power.hostAsked

theorem recheckDoze_heard (s : State) : Heard s (s.onPower PowerState.recheckDoze) := by
  obtain ⟨t, ht⟩ := recheckDoze_eq s.power
  exact ⟨_, rfl, by rw [ht], by rw [ht], by rw [ht]⟩

theorem Heard.trans {s t u : State} (h : Heard s t) (h' : Heard t u) : Heard s u := by
  obtain ⟨p, rfl, hmode, hleft, hasked⟩ := h
  obtain ⟨q, rfl, hmode', hleft', hasked'⟩ := h'
  exact ⟨q, rfl, hmode'.trans hmode, hleft'.trans hleft, hasked'.trans hasked⟩

/-- Outside SETTLING a notice moves no power state. -/
theorem tell_heard (c : Prop) [Decidable c] (f : PowerState → PowerState) {s : State} (h : s.power.mode ≠ .settling)
    (hm : (f s.power).mode = s.power.mode := by rfl) (hl : (f s.power).leftMode = s.power.leftMode := by rfl)
    (ha : (f s.power).hostAsked = s.power.hostAsked := by rfl) : Heard s (if c then s else powerReact (s.onPower f)) := by
  split
  · exact ⟨s.power, rfl, rfl, rfl, rfl⟩
  · rw [powerReact_awake fun hset => absurd (hm.symm.trans hset) h]
    exact Heard.trans ⟨f s.power, rfl, hm, hl, ha⟩ (recheckDoze_heard _)

theorem handHeadroom_heard (f : StreamState → StreamState) {s t : State} (h : Heard s t) :
    Heard (handHeadroom (s.onStream f)) (handHeadroom (t.onStream f)) := by
  obtain ⟨p, rfl, hp⟩ := h
  exact ⟨p, rfl, hp⟩

theorem lightEvent_heard (f : LightState → LightState) {s : State} (h : s.power.mode ≠ .settling) :
    Heard (s.onLight f) (lightEvent f s) := tell_heard _ _ (s := s.onLight f) h

theorem handSignals_heard {s : State} (h : s.power.mode ≠ .settling) : Heard (handHeadroom s) (handSignals s) :=
  tell_heard _ _ (s := handHeadroom s) h

/-! ## SETTLING cancelled (R174) -/

theorem release_light (l : LightState) : l.release.hold = false ∧ l.release.setLevel = l.setLevel := by
  obtain ⟨v, r, d, he⟩ := retarget_eq { l with hold := false }
  rw [LightState.release, he]
  exact ⟨rfl, rfl⟩

/-- The state of a cancelled SETTLING before the light and the streams are released. -/
def State.recalled (s : State) (m : PowerMode) : State :=
  (setMode m (s.onPower (fun p => { p with leftMode := none, hostAsked := false }))).onCache (fun c => { c with sleepMark := false })

theorem recalled_frame (s : State) (m : PowerMode) : SameExcept [.budget, .cache, .radio, .power, .link] s (s.recalled m) :=
  ((setMode_frame m (fun p => { p with leftMode := none, hostAsked := false }) s).mono (by decide)).trans
    ((onCache_frame _ _).mono (by decide))

/-- A cancelled SETTLING but for what the power controller hears of it. -/
def State.resumed (s : State) (m : PowerMode) : State :=
  handHeadroom (((s.recalled m).onLight LightState.release).onStream StreamState.release)

theorem resumed_frame (s : State) (m : PowerMode) :
    SameExcept [.budget, .cache, .light, .radio, .stream, .power, .link] s (s.resumed m) :=
  (((recalled_frame s m).mono (by decide)).trans ((onLight_frame _ _).mono (by decide))).trans
    (((onStream_frame _ _).mono (by decide)).trans ((handHeadroom_frame _).mono (by decide)))

theorem cancelSettling_heard {s : State} (h : s.power.mode = .settling) (hleft : s.power.leftMode.getD .active ≠ .settling) :
    Heard (s.resumed (s.power.leftMode.getD .active)) (cancelSettling false s) := by
  generalize hm : s.power.leftMode.getD .active = m at hleft
  have hcancel : cancelSettling false s = (handSignals ((lightEvent LightState.release (s.recalled m)).onStream
      StreamState.release)).onPower PowerState.recheckDoze := by
    rw [cancelSettling, if_pos h, ← hm]; rfl
  have hlight := lightEvent_heard LightState.release (s := s.recalled m) hleft
  have hmode : (lightEvent LightState.release (s.recalled m)).power.mode ≠ .settling := by
    obtain ⟨p, ht, hp, -⟩ := hlight
    rw [ht, hp]; exact hleft
  rw [hcancel]
  exact ((handHeadroom_heard StreamState.release hlight).trans (handSignals_heard (s := State.onStream _ _) hmode)).trans
    (recheckDoze_heard _)

theorem resumed_fields (s : State) (m : PowerMode) :
    (s.resumed m).power = { s.power with mode := m, leftMode := none, hostAsked := false } ∧
    (s.resumed m).cache = { s.cache with sleepMark := false } ∧ (s.resumed m).light = s.light.release ∧
    (s.resumed m).stream.sleepHold = false ∧ (s.resumed m).stream.records = s.stream.release.records ∧
    (s.resumed m).link.queue = s.link.queue := by
  simp [State.resumed, State.recalled, setMode, handMode, handHeadroom, StreamState.release]

/-- A key's notice that cancels SETTLING. -/
theorem cancelSettling_cancelled {s : State} (h : s.power.mode = .settling) : SettlingCancelled s (cancelSettling false s) := by
  intro hleft
  obtain ⟨p, ht, hmode, hleftMode, hasked⟩ := cancelSettling_heard h hleft
  obtain ⟨hpower, hcache, hlight, hsleep, hrecords, hqueue⟩ := resumed_fields s (s.power.leftMode.getD .active)
  obtain ⟨hhold, hset⟩ := release_light s.light
  rw [hpower] at hmode hleftMode hasked
  have hframe := (resumed_frame s (s.power.leftMode.getD .active)).trans
    ((onPower_frame (fun _ => p) _).mono (cs := [.budget, .cache, .light, .radio, .stream, .power, .link]) (by decide))
  rw [ht]
  exact ⟨hmode, hleftMode, hasked, hcache, ⟨by rw [hlight, hhold], hsleep, by rw [hrecords]; exact release_records s.stream⟩, hqueue,
    by rw [hlight, hset], hframe⟩

/-! ## The notice of a key event in every power state (R112) -/

theorem activityNotice_settling {u : State} (h : u.power.mode = .settling) : activityNotice u = cancelSettling false u := by
  rw [activityNotice, h]

theorem activityNotice_none {u : State} (h : u.power.mode ≠ .settling) (h' : u.power.mode ≠ .doze) : activityNotice u = u := by
  cases hm : u.power.mode <;> simp_all [activityNotice]

theorem settle_none {u : State} (ha : u.power.mode ≠ .active) (hd : u.power.mode ≠ .doze) : settle false u = u :=
  if_neg (by simp [ha, hd])

theorem cancelSettling_none {u : State} (h : u.power.mode ≠ .settling) : cancelSettling false u = u := if_neg h

theorem keyNotice_given (c : KeyConfig) (e : KeyEvent) (u : State) : KeyNoticed c e u (keyNotice c e u) := by
  rw [KeyNoticed]
  cases e with
  | press =>
    by_cases hsleep : c.action = .sleep ∨ c.action = .cover
    · rw [if_pos ⟨rfl, hsleep⟩, keyNotice, if_pos (by simpa using hsleep)]
      exact ⟨fun hup => settle_taken hup false, settle_none⟩
    · have hnotice : keyNotice c .press u = if c.wakeEnable then activityNotice u else u := if_neg (by simpa using hsleep)
      rw [if_neg (fun h => hsleep h.2), if_neg (fun h => nomatch h.1), hnotice]
      by_cases hwake : c.wakeEnable = true
      · rw [if_pos ⟨rfl, hwake⟩, if_pos hwake]
        exact ⟨fun hm => activityNotice_settling hm ▸ cancelSettling_cancelled hm, activityNotice_doze, activityNotice_none⟩
      · rw [if_neg (fun h => hwake h.2), if_neg hwake]
  | release =>
    rw [if_neg (fun h => nomatch h.1)]
    by_cases hcover : c.action = .cover
    · rw [if_pos ⟨rfl, hcover⟩, keyNotice, if_pos hcover]
      exact ⟨cancelSettling_cancelled, cancelSettling_none⟩
    · rw [if_neg (fun h => hcover h.2), if_neg (fun h => nomatch h.1), keyNotice, if_neg hcover]
  | again => simp [keyNotice]

/-! ## The request of a key event in every power state (R111) -/

/-- Activity in step with what the blocks tell each other is no step into STANDBY. -/
theorem lightActivity_stays {p : Phase} {s : State} (hs : s.inStep p) : SameExcept [.light, .power] s (lightActivity s) ∧
    (lightActivity s).power.mode = s.power.mode := by
  by_cases hserving : servingMode s.power.mode = true
  · obtain ⟨hframe, hmode, -⟩ := lightActivity_serving hserving hs.lightDark hs.light
    exact ⟨hframe, hmode⟩
  · rw [lightActivity, if_neg hserving]
    exact ⟨.refl _ s, rfl⟩

/-- A turn request has been taken: either the engine has no part in it, or it is at work. -/
structure TurnTried (s t : State) : Prop where
  turned : Turned s t
  engine : t.inStep {} ∨ t.engine.idle = false

theorem raise_tried (r : Report) {s : State} (hs : s.inStep {}) : TurnTried s (raise r s) :=
  ⟨raise_turned r s, .inl (raise_effect {} r s hs)⟩

/-- An accepted turn is at work, in its lane or in the queue (R93). -/
theorem submitted_tried (f : TurnFlight) (slot : Nat) (sel : Selection) {s : State} (hs : s.inStep {}) :
    TurnTried s (s.submitted f slot sel) := by
  have hwalk : SameExcept [.wave, .engine, .cache] s (walk (appendEntry (s.turnEntry f.leaf slot sel) s)) :=
    ((appendEntry_frame _ s).mono (by decide)).trans ((walkFrom_frame _ [] _).mono (by decide))
  have hidle : (walk (appendEntry (s.turnEntry f.leaf slot sel) s)).engine.idle = false :=
    walk_at_work (by rw [appendEntry_engine]; simp)
  have hstep : (walk (appendEntry (s.turnEntry f.leaf slot sel) s)).inStep (Phase.busy {}) :=
    walk_effect (Phase.busy {}) _ (appendEntry_effect {} _ s hs)
  have hflight : ((walk (appendEntry (s.turnEntry f.leaf slot sel) s)).onCache (fun k => { k with flight := some f })).inStep
      (Phase.busy {}) := onCache_effect (Phase.busy {}) _ _ hstep
  obtain ⟨hframe, hmode⟩ := lightActivity_stays hflight
  rw [State.submitted]
  refine ⟨⟨(hwalk.mono (by decide)).trans (((onCache_frame _ _).mono (by decide)).trans (hframe.mono (by decide))), ?_⟩, .inr ?_⟩
  · exact hmode.trans (congrArg PowerState.mode (hwalk.2 .power (by decide)))
  · rw [show (lightActivity _).engine = _ from hframe.2 .engine (by decide)]
    exact hidle

theorem submitTurn_tried (d : TurnDir) (t : Nat) {s : State} (hs : s.inStep {}) : TurnTried s (submitTurn d t s) := by
  simp only [submitTurn]
  split
  · exact raise_tried _ hs
  · split
    · exact raise_tried _ hs
    · exact submitted_tried ⟨t, d, _⟩ _ _ hs

theorem takeTurnTo_tried (d : TurnDir) (t : Nat) {s : State} (hs : s.inStep {}) : TurnTried s (takeTurnTo d t s) := by
  rw [takeTurnTo]
  split
  · exact raise_tried _ hs
  · split
    · exact raise_tried _ hs
    · exact submitTurn_tried d t hs

theorem resolveTurn_tried (d : TurnDir) (wanted : Nat → Nat) {s : State} (hs : s.inStep {}) :
    TurnTried s (resolveTurn d wanted s) := by
  rw [resolveTurn]
  split
  · exact raise_tried _ hs
  · split
    · exact raise_tried _ hs
    · split
      · exact raise_tried _ hs
      · exact takeTurnTo_tried d _ hs

theorem turnRequest_tried (d : TurnDir) {s : State} (hs : s.inStep {}) : TurnTried s (turnRequest d s) := by
  rw [turnRequest]
  split
  · exact raise_tried _ hs
  · split
    · exact ⟨⟨(onCache_frame _ s).mono (by decide), rfl⟩, .inl (onCache_effect {} _ s hs)⟩
    · exact resolveTurn_tried d _ hs

/-- The notice that ends a turn request is no step into STANDBY. -/
theorem turnRequest_asked (d : TurnDir) {w : State} (hw : w.inStep {}) : TurnAsked d w (engineNotify (turnRequest d w)) := by
  obtain ⟨hturned, hengine⟩ := turnRequest_tried d hw
  have hidle := (engineNotify_effect {} _ (turnRequest_effect {} d w hw)).idle rfl
  have hstays : SameExcept [.power] (turnRequest d w) (engineNotify (turnRequest d w)) ∧
      (engineNotify (turnRequest d w)).power.mode = (turnRequest d w).power.mode := by
    rcases hengine with htold | hwork
    · rw [engineNotify_told (htold.idle rfl)]
      exact ⟨.refl _ _, rfl⟩
    · exact engineNotify_stays hwork
  obtain ⟨hframe, hmode⟩ := hstays
  exact ⟨hframe.2 .cache (by decide), hframe.2 .engine (by decide), hframe.2 .wave (by decide), hframe.2 .light (by decide),
    congrArg LinkState.queue (hframe.2 .link (by decide)), hmode.trans hturned.2, hidle, hturned.1.trans (hframe.mono (by decide))⟩

/-- Even an entry to STANDBY stops no more of the light than its dwell timer (R176). -/
theorem powerReact_light (s : State) : ∃ w, (powerReact s).light = { s.light with dwell := w } := by
  cases hm : s.power.mode <;> simp only [powerReact, hm]
  case settling =>
    split
    · obtain ⟨-, -, -, hlight, -⟩ := enterStandby_fields s
      exact ⟨none, hlight⟩
    · exact ⟨s.light.dwell, rfl⟩
  all_goals exact ⟨s.light.dwell, rfl⟩

theorem lightEvent_light (f : LightState → LightState) (s : State) :
    ∃ w, (lightEvent f s).light = { f s.light with dwell := w } := by
  rw [lightEvent, tellLightDark]
  split
  · exact ⟨(f s.light).dwell, rfl⟩
  · exact powerReact_light _

theorem sound_dwell {l : LightState} (h : l.sound) (w : Timer) : LightState.sound { l with dwell := w } :=
  (sound_iff_steady _).2 ((sound_iff_steady l).1 h)

theorem lightRequest_asked (level : Nat) (w : State) : LevelAsked level w (lightRequest level w) := by
  refine ⟨fun heq => if_pos heq, fun hne => ?_⟩
  obtain ⟨dw, hlight⟩ := lightEvent_light (fun l => l.setTo level) w
  obtain ⟨hset, hwarm⟩ := setTo_fields w.light level
  refine ⟨lightEvent (fun l => l.setTo level) w, lightEvent_frameOf _ w, by rw [hlight]; exact hset, by rw [hlight]; exact hwarm,
    fun hw => ?_, (lightEvent_sameWork _ w).queue, ?_⟩
  · rw [hlight]; exact sound_dwell ((setTo_follows level w.light).1 hw) dw
  · rw [lightRequest, if_neg hne]
    simp only [hlight, hset, hwarm]

theorem keyRequest_asked (c : KeyConfig) (e : KeyEvent) {w : State} (hw : w.inStep {}) :
    KeyRequested c e w (keyRequest c e w) := by
  rw [KeyRequested, keyRequest]
  split
  · rfl
  · cases c.action
    case turnNext => exact turnRequest_asked .next hw
    case turnPrev => exact turnRequest_asked .prev hw
    case lightUp => exact lightRequest_asked _ w
    case lightDown => exact lightRequest_asked _ w
    all_goals rfl

/-! ## The event, and the timers that give it (R106 to R110) -/

theorem announced_eq {s : State} (hs : s.inStep {}) (k : Nat) (e : KeyEvent) (time : Nat) : (s.evented k e).announced k e time =
    if (s.key k).config.action = .report ∨ ((s.key k).config.action = .cover ∧ e ≠ .again)
    then raise (.key k e time) (s.noted k e) else s.noted k e := by
  simp only [State.announced, evented_config, lightActivity_noted hs, keyReported_iff]

theorem announced_inStep {s : State} (hs : s.inStep {}) (k : Nat) (e : KeyEvent) (time : Nat) : (s.announced k e time).inStep {} :=
  ((lightActivity_effect {} s).trans (.ite _ (fun _ => raise_effect {} _ _) fun _ => .refl {} _)) hs

/-- An event of a key is handed out as R110 says, in every power state. -/
theorem keyEvent_given (k : Nat) (e : KeyEvent) (time : Nat) {s : State} (hs : s.inStep {}) :
    KeyEventTaken k e time s (keyEvent k e time (s.evented k e)) := by
  have hstep : (s.evented k e).inStep {} := onKey_inStep hs k _
  rw [keyEvent_eq, evented_config]
  exact ⟨_, _, announced_eq hs k e time, keyNotice_given _ e _,
    keyRequest_asked _ e (keyNotice_effect {} _ e _ (announced_inStep hstep k e time))⟩

theorem repeatKey_given (k : Nat) {s : State} (hs : s.inStep {}) : KeyEventTaken k .again s.keys.timestamp s (repeatKey k s) :=
  keyEvent_given k .again _ hs

theorem exec_debounceExpire {k n : Nat} {l : Level} {s : State} (h : (s.key k).debounce = some (n, l)) :
    exec (.debounceExpire k) s = .next (acceptLevel k l s) := by
  refine congrArg Host.Outcome.next ?_
  rw [h]

section
variable {k : Nat} {l : Level} {s : State}

theorem meaning_active (i : KeyInput) (h : l = i.config.active) : i.meaning l = .active := if_pos h

theorem meaning_inactive (i : KeyInput) (h : l ≠ i.config.active) : i.meaning l = .inactive := if_neg h

/-- A key not yet armed arms at its inactive level (R107). -/
theorem acceptLevel_arms (h : (s.key k).armed = false) (hl : l ≠ (s.key k).config.active) : acceptLevel k l s =
    onKey k (fun i => { i with debounce := none, debounced := .inactive, armed := true }) s := by
  simp [acceptLevel, meaning_inactive _ hl, h, onKey_onKey]

theorem acceptLevel_unarmed (h : (s.key k).armed = false) (hl : l = (s.key k).config.active) : acceptLevel k l s =
    onKey k (fun i => { i with debounce := none, debounced := .active }) s := by
  simp [acceptLevel, meaning_active _ hl, h]

/-- The level accepted is overwritten by the event's own part. -/
theorem evented_accepted (e : KeyEvent) (he : e ≠ .again) (d : Debounced) :
    (onKey k (fun i => { i with debounce := none, debounced := d }) s).evented k e =
      (onKey k (fun i => { i with debounce := none }) s).evented k e := by
  simp only [State.evented, onKey_onKey]
  cases e with
  | press => rfl
  | release => rfl
  | again => exact absurd rfl he

/-- An armed key gives PRESS or RELEASE (R108). -/
theorem acceptLevel_armed (h : (s.key k).armed = true) : acceptLevel k l s =
    keyEvent k (if l = (s.key k).config.active then .press else .release) s.keys.timestamp
      ((onKey k (fun i => { i with debounce := none }) s).evented k
        (if l = (s.key k).config.active then .press else .release)) := by
  rw [← evented_accepted (d := (s.key k).meaning l) _ (by split <;> simp)]
  by_cases hl : l = (s.key k).config.active
  · simp only [acceptLevel, h, meaning_active _ hl, if_pos hl, if_true]
    exact pressKey_eq _ _ _
  · simp only [acceptLevel, h, meaning_inactive _ hl, if_neg hl, if_true, reduceCtorEq, if_false]
    exact releaseKey_eq _ _ _

end

/-- What activity leaves of the light (R126). -/
theorem activity_fields (l : LightState) : l.activity.setLevel = l.setLevel ∧ l.activity.warmth = l.warmth ∧
    l.activity.dwell = if 0 < l.dwellTime then some l.dwellTime else l.dwell := by
  have hdwell : LightState.startDwell { l with dimmed := false, dark := false } = { l with
      dimmed := false, dark := false, dwell := if 0 < l.dwellTime then some l.dwellTime else l.dwell } := by
    rw [LightState.startDwell]
    split <;> rfl
  obtain ⟨v, r, d, he⟩ := retarget_eq { l with
    dimmed := false, dark := false, dwell := if 0 < l.dwellTime then some l.dwellTime else l.dwell }
  rw [LightState.activity, hdwell, he]
  exact ⟨rfl, rfl, rfl⟩

/-- Settles O53: each timer that runs accepts a level or hands out an event, whose parts are the activity, the report, the notice
and the request. -/
theorem keyTimersGiveKeyEvents : Obligations.KeyTimersGiveKeyEvents := by
  intro k s _ hs
  have hstep : s.inStep {} := (coherent_iff s).1 hs
  refine ⟨fun h => ?_, fun n l h => ⟨fun harm hl => ?_, fun harm hl => ?_, fun harm => ?_⟩, fun h => ?_, fun h => ?_,
    fun hrun hheld => ?_, fun hrun => ?_, fun l => ?_⟩
  · exact congrArg Host.Outcome.next (by rw [h])
  · rw [exec_debounceExpire h, acceptLevel_arms harm hl]; rfl
  · rw [exec_debounceExpire h, acceptLevel_unarmed harm hl]; rfl
  · have hend : (onKey k (fun i => { i with debounce := none }) s).inStep {} := onKey_inStep hstep k _
    exact ⟨_, _, rfl, exec_debounceExpire h, acceptLevel_armed (l := l) harm ▸ keyEvent_given k _ _ hend⟩
  · exact congrArg Host.Outcome.next (if_neg (by rcases h with h | h <;> simp [h]))
  · exact congrArg Host.Outcome.next (if_neg (by simp [h]))
  · exact ⟨_, congrArg Host.Outcome.next (if_pos (by simp [hrun, hheld])), repeatKey_given k hstep⟩
  · exact ⟨_, congrArg Host.Outcome.next (if_pos hrun), repeatKey_given k hstep⟩
  · obtain ⟨hdim, hdark⟩ := activity_marks l
    obtain ⟨hset, hwarm, hdwell⟩ := activity_fields l
    exact ⟨hdim, hdark, hset, hwarm, hdwell, (activity_follows l).1⟩

end Sys2Proof.Machine
end

section
/-! SUPPORT. The proofs of the obligations of the front light, with the lemmas they are built from. -/

namespace Sys2Proof.Machine

/-! ## The duties (R120 to R122) -/

/-- Between two points of the curve the demand is interpolated (R120). -/
theorem curveDemand_between (curve : List Nat) {i r : Nat} (hi : i < 20) (hr : r < 5) (hpos : 0 < 5 * i + r) :
    curveDemand curve (5 * i + r) = curve.getD i 0 + (curve.getD (i + 1) 0 - curve.getD i 0) * r / 5 := by
  have hpoint : (5 * i + r) / 5 = i := by omega
  have hrest : 5 * i + r - 5 * i = r := by omega
  simp only [curveDemand, if_neg (show ¬5 * i + r = 0 by omega), if_neg (show ¬100 ≤ 5 * i + r by omega), hpoint, hrest]

/-- The warm share is within half a step of its rounded value (R121). -/
theorem warmDuty_rounds (d w : Nat) : 100 * warmDuty d w ≤ d * w + 50 ∧ d * w + 50 < 100 * warmDuty d w + 100 := by
  rw [warmDuty]
  omega

/-- The current a demand draws at the ceilings, in the unit of the allowance times 4095 (R122). -/
def LightState.drawn (l : LightState) : Nat :=
  l.formDuties.warmDemand * l.warmCeiling + l.formDuties.coolDemand * l.coolCeiling

theorem formDuties_demands (l : LightState) :
    l.formDuties.warmDemand = warmDuty (curveDemand l.curve l.level) l.warmth ∧
      l.formDuties.coolDemand = curveDemand l.curve l.level - warmDuty (curveDemand l.curve l.level) l.warmth := by
  rw [formDuties_eq, LightState.dueDuties]
  split <;> exact ⟨rfl, rfl⟩

theorem formDuties_within {l : LightState} (h : l.drawn ≤ l.allowance * 4095) :
    l.formDuties.warmOut = l.formDuties.warmDemand ∧ l.formDuties.coolOut = l.formDuties.coolDemand ∧
      l.formDuties.limited = false := by
  obtain ⟨hwarm, hcool⟩ := formDuties_demands l
  rw [LightState.drawn, hwarm, hcool] at h
  rw [hwarm, hcool, formDuties_eq, LightState.dueDuties, if_pos h]
  exact ⟨rfl, rfl, rfl⟩

theorem formDuties_beyond {l : LightState} (h : l.allowance * 4095 < l.drawn) :
    l.formDuties.limited = true ∧
      l.formDuties.warmOut = l.formDuties.warmDemand * (l.allowance * 4095) / l.drawn ∧
      l.formDuties.coolOut = l.formDuties.coolDemand * (l.allowance * 4095) / l.drawn := by
  obtain ⟨hwarm, hcool⟩ := formDuties_demands l
  rw [LightState.drawn, hwarm, hcool] at h ⊢
  rw [formDuties_eq, LightState.dueDuties, if_neg (Nat.not_le.2 h)]
  exact ⟨rfl, rfl, rfl⟩

/-- Two shares of `most`, rounded down, together draw no more than `most`. -/
theorem shares_le (dw dc w c most : Nat) :
    dw * most / (dw * w + dc * c) * w + dc * most / (dw * w + dc * c) * c ≤ most := by
  generalize hsum : dw * w + dc * c = sum
  rcases Nat.eq_zero_or_pos sum with rfl | hpos
  · simp
  refine Nat.le_of_mul_le_mul_right ?_ hpos
  have hwarm : dw * most / sum * sum ≤ dw * most := Nat.div_mul_le_self _ _
  have hcool : dc * most / sum * sum ≤ dc * most := Nat.div_mul_le_self _ _
  calc (dw * most / sum * w + dc * most / sum * c) * sum
      = dw * most / sum * sum * w + dc * most / sum * sum * c := by ring
    _ ≤ dw * most * w + dc * most * c := by gcongr
    _ = most * sum := by rw [← hsum]; ring

/-- The outputs stay within the demand and within the allowance (R122). -/
theorem formDuties_bounded (l : LightState) : l.formDuties.warmOut ≤ l.formDuties.warmDemand ∧
    l.formDuties.coolOut ≤ l.formDuties.coolDemand ∧ l.formDuties.withinAllowance := by
  have hsettings : l.formDuties.warmCeiling = l.warmCeiling ∧ l.formDuties.coolCeiling = l.coolCeiling ∧
      l.formDuties.allowance = l.allowance := by rw [formDuties_eq]; exact ⟨rfl, rfl, rfl⟩
  obtain ⟨hwarmCeiling, hcoolCeiling, hallowance⟩ := hsettings
  rw [LightState.withinAllowance, hwarmCeiling, hcoolCeiling, hallowance]
  rcases le_or_gt l.drawn (l.allowance * 4095) with h | h
  · obtain ⟨hwarm, hcool, -⟩ := formDuties_within h
    rw [hwarm, hcool]
    exact ⟨le_rfl, le_rfl, h⟩
  · obtain ⟨-, hwarm, hcool⟩ := formDuties_beyond h
    rw [hwarm, hcool]
    exact ⟨Nat.div_le_of_le_mul (Nat.mul_comm _ _ ▸ Nat.mul_le_mul_right _ h.le),
      Nat.div_le_of_le_mul (Nat.mul_comm _ _ ▸ Nat.mul_le_mul_right _ h.le), shares_le _ _ _ _ _⟩

/-- Settles O54: the curve's points and the segments between them, the rounded warm share, and the duties on either side of the
allowance. -/
theorem dutiesStayWithinTheAllowance : Obligations.DutiesStayWithinTheAllowance := by
  refine ⟨fun curve => ⟨rfl, rfl⟩, fun curve i r hi hr hpos _ => curveDemand_between curve hi hr hpos, warmDuty_rounds, fun l => ?_⟩
  obtain ⟨hwarm, hcool⟩ := formDuties_demands l
  obtain ⟨hwarmOut, hcoolOut, hwithin⟩ := formDuties_bounded l
  exact ⟨hwarm, hcool, formDuties_within, formDuties_beyond, hwarmOut, hcoolOut, hwithin, rfl⟩

/-! ## The settings of the light: what neither the duties nor the ramp touches -/

/-- A light state without its level, target and ramp, and without its duties. -/
def LightState.settings (l : LightState) : LightState :=
  { l with level := 0, target := 0, ramp := none }.withDuties ⟨0, 0, 0, 0, false⟩

theorem formDuties_settings (l : LightState) : l.formDuties.settings = l.settings := by
  rw [formDuties_eq]; rfl

theorem jump_settings (l : LightState) : l.jump.settings = l.settings := by
  obtain ⟨d, he⟩ := jump_eq l
  rw [he]; rfl

theorem retarget_settings (l : LightState) : l.retarget.settings = l.settings := by
  obtain ⟨v, r, d, he⟩ := retarget_eq l
  rw [he]; rfl

theorem allow_settings (l : LightState) (a : Nat) : (l.allow a).settings = { l.settings with allowance := a } :=
  formDuties_settings _

/-- Activity ends dimming and darkness and starts the dwell timer (R126). -/
theorem activity_settings (l : LightState) : l.activity.settings = { l.settings with
    dimmed := false, dark := false, dwell := if 0 < l.dwellTime then some l.dwellTime else l.dwell } := by
  rw [LightState.activity, retarget_settings, LightState.startDwell]
  split <;> rfl

theorem setTo_settings (l : LightState) (v : Nat) : (l.setTo v).settings = { l.settings with setLevel := v } :=
  retarget_settings _

theorem dwellOver_settings (l : LightState) : l.dwellOver.settings = { l.settings with dwell := none, dimmed := true } :=
  retarget_settings _

theorem warm_settings (l : LightState) (w : Nat) : (l.warm w).settings = { l.settings with warmth := w } := by
  rw [LightState.warm]
  split
  next hsame => rw [hsame]; rfl
  · exact formDuties_settings _

/-- LIGHT_SET is activity that also sets the level and the warmth (R130). -/
theorem set_settings (l : LightState) (a : LightSetArgs) : (l.set a).settings = { l.settings with
    dimmed := false, dark := false, dwell := if 0 < l.dwellTime then some l.dwellTime else l.dwell
    setLevel := givenOr l.setLevel (fun v => min v 100) a.level
    warmth := givenOr l.warmth (fun v => min v 100) a.warmth } := by
  have hclamp : clampNat 0 100 = fun v => min v 100 := funext (clampNat_zero 100)
  obtain ⟨hlevel, hwarmth, -⟩ := activity_fields l
  obtain ⟨-, hkept⟩ := setTo_fields l.activity (givenOr l.setLevel (fun v => min v 100) a.level)
  simp only [LightState.set, hclamp, hlevel, hkept, hwarmth]
  rw [warm_settings, setTo_settings, activity_settings]

theorem setRamp_settings (l : LightState) (v : Nat) : (l.setRamp v).settings = { l.settings with rampInterval := v } := by
  simp only [LightState.setRamp]
  split
  · exact jump_settings _
  · rfl

theorem setDim_settings (l : LightState) (v : Nat) : (l.setDim v).settings = { l.settings with dim := v } :=
  retarget_settings _

/-- A dwell time of 0 ends the dwell timer and the dimming; one after 0 starts the timer (R132). -/
theorem setDwell_settings (l : LightState) (v : Nat) : (l.setDwell v).settings = { l.settings with
    dwellTime := v
    dwell := if v = 0 then none else if l.settings.dwellTime = 0 then some v else l.settings.dwell
    dimmed := if v = 0 then false else l.settings.dimmed } := by
  have hsame : l.settings.dwellTime = l.dwellTime := rfl
  rw [LightState.setDwell, hsame]
  split
  next hzero => rw [retarget_settings, hzero]; rfl
  · split <;> rfl

theorem setCeilings_settings (l : LightState) (w c : Nat) :
    (l.setCeilings w c).settings = { l.settings with warmCeiling := w, coolCeiling := c } := by
  rw [LightState.setCeilings]
  split
  next hsame =>
    obtain ⟨rfl, rfl⟩ : w = l.warmCeiling ∧ c = l.coolCeiling := by simpa using hsame
    rfl
  · exact formDuties_settings _

/-- The light unit's own part of LIGHT_SETUP (R132). -/
theorem setup_settings (l : LightState) (a : LightSetupArgs) : (l.setup a).settings = { l.settings with
    rampInterval := min a.ramp 255, dim := min a.dim 100, dwellTime := min a.dwell 3600
    dwell := if min a.dwell 3600 = 0 then none else if l.dwellTime = 0 then some (min a.dwell 3600) else l.dwell
    dimmed := if min a.dwell 3600 = 0 then false else l.dimmed
    warmCeiling := givenOr l.warmCeiling (fun v => max 1 (min v 200)) a.warmCeiling
    coolCeiling := givenOr l.coolCeiling (fun v => max 1 (min v 200)) a.coolCeiling } := by
  have hceiling : clampNat 1 200 = fun v => max 1 (min v 200) := rfl
  have hdwell := setDwell_settings ((l.setRamp (min a.ramp 255)).setDim (min a.dim 100)) (min a.dwell 3600)
  rw [setDim_settings, setRamp_settings] at hdwell
  simp only [LightState.setup, clampNat_zero, hceiling]
  generalize ((l.setRamp (min a.ramp 255)).setDim (min a.dim 100)).setDwell (min a.dwell 3600) = m at hdwell ⊢
  have hwarm : m.warmCeiling = l.warmCeiling := (congrArg LightState.warmCeiling hdwell :)
  have hcool : m.coolCeiling = l.coolCeiling := (congrArg LightState.coolCeiling hdwell :)
  rw [setCeilings_settings, hwarm, hcool, hdwell]
  rfl

/-- A ramp step moves the level one step, and the timer runs on until the target is reached (R124). -/
theorem rampStep_fields (l : LightState) : l.rampStep.target = l.target ∧
    (0 < l.interval → l.rampStep.level = stepToward l.level l.target) ∧
    (l.rampStep.level ≠ l.rampStep.target → l.rampStep.ramp = some l.interval) := by
  simp only [LightState.rampStep, formDuties_eq]
  split
  next hreached => exact ⟨rfl, fun _ => rfl, fun hne => absurd hreached hne⟩
  · split
    next hinterval =>
      rw [LightState.jump, formDuties_eq]
      exact ⟨rfl, fun hpos => absurd hinterval (Nat.pos_iff_ne_zero.1 hpos), fun hne => absurd rfl hne⟩
    · exact ⟨rfl, fun _ => rfl, fun _ => rfl⟩

/-! ## What a light event leaves outside the light (R127, R173) -/

/-- The power controller has heard of something: it has entered STANDBY, or its standby delay timer is all that has changed. -/
theorem powerReact_cases (s : State) : powerReact s = enterStandby s ∨ powerReact s = s.onPower PowerState.recheckDoze := by
  by_cases hsleep : s.power.mode = .settling ∧ s.power.fourIdle = true
  · exact .inl (by rw [powerReact, hsleep.1]; exact if_pos hsleep.2)
  · exact .inr (powerReact_awake fun hm => by simpa [hm] using hsleep)

/-- A light event changes the light as `f` says and no more of the budget unit than its copy of the power state; an entry to STANDBY
stops the dwell timer (R176). -/
theorem lightEvent_budget_light (f : LightState → LightState) (s : State) (hs : s.budget.power = s.power.mode) :
    (lightEvent f s).budget = { s.budget with power := (lightEvent f s).power.mode } ∧
    ((lightEvent f s).light = f s.light ∨
      (lightEvent f s).light = { f s.light with dwell := none } ∧ (lightEvent f s).power.mode = .standby) := by
  have hkept : s.budget = { s.budget with power := s.power.mode } := by rw [← hs]
  rw [lightEvent, tellLightDark]
  split
  · exact ⟨hkept, .inl rfl⟩
  · rcases powerReact_cases ((s.onLight f).onPower fun p => { p with lightDark := (f s.light).isDark }) with h | h
    · obtain ⟨hpower, -, -, hlight, -, -, hbudget⟩ := enterStandby_fields
        ((s.onLight f).onPower fun p => { p with lightDark := (f s.light).isDark })
      rw [onLight_light, h, hbudget, hpower, hlight]
      exact ⟨rfl, .inr ⟨rfl, rfl⟩⟩
    · rw [onLight_light, h, onPower_power, PowerState.recheckDoze_mode]
      exact ⟨hkept, .inl rfl⟩

/-- Within a light event all settings but the dwell timer are those that `f` leaves. -/
theorem lightEvent_settings (f : LightState → LightState) (s : State) :
    ∃ w, (lightEvent f s).light.settings = { (f s.light).settings with dwell := w } := by
  obtain ⟨w, hlight⟩ := lightEvent_light f s
  exact ⟨w, by rw [hlight]; rfl⟩

/-- A dwell timer that `f` leaves stopped stays stopped. -/
theorem lightEvent_dwell_none {f : LightState → LightState} {s : State} (hs : s.budget.power = s.power.mode)
    (hf : (f s.light).dwell = none) : (lightEvent f s).light.dwell = none := by
  rcases (lightEvent_budget_light f s hs).2 with h | ⟨h, -⟩ <;> rw [h]
  exact hf

/-- The frame of a command whose owner acts on the placed packet and replies. -/
theorem reply_placed_frameOf {bs cs : List Block} {i : Instr} {s u : State} (code tag : Nat) (st : Status)
    (h : FrameOf bs (s.placed i) u) (hbs : ∀ b ∈ bs, b ∈ cs := by decide) (hown : ∀ b ∈ [Block.power, .link], b ∈ cs := by decide) :
    FrameOf cs s (reply code tag st u) := by
  have hplaced : FrameOf [.link] s (s.placed i) := .of_same (placed_frame i s) rfl
  have hreply : FrameOf [.power, .link] u (reply code tag st u) := .of_same (reply_frame _ _ _ _) (reply_mode _ _ _ _)
  exact ((hplaced.mono fun b hb => hown b (List.mem_cons_of_mem _ hb)).trans (h.mono hbs)).trans (hreply.mono hown)

theorem placed_inStep (i : Instr) {s : State} (hs : s.coherent) : (s.placed i).inStep {} := (coherent_iff _).1 hs

/-- What a command that is one light event leaves, whatever it does to the light (R127, R130, R131). -/
theorem reply_lightEvent (code tag : Nat) (i : Instr) (f : LightState → LightState) {s : State} (hs : s.coherent)
    (hf : s.light.follows (f s.light)) :
    (reply code tag .ok (lightEvent f (s.placed i))).light.sound ∧
    (reply code tag .ok (lightEvent f (s.placed i))).link.queue = s.link.queue ++ [.reply (plainReply code tag .ok)] ∧
    FrameOf [.light, .power, .link] s (reply code tag .ok (lightEvent f (s.placed i))) := by
  have hplaced := placed_inStep i hs
  exact ⟨(lightEvent_effect {} f (s.placed i) hf hplaced).light,
    congrArg (· ++ [Entry.reply (plainReply code tag .ok)]) (lightEvent_sameWork f (s.placed i)).queue,
    reply_placed_frameOf code tag .ok (lightEvent_frameOf f (s.placed i))⟩

/-! ## LIGHT_SET (R130) -/

theorem lightSet_sets (tag : Nat) (a : LightSetArgs) {s : State} (hs : s.coherent) (hserves : s.serves) :
    ∃ t, exec (.lightSet tag (.fields a)) s = .next t ∧
      t.light.setLevel = givenOr s.light.setLevel (fun v => min v 100) a.level ∧
      t.light.warmth = givenOr s.light.warmth (fun v => min v 100) a.warmth ∧
      t.light.dimmed = false ∧ t.light.dark = false ∧ t.light.sound ∧
      (0 < s.light.dwellTime → t.power.mode ≠ .standby → t.light.dwell = some s.light.dwellTime) ∧
      t.link.queue = s.link.queue ++ [.reply (plainReply 0x71 tag .ok)] ∧ FrameOf [.light, .power, .link] s t := by
  let i : Instr := .lightSet tag (.fields a)
  obtain ⟨hsound, hqueue, hframe⟩ := reply_lightEvent 0x71 tag i (fun l => l.set a) hs (set_follows a s.light)
  have hset := set_settings s.light a
  obtain ⟨w, hfields⟩ : ∃ w, (lightEvent (fun l => l.set a) (s.placed i)).light.settings =
      { (s.light.set a).settings with dwell := w } := lightEvent_settings _ _
  rw [hset] at hfields
  refine ⟨_, congrArg Host.Outcome.next (takeCommand_fields i 0x71 tag a _ s hserves), (congrArg LightState.setLevel hfields :),
    (congrArg LightState.warmth hfields :), (congrArg LightState.dimmed hfields :), (congrArg LightState.dark hfields :), hsound,
    fun hpos hawake => ?_, hqueue, hframe⟩
  rw [reply_mode] at hawake
  obtain ⟨-, hkept | ⟨-, hasleep⟩⟩ := lightEvent_budget_light (fun l => l.set a) (s.placed i) ((coherent_iff s).1 hs).budgetMode
  · calc (lightEvent (fun l => l.set a) (s.placed i)).light.dwell
        = (s.light.set a).settings.dwell := (congrArg LightState.dwell hkept :)
      _ = some s.light.dwellTime := by rw [hset]; exact if_pos hpos
  · exact absurd hasleep hawake

/-! ## LIGHT_CURVE (R131) -/

theorem nonDecreasing_iff : ∀ ps : List Nat, nonDecreasing ps = true ↔ List.Pairwise (· ≤ ·) ps
  | [] => by simp [nonDecreasing]
  | [_] => by simp [nonDecreasing]
  | a :: b :: r => by
    rw [nonDecreasing, Bool.and_eq_true, decide_eq_true_eq, nonDecreasing_iff (b :: r), ← List.isChain_iff_pairwise,
      ← List.isChain_iff_pairwise, List.isChain_cons_cons]

theorem curveGood_iff (ps : List Nat) : (ps.all (· ≤ 4095) && nonDecreasing ps) = true ↔
    (∀ v ∈ ps, v ≤ 4095) ∧ List.Pairwise (· ≤ ·) ps := by
  simp only [Bool.and_eq_true, List.all_eq_true, decide_eq_true_eq, nonDecreasing_iff]

section
variable {tag : Nat} {ps : List Nat} {s : State} (hserves : s.serves)
include hserves

theorem lightCurve_badLength (h : ps.length ≠ 21) : exec (.lightCurve tag (.fields ps)) s =
    .next (s.answered (.lightCurve tag (.fields ps)) (plainReply 0x70 tag .badLength)) :=
  takeCommand_reply hserves (if_pos h)

theorem lightCurve_badParam (h : ps.length = 21) (hbad : ¬((∀ v ∈ ps, v ≤ 4095) ∧ List.Pairwise (· ≤ ·) ps)) :
    exec (.lightCurve tag (.fields ps)) s =
      .next (s.answered (.lightCurve tag (.fields ps)) (plainReply 0x70 tag .badParam)) := by
  rw [← curveGood_iff, Bool.not_eq_true] at hbad
  exact takeCommand_reply hserves ((if_neg (not_not.2 h)).trans (if_pos (by rw [hbad]; rfl)))

theorem lightCurve_ok (h : ps.length = 21) (hgood : (∀ v ∈ ps, v ≤ 4095) ∧ List.Pairwise (· ≤ ·) ps) :
    exec (.lightCurve tag (.fields ps)) s = .next (reply 0x70 tag .ok
      (lightEvent (fun l => { l with curve := ps }.formDuties) (s.placed (.lightCurve tag (.fields ps))))) := by
  rw [← curveGood_iff] at hgood
  exact congrArg Host.Outcome.next ((takeCommand_fields _ 0x70 tag ps _ s hserves).trans
    ((if_neg (not_not.2 h)).trans (if_neg (by rw [hgood]; decide))))

/-- A sound curve becomes the curve, and the duties follow. -/
theorem lightCurve_sets (hs : s.coherent) (h : ps.length = 21) (hgood : (∀ v ∈ ps, v ≤ 4095) ∧ List.Pairwise (· ≤ ·) ps) :
    ∃ t, exec (.lightCurve tag (.fields ps)) s = .next t ∧ t.light.curve = ps ∧ t.light.sound ∧
      t.light.level = s.light.level ∧ t.light.target = s.light.target ∧
      t.link.queue = s.link.queue ++ [.reply (plainReply 0x70 tag .ok)] ∧ FrameOf [.light, .power, .link] s t := by
  obtain ⟨hsound, hqueue, hframe⟩ := reply_lightEvent 0x70 tag (.lightCurve tag (.fields ps))
    (fun l => { l with curve := ps }.formDuties) hs (by exact curve_follows ps s.light)
  obtain ⟨w, hlight⟩ := lightEvent_light (fun l => { l with curve := ps }.formDuties) (s.placed (.lightCurve tag (.fields ps)))
  rw [formDuties_eq] at hlight
  exact ⟨_, lightCurve_ok hserves h hgood, (congrArg LightState.curve hlight :), hsound, (congrArg LightState.level hlight :),
    (congrArg LightState.target hlight :), hqueue, hframe⟩

end

/-! ## LIGHT_SETUP (R132, R78) -/

theorem setFloor_frameOf (v : Nat) (s : State) : FrameOf [.budget, .light, .power] s (setFloor v s) := by
  rw [setFloor]
  split
  · exact .of_same (.refl _ s) rfl
  · exact (FrameOf.of_same (onLight_frame _ s) rfl).mono.trans (rebudget_frameOf _ _)

/-- A floor that changes is recomputed with and brings a new allowance; the power controller hears nothing new (R78). -/
theorem setFloor_fields (v : Nat) {s : State} (hs : s.inStep {}) :
    (setFloor v s).budget = (if v = s.light.floor then s.budget else { s.budget with floor := v }.recompute) ∧
    (∃ a, (setFloor v s).light.settings = { s.light.settings with floor := v, allowance := a }) ∧
    (setFloor v s).power = s.power ∧ (setFloor v s).link = s.link := by
  rw [setFloor]
  split
  next hsame => exact ⟨rfl, ⟨s.light.allowance, by rw [hsame]; rfl⟩, rfl, rfl⟩
  · have hsound : LightState.sound { s.light with floor := v } := (sound_iff_steady _).2 ((sound_iff_steady s.light).1 hs.light)
    rw [rebudget_eq (s := s.onLight fun l => { l with floor := v }) hs.lightDark hsound]
    exact ⟨rfl, ⟨_, allow_settings _ _⟩, rfl, rfl⟩

/-- The light unit's own part of LIGHT_SETUP leaves the floor to the budget unit. -/
theorem lightEvent_setup_floor (a : LightSetupArgs) (s : State) :
    (lightEvent (fun l => l.setup a) s).light.floor = s.light.floor := by
  obtain ⟨w, hlight⟩ := lightEvent_light (fun l => l.setup a) s
  rw [hlight]
  exact (setup_follows a s.light).2.2

/-- LIGHT_SETUP without a value that the lock holds fast (R132, R186). -/
theorem lightSetup_ok {tag : Nat} {a : LightSetupArgs} {s : State} (hserves : s.serves)
    (hlock : s.link.locked = false ∨ (a.warmCeiling = none ∧ a.coolCeiling = none ∧ a.floor = none)) :
    exec (.lightSetup tag (.fields a)) s = .next (reply 0x72 tag .ok
      (setFloor (givenOr s.light.floor (fun v => min v 255) a.floor)
        (lightEvent (fun l => l.setup a) (s.placed (.lightSetup tag (.fields a)))))) := by
  have hopen : ¬((s.link.locked && (a.warmCeiling.isSome || a.coolCeiling.isSome || a.floor.isSome)) = true) := by
    rcases hlock with h | ⟨hwarm, hcool, hfloor⟩
    · simp [h]
    · simp [hwarm, hcool, hfloor]
  have hclamp : clampNat 0 255 = fun v => min v 255 := funext (clampNat_zero 255)
  refine congrArg Host.Outcome.next ((takeCommand_fields _ 0x72 tag a _ s hserves).trans ((if_neg hopen).trans ?_))
  simp only [lightEvent_setup_floor, hclamp]
  rfl

section
variable (a : LightSetupArgs) (v : Nat) {s : State} (hs : s.inStep {})
include hs

theorem setup_inStep : (lightEvent (fun l => l.setup a) s).inStep {} := lightEvent_effect {} _ s (setup_follows a s.light) hs

/-- The settings that LIGHT_SETUP with the floor `v` leaves, but for the dwell timer and the allowance. -/
theorem setup_setFloor_settings : ∃ w n, (setFloor v (lightEvent (fun l => l.setup a) s)).light.settings = { s.light.settings with
    rampInterval := min a.ramp 255, dim := min a.dim 100, dwellTime := min a.dwell 3600, dwell := w
    dimmed := if min a.dwell 3600 = 0 then false else s.light.dimmed
    warmCeiling := givenOr s.light.warmCeiling (fun v => max 1 (min v 200)) a.warmCeiling
    coolCeiling := givenOr s.light.coolCeiling (fun v => max 1 (min v 200)) a.coolCeiling
    floor := v, allowance := n } := by
  obtain ⟨w, hevent⟩ := lightEvent_settings (fun l => l.setup a) s
  obtain ⟨-, ⟨n, hfloor⟩, -⟩ := setFloor_fields v (setup_inStep a hs)
  rw [setup_settings] at hevent
  rw [hevent] at hfloor
  exact ⟨w, n, hfloor⟩

/-- A dwell time of 0 stops the dwell timer (R132). -/
theorem setup_setFloor_dwell (h : a.dwell = 0) : (setFloor v (lightEvent (fun l => l.setup a) s)).light.dwell = none := by
  have hsetup : (s.light.setup a).dwell = none :=
    ((congrArg LightState.dwell (setup_settings s.light a) :).trans (if_pos (by rw [h]; rfl)) :)
  obtain ⟨-, ⟨n, hfloor⟩, -⟩ := setFloor_fields v (setup_inStep a hs)
  exact (congrArg LightState.dwell hfloor :).trans (lightEvent_dwell_none hs.budgetMode hsetup)

/-- The budget unit recomputes where the floor changes (R78). -/
theorem setup_setFloor_budget : (setFloor v (lightEvent (fun l => l.setup a) s)).budget =
    { (if v = s.light.floor then s.budget else { s.budget with floor := v }.recompute) with
      power := (lightEvent (fun l => l.setup a) s).power.mode } := by
  obtain ⟨hbudget, -⟩ := setFloor_fields v (setup_inStep a hs)
  rw [hbudget, lightEvent_setup_floor, (lightEvent_budget_light _ s hs.budgetMode).1]
  split <;> rfl

end

theorem lightSetup_sets (tag : Nat) (a : LightSetupArgs) {s : State} (hs : s.coherent) (hserves : s.serves)
    (hlock : s.link.locked = false ∨ (a.warmCeiling = none ∧ a.coolCeiling = none ∧ a.floor = none)) :
    ∃ t, exec (.lightSetup tag (.fields a)) s = .next t ∧
      t.light.rampInterval = min a.ramp 255 ∧ t.light.dim = min a.dim 100 ∧ t.light.dwellTime = min a.dwell 3600 ∧
      t.light.warmCeiling = givenOr s.light.warmCeiling (fun v => max 1 (min v 200)) a.warmCeiling ∧
      t.light.coolCeiling = givenOr s.light.coolCeiling (fun v => max 1 (min v 200)) a.coolCeiling ∧
      t.light.floor = givenOr s.light.floor (fun v => min v 255) a.floor ∧
      t.budget = { (if t.light.floor = s.light.floor then s.budget
        else { s.budget with floor := t.light.floor }.recompute) with power := t.power.mode } ∧
      t.light.allowance = t.budget.allowance ∧
      (t.light.floor ≠ s.light.floor → t.budget.allowance =
        max ((if s.budget.lowbat then s.budget.low else s.budget.normal) - s.budget.estimate) t.light.floor) ∧
      t.light.setLevel = s.light.setLevel ∧ t.light.warmth = s.light.warmth ∧ t.light.sound ∧
      (a.dwell = 0 → t.light.dwell = none ∧ t.light.dimmed = false) ∧
      t.link.queue = s.link.queue ++ [.reply (plainReply 0x72 tag .ok)] ∧
      FrameOf [.light, .budget, .power, .link] s t := by
  have hplaced := placed_inStep (.lightSetup tag (.fields a)) hs
  have hexec := lightSetup_ok (tag := tag) hserves hlock
  generalize givenOr s.light.floor (fun v => min v 255) a.floor = v at hexec ⊢
  have hu := setup_inStep a hplaced
  obtain ⟨-, -, hpower, hlink⟩ := setFloor_fields v hu
  have ht := reply_effect {} 0x72 tag .ok _ (setFloor_effect {} v _ hu)
  obtain ⟨w, n, hfields⟩ := setup_setFloor_settings a v hplaced
  have hdwell := setup_setFloor_dwell a v hplaced
  have hbudget := setup_setFloor_budget a v hplaced
  have hqueue := (lightEvent_sameWork (fun l => l.setup a) (s.placed (.lightSetup tag (.fields a)))).queue
  have hframe := (lightEvent_frameOf (fun l => l.setup a) (s.placed (.lightSetup tag (.fields a)))).mono.trans (setFloor_frameOf v _)
  generalize lightEvent (fun l => l.setup a) (s.placed (.lightSetup tag (.fields a))) = u at *
  have hfloor : (reply 0x72 tag .ok (setFloor v u)).light.floor = v := (congrArg LightState.floor hfields :)
  refine ⟨_, hexec, (congrArg LightState.rampInterval hfields :),
    (congrArg LightState.dim hfields :), (congrArg LightState.dwellTime hfields :), (congrArg LightState.warmCeiling hfields :),
    (congrArg LightState.coolCeiling hfields :), hfloor, ?_, ht.allowance, fun hnew => ?_, (congrArg LightState.setLevel hfields :),
    (congrArg LightState.warmth hfields :), ht.light, fun hzero => ⟨hdwell hzero, ?_⟩, ?_, reply_placed_frameOf _ _ _ hframe⟩
  · rw [reply_mode, hpower, hfloor]
    exact hbudget
  · rw [hfloor] at hnew ⊢
    rw [if_neg (by exact hnew)] at hbudget
    exact (congrArg BudgetState.allowance hbudget :)
  · exact (congrArg LightState.dimmed hfields :).trans (if_pos (by rw [hzero]; rfl))
  · exact congrArg (· ++ [Entry.reply (plainReply 0x72 tag .ok)]) ((congrArg LinkState.queue hlink).trans hqueue)

/-! ## The ramp and the dwell timer (R124, R126) -/

theorem rampStep_steps {s : State} (hs : s.coherent) (h : s.light.ramp.isSome = true) :
    ∃ t, exec .rampStep s = .next t ∧ t.light.target = s.light.target ∧ t.light.sound ∧
      (0 < s.light.interval → t.light.level = stepToward s.light.level s.light.target) ∧
      (t.light.level ≠ t.light.target → t.light.ramp = some s.light.interval) ∧ FrameOf [.light, .power] s t := by
  obtain ⟨htarget, hlevel, hramp⟩ := rampStep_fields s.light
  obtain ⟨w, hlight⟩ := lightEvent_light LightState.rampStep s
  have hsound := (lightEvent_effect {} _ s (rampStep_follows s.light) ((coherent_iff s).1 hs)).light
  refine ⟨_, congrArg Host.Outcome.next (if_pos h), ?_, hsound, ?_, ?_, lightEvent_frameOf _ s⟩ <;> rw [hlight]
  · exact htarget
  · exact hlevel
  · exact hramp

theorem dwellExpire_dims {s : State} (hs : s.coherent) (h : s.light.dwell.isSome = true) :
    ∃ t, exec .dwellExpire s = .next t ∧ t.light.dwell = none ∧ t.light.dimmed = true ∧
      t.light.setLevel = s.light.setLevel ∧ t.light.sound ∧ FrameOf [.light, .power] s t := by
  have hstep := (coherent_iff s).1 hs
  have hover := dwellOver_settings s.light
  obtain ⟨w, hlight⟩ := lightEvent_settings LightState.dwellOver s
  rw [hover] at hlight
  exact ⟨_, congrArg Host.Outcome.next (if_pos h), lightEvent_dwell_none hstep.budgetMode (congrArg LightState.dwell hover :),
    (congrArg LightState.dimmed hlight :), (congrArg LightState.setLevel hlight :),
    (lightEvent_effect {} _ s (dwellOver_follows s.light) hstep).light, lightEvent_frameOf _ s⟩

/-- Settles O55: each command and timer is a light event, whose fields are those its light function leaves; LIGHT_SETUP hands the
floor on besides. -/
theorem lightCommandsSetTheLight : Obligations.LightCommandsSetTheLight := by
  refine fun tag s hs => ⟨fun a hserves => lightSet_sets tag a hs hserves, fun ps hserves => ⟨lightCurve_badLength hserves,
    fun h hbad => lightCurve_badParam hserves h ?_, fun h hmost hsorted => lightCurve_sets hserves hs h ⟨hmost, hsorted⟩⟩,
    fun a hserves hlock => lightSetup_sets tag a hs hserves hlock, fun h => ?_, rampStep_steps hs, fun h => ?_, dwellExpire_dims hs⟩
  · rintro ⟨hmost, hsorted⟩
    rcases hbad with ⟨v, hv, hlarge⟩ | hunsorted
    · exact absurd (hmost v hv) (Nat.not_le.2 hlarge)
    · exact hunsorted hsorted
  · exact congrArg Host.Outcome.next (if_neg (by simp [h]))
  · exact congrArg Host.Outcome.next (if_neg (by simp [h]))

end Sys2Proof.Machine
end
